-- ==== Sys2Proof/Word.lean ====
section
/-! DEFINITION. The words of the 416: the octet of its two serial lines, the sixteen-bit word of its CRC, and the
table with a fixed number of numbered entries. Every quantity of the manual (lengths, times, rates) is a whole
number (00_scope, 3.1) and is a `Nat` or an `Int`; only what the manual treats as bits is a bit vector. -/

namespace Sys2Proof

/-- One character of the host line or of the field line. -/
abbrev Byte := BitVec 8

/-- The CRC register of both frame formats (R167). -/
abbrev Word16 := BitVec 16

/-- The place of entry `number` (numbered from 1) in a table of `size` entries; none outside the table. -/
def place (number size : Nat) : Option (Fin size) :=
  if h : 1 ≤ number ∧ number ≤ size then some ⟨number - 1, by omega⟩ else none

/-- `place` answers exactly the numbers 1 to `size`. -/
theorem place_eq_some (number size : Nat) (i : Fin size) :
    place number size = some i ↔ number = i.val + 1 := by
  unfold place
  split
  · simp only [Option.some.injEq, Fin.ext_iff]; omega
  · simp only [reduceCtorEq, false_iff]
    have := i.isLt
    omega

end Sys2Proof
end

