-- ==== Sys2Proof/Request.lean ====
section
/-! DEFINITION. What a host request carries (the field tables of the chapters, R164, R167): one constructor per request
kind. Operands are the numbers as the host sent them, before any range check; an enumeration or an ON/OFF operand
is its octet (R164: numbered from 0 in the order the chapter lists; 1 for ON, 0 for OFF). -/

namespace Sys2Proof

/-- FIELD_SET (R17). -/
structure FieldSetArgs where
  ownAddress      : Nat
  acceptBroadcast : Nat
  groupSet        : Nat
  inverseGroups   : Nat
  passAllGroups   : Nat
  postGroup       : Nat
  capture         : Nat
  backoffBits     : Nat
  singleAttempt   : Nat
  deriving DecidableEq, Repr

/-- HEAD_SET (R24); `kind` is 0 for STAGE and 1 for POST. -/
structure HeadSetArgs where
  entry   : Nat
  enable  : Nat
  address : Nat
  kind    : Nat
  channel : Option Nat
  normal  : Nat
  quiet   : Nat
  deriving DecidableEq, Repr

/-- HEAD_PARAM (R36); `operation` is 0 for GET and 1 for SET. -/
structure HeadParamArgs where
  entry     : Nat
  operation : Nat
  parameter : Nat
  value     : Option Int
  deriving DecidableEq, Repr

/-- CHANNEL_SET (R46); `sense` is 0 for DIRECT and 1 for INVERTED. -/
structure ChannelSetArgs where
  channel   : Nat
  enable    : Nat
  gain      : Nat
  offset    : Int
  sense     : Nat
  minimum   : Int
  maximum   : Int
  stepLimit : Nat
  window    : Nat
  staleTime : Nat
  rank      : Nat
  deriving DecidableEq, Repr

/-- STAGE_SET (R79); `method` is 0 for RANKED and 1 for MIDDLE. -/
structure StageSetArgs where
  method         : Nat
  agreement      : Nat
  required       : Nat
  normalInterval : Nat
  quietInterval  : Nat
  rateWindow     : Nat
  deriving DecidableEq, Repr

/-- RULE_SET (R83); `kind` is 0 for STAGE and 1 for RATE. -/
structure RuleSetArgs where
  rule           : Nat
  enable         : Nat
  kind           : Nat
  level          : Nat
  setThreshold   : Int
  clearThreshold : Int
  confirmTime    : Nat
  clearDelay     : Nat
  deriving DecidableEq, Repr

/-- WARNING_SET (R97). -/
structure WarningSetArgs where
  sirenLevel     : Nat
  sirenRun       : Nat
  repeatInterval : Nat
  withdrawLevel  : Nat
  deriving DecidableEq, Repr

/-- CARRIAGE_SET (R107). -/
structure CarriageSetArgs where
  traverseScale : Nat
  reelScale     : Nat
  span          : Nat
  tolerance     : Nat
  stallTime     : Nat
  weightOffset  : Nat
  maxDepth      : Nat
  settleTime    : Nat
  deriving DecidableEq, Repr

/-- One segment of a meter rating (R127). -/
structure Segment where
  lower     : Nat
  intercept : Int
  pitch     : Nat
  deriving DecidableEq, Repr

/-- METER_SET (R127). -/
structure MeterSetArgs where
  ratio     : Nat
  startRate : Nat
  segments  : List Segment
  deriving DecidableEq, Repr

/-- PLAN_PUT (R125); `method` is 0 EDGE, 1 ONE_POINT, 2 TWO_POINT, 3 THREE_POINT, 4 SURFACE. -/
structure PlanPutArgs where
  index       : Nat
  distance    : Nat
  method      : Nat
  depth       : Option Nat
  coefficient : Option Nat
  exposure    : Option Nat
  deriving DecidableEq, Repr

/-- The optional source item of NOTICE_SET (R149). -/
structure NoticeItem where
  source : Nat
  enable : Nat
  level  : Nat
  deriving DecidableEq, Repr

/-- WAKE_SET (R173). -/
structure WakeSetArgs where
  levelChange : Nat
  stage       : Nat
  wakeStage   : Int
  rate        : Nat
  wakeRate    : Int
  levelFive   : Nat
  postFault   : Nat
  deriving DecidableEq, Repr

/-- A request as it is handed to the block that owns its matter (R161). -/
inductive Request where
  | identify
  | linkSet (rate : Nat)
  | timeSet (value : Nat)
  | timeRead
  | timeSource (source : Nat)
  | trimSet (correction : Int)
  | fieldSet (args : FieldSetArgs)
  | headSet (args : HeadSetArgs)
  | headRead (entry : Nat)
  | headParam (args : HeadParamArgs)
  | captureRead
  | channelSet (args : ChannelSetArgs)
  | channelRead (channel : Nat)
  | stageSet (args : StageSetArgs)
  | stageRead
  | recordRead (start count : Nat)
  | ruleSet (args : RuleSetArgs)
  | ruleRead (rule : Nat)
  | warningSet (args : WarningSetArgs)
  | warningRead
  | warningAck
  | warningFloor (floor : Nat)
  | monitorSet (enable exponent : Nat)
  | carriageSet (args : CarriageSetArgs)
  | carriageHome
  | carriageRead
  | meterSet (args : MeterSetArgs)
  | planClear (exposure changeLimit : Nat)
  | planPut (args : PlanPutArgs)
  | planRead (index : Nat)
  | runStart
  | runSkip
  | runAbort
  | runRead
  | resultRead (vertical : Nat)
  | quiet
  | wakeSet (args : WakeSetArgs)
  | causeRead
  | causeClear
  | noticeSet (master : Nat) (item : Option NoticeItem)
  | noticeDone
  | hold (units : Nat)
  | save
  | restart
  deriving DecidableEq, Repr

/-- The reasons a request is refused for (R167). -/
inductive Reason where
  | length | unknownKind | range | state | busy | duplicate | order | plan | meter | level | notFound
  deriving DecidableEq, Repr

/-- A valid host frame: its KIND and TAG as received, and what R161 finds in it, the request it carries or the
reason (UNKNOWN_KIND or LENGTH) for which no block is asked. -/
structure HostFrame where
  kind    : Byte
  tag     : Byte
  content : Except Reason Request
  deriving DecidableEq, Repr

end Sys2Proof
end

