-- ==== Sys2Proof/Syntax.lean ====
section
/-! DEFINITION. The commands of the 416: one constructor of `Instr` per row of spec/opcode_table.json, in the order of
the table. Three kinds of row: the four resets; a host request, which carries the TAG of its frame and its
operands (R161, R167); and an event at a pin, a line or a timer of the part. -/

namespace Sys2Proof

/-- One command. A host request stands for the arrival of a valid host frame that carries it (log 2). -/
inductive Instr where
  -- Resets (R168, R169)
  | powerOn
  | brownout
  | resetIn
  | restartRequest
  -- The crystal (R4 to R6)
  | crystalEdge
  | edgeGapExpiry
  | qualificationExpiry
  -- The host line (R159 to R163)
  /-- `octets` is the whole frame after SYNC: LEN, KIND, TAG, payload and the two CRC octets. -/
  | hostFrameArrival (octets : List Byte)
  | hostFrameGapExpiry
  | hostFrameSent
  | unknownKind (kind tag : Byte)
  -- Host requests
  | identify (tag : Byte)
  | linkSet (tag : Byte) (rate : Nat)
  | timeSet (tag : Byte) (value : Nat)
  | timeRead (tag : Byte)
  | timeSource (tag : Byte) (source : Nat)
  | trimSet (tag : Byte) (correction : Int)
  | fieldSet (tag : Byte) (args : FieldSetArgs)
  | headSet (tag : Byte) (args : HeadSetArgs)
  | headRead (tag : Byte) (entry : Nat)
  | headParam (tag : Byte) (args : HeadParamArgs)
  | captureRead (tag : Byte)
  | channelSet (tag : Byte) (args : ChannelSetArgs)
  | channelRead (tag : Byte) (channel : Nat)
  | stageSet (tag : Byte) (args : StageSetArgs)
  | stageRead (tag : Byte)
  | recordRead (tag : Byte) (start count : Nat)
  | ruleSet (tag : Byte) (args : RuleSetArgs)
  | ruleRead (tag : Byte) (rule : Nat)
  | warningSet (tag : Byte) (args : WarningSetArgs)
  | warningRead (tag : Byte)
  | warningAck (tag : Byte)
  | warningFloor (tag : Byte) (floor : Nat)
  | monitorSet (tag : Byte) (enable exponent : Nat)
  | carriageSet (tag : Byte) (args : CarriageSetArgs)
  | carriageHome (tag : Byte)
  | carriageRead (tag : Byte)
  | meterSet (tag : Byte) (args : MeterSetArgs)
  | planClear (tag : Byte) (exposure changeLimit : Nat)
  | planPut (tag : Byte) (args : PlanPutArgs)
  | planRead (tag : Byte) (index : Nat)
  | runStart (tag : Byte)
  | runSkip (tag : Byte)
  | runAbort (tag : Byte)
  | runRead (tag : Byte)
  | resultRead (tag : Byte) (vertical : Nat)
  | quiet (tag : Byte)
  | wakeSet (tag : Byte) (args : WakeSetArgs)
  | causeRead (tag : Byte)
  | causeClear (tag : Byte)
  | noticeSet (tag : Byte) (master : Nat) (item : Option NoticeItem)
  | noticeDone (tag : Byte)
  | hold (tag : Byte) (units : Nat)
  | save (tag : Byte)
  | restart (tag : Byte)
  -- The store, the field line, the channels and the stage record
  /-- `holds`: the check of what was written holds. -/
  | saveWriteEnd (holds : Bool)
  /-- `octets` is the whole frame after SYNC: destination, source, kind, length, payload and the two CRC octets. -/
  | fieldFrameReceived (octets : List Byte)
  | fieldCharacterGap
  | pollDue (entry : Nat)
  | lineIdle
  | deferralExpiry
  | collision
  | backoffExpiry
  | fieldFrameSent
  | replyWindowExpiry
  | warnRefreshExpiry
  | staleExpiry (channel : Nat)
  | recordTimerExpiry
  | waitingAppend
  -- The warning unit
  | confirmTimerExpiry (rule : Nat)
  | clearTimerExpiry (rule : Nat)
  | sirenRunExpiry
  | repeatExpiry
  | monitorExpiry
  -- The cableway and the exposure
  /-- `outward`: the pulse's direction is OUT. -/
  | traversePulse (outward : Bool)
  /-- `down`: the pulse's direction is DOWN. -/
  | reelPulse (down : Bool)
  | homeLimitClose
  | farLimitClose
  | reelTopChange (closed : Bool)
  | surfaceContactClose
  | bottomContactChange (closed : Bool)
  | winchOverload
  | stallExpiry
  | holdTimerExpiry
  | settleExpiry
  | meterContact
  | exposureEnding
  | lateLimitExpiry
  | startWaitExpiry
  -- The hold, single characters and the opening of the switches
  | holdExpiry
  /-- `stopBit`: the character came with its stop bit. -/
  | hostCharacterReceived (octet : Byte) (stopBit : Bool)
  | fieldCharacterReceived (octet : Byte)
  | homeLimitOpen
  | farLimitOpen
  | surfaceContactOpen
  | winchOverloadClear
  deriving DecidableEq, Repr

end Sys2Proof
end

