-- ==== Sys2Proof/Decode.lean ====
section
/-! DEFINITION. No row of spec/opcode_table.json gives bits: the 416 is commanded by events and by host frames, whose octets
are read in Machine/Operands.lean (R161, R167). -/

namespace Sys2Proof

/-- The command that a word spells by the table's bits: none, since the table gives bits to no row. -/
def decodeTableWord (_nbits _w : Nat) : Option Instr := none

end Sys2Proof
end

