-- ==== Sys2Proof/Config.lean ====
section
/-! DEFINITION. What the design fixes (times and capacities the manual states) and the FREE VALUES: what the manual
leaves open although the part goes on. A free value has no body, so nothing can be proved of the number it is. -/

namespace Sys2Proof.Config

/-! ## Free values (each is named in the assumption log) -/

/-- R1: the factory trim, written at manufacture; the manual gives no number for it (log 3). -/
opaque factoryTrim : Nat

/-- R30: the `n`-th draw of the backoff generator, before it is reduced to the span of the draw (log 4). -/
opaque backoffDraw : Nat → Nat

/-- R3: how much of the millisecond in progress is left when the source becomes XTAL (log 5). -/
opaque phaseLeft : Nat → Nat

/-- R3: what run time becomes after 2⁴⁸−1, before it is reduced to its range (log 6). -/
opaque runTimeAfterLast : Nat → Nat

/-- R171: whether the check of a written store holds, when no report of it has come by 800 ms (log 7). -/
opaque storeCheck : Nat → Bool

/-- R167: what an octet other than 0 and 1 says in a field frame's status, siren, fault or result octet (log 8). -/
opaque unlistedOctet : Byte → Bool

/-! ## Times of the manual, in ms -/

/-- R4: the edge-gap timer. -/
def edgeGap : Nat := 4
/-- R4: the qualification timer. -/
def qualification : Nat := 1000
/-- R29: the line is idle when no character has arrived for this long. -/
def lineIdle : Nat := 2
/-- R18: a longer gap than this between two characters ends a field frame. -/
def fieldGap : Nat := 2
/-- R29: the deferral timer. -/
def deferral : Nat := 1500
/-- R30: one backoff slot. -/
def backoffSlot : Nat := 5
/-- R31: the reply window. -/
def replyWindow : Nat := 250
/-- R39: the refresh timer. -/
def refresh : Nat := 30000
/-- R115: the bottom hold. -/
def bottomHold : Nat := 1000
/-- R132: the start wait of an exposure. -/
def startWait : Nat := 30000
/-- R132: how long after t₀ + E the late limit expires. -/
def lateLimit : Nat := 30000
/-- R132: a contact that follows the previous accepted one by less than this is chatter. -/
def chatter : Nat := 15
/-- R159: a longer gap than this between two characters abandons a host frame. -/
def hostGap : Nat := 50
/-- R171: writing the store ends within this. -/
def saveLimit : Nat := 800

/-! ## Bounds of the manual -/

/-- R3: run time is 0..2⁴⁸−1. -/
def lastRunTime : Nat := 2 ^ 48 - 1
/-- R9: station time is 0..2⁴⁷−1. -/
def lastStationTime : Nat := 2 ^ 47 - 1
/-- R22: the capture queue holds up to 8 frames. -/
def captureSize : Nat := 8
/-- R71: the ring holds at most 256 records. -/
def ringSize : Nat := 256
/-- R71: sequence numbers run to 4,294,967,295 and on to 0. -/
def sequences : Nat := 2 ^ 32
/-- R124: the plan holds up to 40 entries. -/
def planSize : Nat := 40
/-- R30: the attempt that ends a transaction. -/
def attempts : Nat := 8
/-- R114: the payout at which a surface must have been found, in µm. -/
def surfaceLimit : Int := 30000000
/-- R115: how far the weight is lifted after a failed touch, in µm. -/
def bounce : Int := 300000
/-- R116: the meter depth of a SURFACE vertical, in mm. -/
def surfaceDepth : Nat := 100
/-- R62: each channel counter is held here. -/
def counterTop : Nat := 65535
/-- R167: the largest payload of a host frame. -/
def hostPayload : Nat := 200
/-- R18: the largest payload of a field frame. -/
def fieldPayload : Nat := 48
/-- R165: the design revision that the manual describes. -/
def revision : Nat := 3

end Sys2Proof.Config
end

