-- ==== Sys2Proof/Machine/Blocks.lean ====
section
/-! DEFINITION. The state each block of the 416 owns (00_scope, section 2; the list that opens each chapter). Run times
are in ms since the last cold reset; a timer is held as the run time of its expiry. An optional piece of state is
an `Option` exactly where the manual calls it absent at times. -/

namespace Sys2Proof.Machine

/-! ## What the host link carries (R163, R164) -/

/-- One field of a reply or a notice, with the encoding R164 gives it. -/
inductive Field where
  /-- A whole number in so many octets. -/
  | num (octets : Nat) (value : Int)
  /-- ON/OFF, YES/NO, SET/CLEAR: one octet, 1 or 0. -/
  | flag (value : Bool)
  /-- Another enumeration: one octet, numbered from 0 in the order the chapter lists. -/
  | code (number : Nat)
  /-- A flag set or a set of channels, rules or buckets, first item in the lowest bit. -/
  | bits (octets : Nat) (mask : Nat)
  /-- The presence octet of an optional field without a value. -/
  | absent
  /-- The presence octet of an optional field whose value follows. -/
  | present
  /-- The count octet of a list. -/
  | count (items : Nat)
  /-- A text: a count octet and its ASCII characters. -/
  | text (characters : List Nat)
  /-- Octets carried as they were received. -/
  | raw (octets : List Byte)
  deriving DecidableEq, Repr

/-- A frame in the reply holder or the notice holder. -/
structure OutFrame where
  kind    : Nat
  tag     : Byte
  payload : List Field
  deriving DecidableEq, Repr

/-- Which holder's frame is going out. -/
inductive Holder where
  | reply | notice
  deriving DecidableEq, Repr

/-- How far a RESTART has come (R169): none; accepted, its reply not yet gone; its reply gone, the reset due. -/
inductive RestartStage where
  | none | accepted | due
  deriving DecidableEq, Repr

/-- The request in hand (R161). -/
structure InHand where
  kind : Byte
  tag  : Byte
  deriving DecidableEq, Repr

/-- The host link (chapter 9). -/
structure HostLink where
  /-- The rate held and the rate in force, baud (R158). -/
  rateHeld     : Nat
  rateInForce  : Nat
  /-- none in HUNT; in ASSEMBLING the octets after SYNC so far (R159). -/
  assembling   : Option (List Byte)
  /-- Run time of the last character of the frame being assembled. -/
  lastOctet    : Nat
  inHand       : Option InHand
  waiting      : Option HostFrame
  reply        : Option OutFrame
  notice       : Option OutFrame
  /-- The holder whose frame is on the line. -/
  line         : Option Holder
  restart      : RestartStage
  /-- A valid frame has arrived and its request is not yet taken, or the part is being reset: the link is not
  ready (R163, R166). False between commands. -/
  unready      : Bool
  deriving DecidableEq, Repr

/-! ## Time base (chapter 1) -/

/-- The crystal monitor (R4). -/
inductive Crystal where
  | starting | running | stopped
  deriving DecidableEq, Repr

/-- The selected source (R5). -/
inductive ClockSource where
  | xtal | rc
  deriving DecidableEq, Repr

/-- The time quality (R11). -/
inductive TimeQuality where
  | unset | precise | degraded
  deriving DecidableEq, Repr

structure TimeBase where
  activeTrim      : Nat
  /-- The user correction c, ppm (R1, R2). -/
  correction      : Int
  /-- The factory-trimmed count, ms (R1). -/
  reference       : Nat
  crystal         : Crystal
  /-- Expiries of the monitor's two timers, on the factory-trimmed count (R4). -/
  edgeGap         : Option Nat
  qualification   : Option Nat
  source          : ClockSource
  arm             : Bool
  runTime         : Nat
  /-- Cycles counted in the group of 4,096 (R3). -/
  groupCycles     : Nat
  /-- Factory-trimmed ms counted in the block of 1,000,000 (R3). -/
  blockCount      : Nat
  /-- The ms in progress when the source or c changed, to be completed on the source selected (R3): under XTAL
  the cycles it still takes (log 5), under RC the ms of run time it still gives (log 49). -/
  completing      : Option Nat
  /-- Ms of run time that the factory-trimmed ms in progress has given before its end (log 9). -/
  early           : Nat
  /-- Factory-trimmed ms under XTAL since the last crystal edge or the choice of XTAL, whichever was later (R3, R6):
  run time has not counted them. -/
  edgeless        : Nat
  stationTime     : Option Nat
  lastStep        : Option Int
  lastStepRunTime : Option Nat
  stepPending     : Bool
  /-- The RC mark of the record span, always open (R13). -/
  recordMark      : Bool
  /-- The RC mark of the exposure span, when one is open (R13). -/
  exposureSpan    : Option Bool
  deriving DecidableEq, Repr

/-! ## Field line (chapter 2) -/

structure FieldSettings where
  ownAddress      : Nat
  acceptBroadcast : Bool
  /-- Sixteen bucket flags, bucket 0 in the lowest bit. -/
  groupSet        : Nat
  inverseGroups   : Bool
  passAllGroups   : Bool
  postGroup       : Nat
  capture         : Bool
  backoffBits     : Nat
  singleAttempt   : Bool
  deriving DecidableEq, Repr

inductive HeadKind where
  | stage | post
  deriving DecidableEq, Repr

structure HeadConfig where
  enable  : Bool
  address : Nat
  kind    : HeadKind
  channel : Option Nat
  normal  : Nat
  quiet   : Nat
  deriving DecidableEq, Repr

inductive EntryState where
  | answering | silent
  deriving DecidableEq, Repr

/-- How a transaction ends (2.6); `sent` is a WARN's. -/
inductive TxOutcome where
  | reply | noReply | deferredOut | excessCollision | sent
  deriving DecidableEq, Repr

structure PostStatus where
  displayed : Nat
  siren     : Bool
  fault     : Bool
  deriving DecidableEq, Repr

/-- One entry of the head table: configuration and working state (2.4). -/
structure HeadEntry where
  config      : HeadConfig
  nextDue     : Option Nat
  noReply     : Nat
  state       : EntryState
  lastOutcome : Option TxOutcome
  lastAnswer  : Option Nat
  post        : Option PostStatus
  deriving DecidableEq, Repr

/-- The filter's result for a frame (R21, R22). -/
inductive FilterResult where
  | passed | failedDestination | failedSource | notTaken
  deriving DecidableEq, Repr

/-- A field frame without SYNC, length and CRC (R167). -/
structure FieldFrame where
  destination : Nat
  source      : Nat
  kind        : Nat
  payload     : List Byte
  deriving DecidableEq, Repr

/-- A record of the capture queue (R22). -/
structure Captured where
  runTime : Nat
  frame   : FieldFrame
  result  : FilterResult
  deriving DecidableEq, Repr

/-- The transmitter's states (2.6). -/
inductive TxState where
  | free | waitingIdle | sending | backoff | replyWindow
  deriving DecidableEq, Repr

/-- What a transaction is for; a poll names its entry, a WARN keeps the level it sends. -/
inductive TxKind where
  | poll (entry : Fin 8)
  | management
  | warn (level : Nat)
  deriving DecidableEq, Repr

/-- A transaction; the two settings that govern its collisions are those that stood when it was chosen (R17, R30). -/
structure Transaction where
  kind          : TxKind
  frame         : FieldFrame
  attempts      : Nat
  backoffBits   : Nat
  singleAttempt : Bool
  deriving DecidableEq, Repr

inductive ParamOp where
  | get | set
  deriving DecidableEq, Repr

/-- The management transaction, WAITING or IN_FLIGHT (R36, R37). -/
structure Management where
  entry     : Fin 8
  op        : ParamOp
  parameter : Nat
  value     : Option Int
  inFlight  : Bool
  deriving DecidableEq, Repr

/-- The WARN request (R39). -/
inductive WarnRequest where
  | none | standing | heldBack
  deriving DecidableEq, Repr

/-- The level last sent and the run time at which it was sent (R40, R42). -/
structure LastSent where
  level   : Nat
  runTime : Nat
  deriving DecidableEq, Repr

structure FieldLine where
  settings    : FieldSettings
  captured    : List Captured
  overflow    : Bool
  heads       : Vector HeadEntry 8
  tx          : TxState
  transaction : Option Transaction
  deferral    : Option Nat
  backoff     : Option Nat
  window      : Option Nat
  management  : Option Management
  warn        : WarnRequest
  /-- Expiry of the refresh timer (R39). -/
  refresh     : Nat
  lastSent    : Option LastSent
  /-- The octets after SYNC of the frame being gathered; none between frames (R18). -/
  gathering   : Option (List Byte)
  /-- Run time of the last character on the line; none when there was none (R29). -/
  lastOctet   : Option Nat
  deriving DecidableEq, Repr

/-! ## Stage channels (chapter 3) -/

inductive Sense where
  | direct | inverted
  deriving DecidableEq, Repr

structure ChannelSettings where
  enable    : Bool
  gain      : Nat
  offset    : Int
  sense     : Sense
  minimum   : Int
  maximum   : Int
  stepLimit : Nat
  window    : Nat
  staleTime : Nat
  rank      : Nat
  deriving DecidableEq, Repr

inductive ChannelState where
  | off | filling | valid | stale | faulted
  deriving DecidableEq, Repr

inductive Verdict where
  | accepted | reAnchor | outOfRange | step | headFault
  deriving DecidableEq, Repr

structure LastReading where
  value     : Int
  fault     : Bool
  corrected : Option Int
  runTime   : Nat
  verdict   : Verdict
  deriving DecidableEq, Repr

inductive ChannelCause where
  | enabled | disabled | settings | filled | accepted | reAnchor | staleTime | headFault | headLost
  | rejections
  deriving DecidableEq, Repr

structure ChannelChange where
  cause   : ChannelCause
  runTime : Nat
  deriving DecidableEq, Repr

/-- The five counters of R62. -/
structure Counters where
  accepted   : Nat
  range      : Nat
  step       : Nat
  reAnchors  : Nat
  headFaults : Nat
  deriving DecidableEq, Repr

structure Channel where
  settings    : ChannelSettings
  state       : ChannelState
  /-- Accepted values, oldest first. -/
  window      : List Int
  rejections  : Nat
  /-- The re-anchor chain: length 0..2 and, when it is not 0, the candidate. -/
  chainLength : Nat
  candidate   : Option Int
  staleExpiry : Option Nat
  lastReading : Option LastReading
  lastChange  : Option ChannelChange
  counters    : Counters
  deriving DecidableEq, Repr

/-! ## Station stage (chapter 4) -/

inductive VoteMethod where
  | ranked | middle
  deriving DecidableEq, Repr

structure StageSettings where
  method         : VoteMethod
  agreement      : Nat
  required       : Nat
  normalInterval : Nat
  quietInterval  : Nat
  rateWindow     : Nat
  deriving DecidableEq, Repr

/-- What a channel last handed over (R65). -/
structure ChannelItem where
  state    : ChannelState
  filtered : Option Int
  deriving DecidableEq, Repr

inductive Quality where
  | good | degraded | none
  deriving DecidableEq, Repr

/-- The flags of a stage record (R75). -/
structure RecordFlags where
  timingRC    : Bool
  timeStepped : Bool
  event       : Bool
  runActive   : Bool
  autonomous  : Bool
  warmRestart : Bool
  deriving DecidableEq, Repr

/-- A stage record (R74). -/
structure StageRecord where
  sequence    : Nat
  runTime     : Nat
  stationTime : Option Nat
  stage       : Option Int
  quality     : Quality
  rate        : Option Int
  level       : Nat
  channels    : List Nat
  flags       : RecordFlags
  deriving DecidableEq, Repr

/-- What asked for an append (R72, R73). -/
inductive Append where
  | interval | event
  deriving DecidableEq, Repr

structure StageUnit where
  settings        : StageSettings
  items           : Vector ChannelItem 4
  stage           : Option Int
  spread          : Option Nat
  disagree        : Bool
  quality         : Quality
  previousQuality : Option Quality
  chosen          : Option Nat
  /-- Oldest first. -/
  ring            : List StageRecord
  nextSequence    : Nat
  /-- Expiry of the record timer; kept at the expiry while its append waits. -/
  recordExpiry    : Nat
  waiting         : List Append
  rate            : Option Int
  warmRestart     : Bool
  deriving DecidableEq, Repr

/-! ## Flood warning (chapter 5) -/

inductive RuleKind where
  | stage | rate
  deriving DecidableEq, Repr

structure RuleDef where
  enable         : Bool
  kind           : RuleKind
  level          : Nat
  setThreshold   : Int
  clearThreshold : Int
  confirmTime    : Nat
  clearDelay     : Nat
  deriving DecidableEq, Repr

inductive RuleState where
  | idle | confirming | active | clearing
  deriving DecidableEq, Repr

/-- A rule's one timer (R87, R88): none, running to an expiry, or paused with the ms it still has to run. -/
inductive RuleTimer where
  | none
  | running (expiry : Nat)
  | paused (remaining : Nat)
  deriving DecidableEq, Repr

structure Rule where
  definition : RuleDef
  state      : RuleState
  blind      : Bool
  timer      : RuleTimer
  /-- The last value judged, kept through a warm reset (R105). -/
  lastValue  : Option Int
  /-- Whether the rule has judged a value since the last reset or taken RULE_SET: RULE_READ shows the last value
  judged only then (R84, log 56). -/
  judged     : Bool
  /-- Run time of the last change of state (R84). -/
  lastChange : Option Nat
  deriving DecidableEq, Repr

structure WarningSettings where
  sirenLevel     : Nat
  sirenRun       : Nat
  repeatInterval : Nat
  withdrawLevel  : Nat
  deriving DecidableEq, Repr

structure MonitorSettings where
  enable   : Bool
  exponent : Nat
  deriving DecidableEq, Repr

inductive LevelCause where
  | rule (index : Fin 8)
  | floor
  deriving DecidableEq, Repr

structure LevelChange where
  oldLevel : Nat
  newLevel : Nat
  cause    : LevelCause
  runTime  : Nat
  deriving DecidableEq, Repr

/-- The siren, with the expiry of its timer (R94). -/
inductive Siren where
  | off
  | sounding (expiry : Nat)
  | repeatWait (expiry : Nat)
  deriving DecidableEq, Repr

/-- The host-silence monitor (R98). -/
inductive Monitor where
  | off
  | running (expiry : Nat)
  | suspended
  | stopped
  deriving DecidableEq, Repr

/-- The spell record (R100 to R102); the left fields are absent until the spell ends. -/
structure Spell where
  enteredRunTime : Nat
  enteredStation : Option Nat
  leftRunTime    : Option Nat
  leftStation    : Option Nat
  highest        : Nat
  atDeparture    : Option Nat
  sirenStarts    : Nat
  deriving DecidableEq, Repr

structure WarningUnit where
  rules      : Vector Rule 8
  stageInput : Option Int
  rateInput  : Option Int
  settings   : WarningSettings
  monitorSettings : MonitorSettings
  floor      : Nat
  level      : Nat
  lastChange : Option LevelChange
  beaconA    : Bool
  beaconB    : Bool
  siren      : Siren
  monitor    : Monitor
  autonomous : Bool
  spell      : Option Spell
  deriving DecidableEq, Repr

/-! ## Cableway (chapter 6) -/

structure CarriageSettings where
  traverseScale : Option Nat
  reelScale     : Option Nat
  span          : Option Nat
  tolerance     : Nat
  stallTime     : Nat
  weightOffset  : Nat
  maxDepth      : Option Nat
  settleTime    : Nat
  deriving DecidableEq, Repr

/-- The output driven. At most one is: R109 never drives both directions of an axis, nor both axes. -/
inductive Drive where
  | traverseOut | traverseIn | reelDown | reelUp
  deriving DecidableEq, Repr

inductive SoundMode where
  | full | surface
  deriving DecidableEq, Repr

/-- The phases of SEEKING_BOTTOM (R115); BOUNCE keeps the reel depth, in µm, at which the contact opened. -/
inductive BottomPhase where
  | seek
  | hold
  | bounce (opened : Int)
  deriving DecidableEq, Repr

/-- The motion states (6.3), each with its target or phase; targets are in mm. -/
inductive Motion where
  | unreferenced
  | homing
  | parked
  | travelling (target : Nat)
  | atVertical
  | seekingSurface (mode : SoundMode)
  | seekingBottom (phase : BottomPhase)
  | toPoint (target : Int)
  | atPoint
  | raising
  | retracting
  | faulted
  deriving DecidableEq, Repr

structure Sounding where
  failed : Nat
  depth  : Option Nat
  deriving DecidableEq, Repr

inductive FaultCause where
  | stall | overload | limit | depthLimit | noSurface
  deriving DecidableEq, Repr

/-- The fault record (R119); measures in mm. -/
structure FaultRecord where
  cause       : FaultCause
  motion      : Motion
  reelTop     : Bool
  outputs     : Option Drive
  position    : Option Int
  payout      : Option Int
  depth       : Option Int
  runTime     : Nat
  stationTime : Option Nat
  deriving DecidableEq, Repr

/-- The switch inputs as the controller judges them (R106): true is CLOSED, or ACTIVE for the overload. -/
structure Switches where
  homeLimit : Bool
  farLimit  : Bool
  reelTop   : Bool
  surface   : Bool
  bottom    : Bool
  overload  : Bool
  deriving DecidableEq, Repr

structure Cableway where
  settings      : CarriageSettings
  /-- The two counts, in µm (R106). -/
  traverseCount : Int
  reelCount     : Int
  /-- Whether the carriage position and the reel payout are present (R108). -/
  positionKnown : Bool
  payoutKnown   : Bool
  /-- The surface point, µm of payout (R108). -/
  surfacePoint  : Option Int
  motion        : Motion
  drive         : Option Drive
  stall         : Option Nat
  hold          : Option Nat
  settle        : Option Nat
  sounding      : Option Sounding
  /-- The arrival position, mm (R113). -/
  arrival       : Option Int
  /-- The reel depth at arrival at a point, mm, and the BED_STOP mark (R117). -/
  pointDepth    : Option Int
  bedStop       : Bool
  fault         : Option FaultRecord
  switches      : Switches
  deriving DecidableEq, Repr

/-! ## Gauging (chapter 7) -/

inductive Method where
  | edge | onePoint | twoPoint | threePoint | surface
  deriving DecidableEq, Repr

structure PlanEntry where
  distance    : Nat
  method      : Method
  depth       : Option Nat
  coefficient : Option Nat
  exposure    : Option Nat
  deriving DecidableEq, Repr

structure Plan where
  entries         : List PlanEntry
  defaultExposure : Nat
  changeLimit     : Nat
  deriving DecidableEq, Repr

structure Rating where
  ratio     : Nat
  startRate : Nat
  segments  : List Segment
  deriving DecidableEq, Repr

inductive RunState where
  | idle | active | returning | complete | aborted
  deriving DecidableEq, Repr

inductive AbortReason where
  | byRequest | withdraw | linkSilent | motionFault
  deriving DecidableEq, Repr

inductive ReturnOutcome where
  | inProgress | parked | faulted
  deriving DecidableEq, Repr

inductive RunPhase where
  | travel | sound | place | expose | raise
  deriving DecidableEq, Repr

inductive SkipReason where
  | byRequest | noBottom | shallow | withdraw | linkSilent | motionFault
  deriving DecidableEq, Repr

inductive DepthSource where
  | sounded | override | edge
  deriving DecidableEq, Repr

/-- Where on a vertical a point is observed: a fraction of the depth, or below the surface. -/
inductive Fraction where
  | two | six | eight | surface
  deriving DecidableEq, Repr

/-- The point flags (R133). -/
structure PointFlags where
  clamped    : Bool
  bedStop    : Bool
  short      : Bool
  stalled    : Bool
  belowStart : Bool
  clampedV   : Bool
  timingRC   : Bool
  deriving DecidableEq, Repr

structure PointRecord where
  fraction   : Fraction
  meterDepth : Nat
  contacts   : Nat
  time       : Option Nat
  rate       : Option Nat
  velocity   : Nat
  flags      : PointFlags
  deriving DecidableEq, Repr

/-- A vertical result (R135). -/
structure VerticalResult where
  index         : Nat
  method        : Method
  distance      : Nat
  arrival       : Int
  depth         : Option Nat
  depthSource   : Option DepthSource
  failed        : Option Nat
  points        : List PointRecord
  mean          : Option Nat
  skip          : Option SkipReason
  retried       : Bool
  partialPoints : Bool
  deriving DecidableEq, Repr

/-- The point in hand (R131). -/
structure PointInHand where
  fraction   : Fraction
  meterDepth : Nat
  clamped    : Bool
  bedStop    : Bool
  deriving DecidableEq, Repr

/-- The vertical in hand. -/
structure InVertical where
  index       : Nat
  skipMark    : Bool
  marked      : Option SkipReason
  arrival     : Option Int
  depth       : Option Nat
  depthSource : Option DepthSource
  failed      : Option Nat
  points      : List PointRecord
  /-- The fractions not yet observed, deepest first. -/
  remaining   : List Fraction
  point       : Option PointInHand
  deriving DecidableEq, Repr

inductive ExposureState where
  | waitingFirst | counting | ending
  deriving DecidableEq, Repr

/-- The exposure in progress (R132); `expiry` is the start wait's or the late limit's. -/
structure Exposure where
  state       : ExposureState
  length      : Nat
  start       : Option Nat
  contacts    : Nat
  lastCounted : Option Nat
  expiry      : Option Nat
  deriving DecidableEq, Repr

/-- A start or an end of a run: its times, and the stage and quality as they stood. -/
structure Moment where
  runTime     : Nat
  stationTime : Option Nat
  stage       : Option Int
  quality     : Quality
  deriving DecidableEq, Repr

/-- The results of a COMPLETE run (R141, R142). -/
structure RunResults where
  discharge   : Option Nat
  area        : Option Nat
  mean        : Option Nat
  gaugeHeight : Option Int
  deriving DecidableEq, Repr

structure Run where
  state         : RunState
  reason        : Option AbortReason
  outcome       : Option ReturnOutcome
  phase         : Option RunPhase
  vertical      : InVertical
  exposure      : Option Exposure
  start         : Option Moment
  finish        : Option Moment
  verticals     : List VerticalResult
  results       : RunResults
  tooFew        : Bool
  stageChanging : Bool
  deriving DecidableEq, Repr

structure Gauging where
  plan   : Plan
  rating : Option Rating
  run    : Run
  deriving DecidableEq, Repr

/-! ## Notices (chapter 8) -/

/-- The fifteen notice sources, in the order of their numbers (R148). -/
inductive NoticeSource where
  | restart | warning | link | stageQuality | motionFault | quietWake | runEnd | channelState
  | postState | timeSource | headParamDone | runProgress | lineFault | fieldCapture | saveDone
  deriving DecidableEq, Repr

structure SourceSetting where
  enable : Bool
  level  : Nat
  deriving DecidableEq, Repr

structure NoticeSettings where
  master  : Bool
  sources : Vector SourceSetting 15
  deriving DecidableEq, Repr

/-- A full slot (R150). -/
structure Slot where
  content : List Field
  merged  : Nat
  deriving DecidableEq, Repr

structure Dispatcher where
  settings  : NoticeSettings
  slots     : Vector (Option Slot) 15
  /-- The in-service level set, ascending (R151). -/
  inService : List Nat
  hold      : Option Nat
  deriving DecidableEq, Repr

/-! ## Supervisor (chapter 10) -/

inductive ResetCause where
  | powerOn | brownout | resetIn | restartRequest
  deriving DecidableEq, Repr

/-- The cause record's four flags (R168). -/
structure CauseFlags where
  powerOn        : Bool
  brownout       : Bool
  resetIn        : Bool
  restartRequest : Bool
  deriving DecidableEq, Repr

structure WakeSettings where
  levelChange : Bool
  stage       : Bool
  wakeStage   : Int
  rate        : Bool
  wakeRate    : Int
  levelFive   : Bool
  postFault   : Bool
  deriving DecidableEq, Repr

/-- Every stored setting (R170). -/
structure Stored where
  field           : FieldSettings
  heads           : Vector HeadConfig 8
  channels        : Vector ChannelSettings 4
  stage           : StageSettings
  rules           : Vector RuleDef 8
  warning         : WarningSettings
  monitor         : MonitorSettings
  correction      : Int
  carriage        : CarriageSettings
  rating          : Option Rating
  plan            : Plan
  notices         : NoticeSettings
  wake            : WakeSettings
  rate            : Nat
  deriving DecidableEq, Repr

/-- A SAVE that runs: the copy being written and when it began (R171). -/
structure Saving where
  copy  : Stored
  start : Nat
  deriving DecidableEq, Repr

inductive QuietState where
  | normal | quiet | woken
  deriving DecidableEq, Repr

structure Supervisor where
  causes     : CauseFlags
  lastCause  : ResetCause
  lastReset  : Nat
  store      : Stored
  /-- The store stands VALID: its checksum holds (R170, R171). -/
  storeValid : Bool
  /-- What the last reset found (R165, R168). -/
  storeFound : Bool
  saving     : Option Saving
  quiet      : QuietState
  /-- Run time at which quiet mode was last entered (R173). -/
  quietEntry : Nat
  wake       : WakeSettings
  /-- The WAKE output. -/
  wakeOutput : Bool
  deriving DecidableEq, Repr

end Sys2Proof.Machine
end

