-- ==== Sys2Proof/Machine/Defaults.lean ====
section
/-! DEFINITION. The factory defaults of the settings tables, which every block takes when the store is INVALID (R170). -/

namespace Sys2Proof.Machine

/-- R17: the field settings. -/
def defaultField : FieldSettings :=
  { ownAddress := 16, acceptBroadcast := true, groupSet := 0, inverseGroups := false, passAllGroups := false,
    postGroup := 128, capture := false, backoffBits := 6, singleAttempt := false }

/-- 2.4: the configuration of a head-table entry. -/
def defaultHead : HeadConfig :=
  { enable := false, address := 1, kind := .stage, channel := some 1, normal := 60, quiet := 300 }

/-- R45: the settings of a channel; the rank is the channel number. -/
def defaultChannel (number : Nat) : ChannelSettings :=
  { enable := false, gain := 1000000, offset := 0, sense := .direct, minimum := -999999, maximum := 999999,
    stepLimit := 0, window := 5, staleTime := 300, rank := number }

/-- R72, R76, R79: the vote and ring settings. -/
def defaultStage : StageSettings :=
  { method := .middle, agreement := 0, required := 2, normalInterval := 60, quietInterval := 300,
    rateWindow := 900 }

/-- R82: a warning rule. -/
def defaultRule : RuleDef :=
  { enable := false, kind := .stage, level := 1, setThreshold := 999999, clearThreshold := 999999,
    confirmTime := 0, clearDelay := 0 }

/-- R97: the warning settings. -/
def defaultWarning : WarningSettings :=
  { sirenLevel := 2, sirenRun := 120, repeatInterval := 900, withdrawLevel := 2 }

/-- R99: the monitor settings. -/
def defaultMonitor : MonitorSettings := { enable := true, exponent := 3 }

/-- R107: the carriage settings; four have no default. -/
def defaultCarriage : CarriageSettings :=
  { traverseScale := none, reelScale := none, span := none, tolerance := 50, stallTime := 5,
    weightOffset := 150, maxDepth := none, settleTime := 10 }

/-- R124: the plan is empty and its header takes its defaults. -/
def defaultPlan : Plan := { entries := [], defaultExposure := 60, changeLimit := 50 }

/-- R148: the notice sources' levels, in the order of their numbers; sources 1..3 are fixed at 5. -/
def defaultLevels : Vector Nat 15 := #v[5, 5, 5, 3, 3, 4, 2, 2, 2, 2, 1, 1, 1, 1, 1]

/-- R148: the notice settings. -/
def defaultNotices : NoticeSettings :=
  { master := true, sources := Vector.ofFn fun i => { enable := true, level := defaultLevels[i] } }

/-- R173: the wake settings. -/
def defaultWake : WakeSettings :=
  { levelChange := true, stage := false, wakeStage := 999999, rate := false, wakeRate := 99999,
    levelFive := true, postFault := true }

/-- R170: every stored setting at its factory default. There is no rating (R127), c is 0 (R1), the rate is 38,400
baud (R158). -/
def defaultStored : Stored :=
  { field := defaultField, heads := Vector.replicate 8 defaultHead,
    channels := Vector.ofFn fun i => defaultChannel (i.val + 1),
    stage := defaultStage, rules := Vector.replicate 8 defaultRule, warning := defaultWarning,
    monitor := defaultMonitor, correction := 0, carriage := defaultCarriage, rating := none,
    plan := defaultPlan, notices := defaultNotices, wake := defaultWake, rate := 38400 }

end Sys2Proof.Machine
end

