-- ==== Sys2Proof/Machine/State.lean ====
section
/-! DEFINITION. The state of the 416: the ten blocks of 00_scope, section 2, the queue of waiting commands, and the
counter that makes each free value fresh. Fault and Refusal; the state right after the first POWER_ON. -/

namespace Sys2Proof.Machine

/-- The whole machine, as plain data. -/
structure State where
  time       : TimeBase
  field      : FieldLine
  channels   : Vector Channel 4
  stage      : StageUnit
  warning    : WarningUnit
  cable      : Cableway
  gauging    : Gauging
  notices    : Dispatcher
  link       : HostLink
  supervisor : Supervisor
  /-- The model's own: how many free values have been taken (log 4). -/
  freeCount  : Nat
  /-- The model's own: the commands that wait, first in, first out (log 1). -/
  pending    : List Instr
  deriving DecidableEq, Repr

/-- Why a step stops with a fault. No command of the 416 stops the part: every rule gives the command an effect, a
refusal sent to the host, or nothing. The type has no constructor, so no meaning can raise one; safe. -/
inductive Fault where
  deriving DecidableEq, Repr

/-- Why the model has no next state for a command. -/
inductive Refusal where
  /-- The command has no meaning in the model yet; raised by an arm of `exec` only; safe. -/
  | notModelled (mnemonic : String)
  deriving DecidableEq, Repr

/-! ## One update for each component -/

def State.setTime (s : State) (x : TimeBase) : State := { s with time := x }
def State.setField (s : State) (x : FieldLine) : State := { s with field := x }
def State.setChannels (s : State) (x : Vector Channel 4) : State := { s with channels := x }
def State.setStage (s : State) (x : StageUnit) : State := { s with stage := x }
def State.setWarning (s : State) (x : WarningUnit) : State := { s with warning := x }
def State.setCable (s : State) (x : Cableway) : State := { s with cable := x }
def State.setGauging (s : State) (x : Gauging) : State := { s with gauging := x }
def State.setNotices (s : State) (x : Dispatcher) : State := { s with notices := x }
def State.setLink (s : State) (x : HostLink) : State := { s with link := x }
def State.setSupervisor (s : State) (x : Supervisor) : State := { s with supervisor := x }
def State.setFreeCount (s : State) (x : Nat) : State := { s with freeCount := x }
def State.setPending (s : State) (x : List Instr) : State := { s with pending := x }

/-! ## The blocks after the cold reset that State.reset stands for -/

/-- Chapter 1.7, the column of the cold reset, with an INVALID store. -/
def resetTime : TimeBase :=
  { activeTrim := Config.factoryTrim, correction := 0, reference := 0, crystal := .starting,
    edgeGap := some 4, qualification := some 1000, source := .rc, arm := true, runTime := 0,
    groupCycles := 0, blockCount := 0, completing := none, early := 0, edgeless := 0,
    stationTime := none, lastStep := none, lastStepRunTime := none, stepPending := false, recordMark := true, exposureSpan := none }

/-- An entry of the head table after a reset with an INVALID store (R44): disabled, so not scheduled. -/
def resetHead : HeadEntry :=
  { config := defaultHead, nextDue := none, noReply := 0, state := .answering, lastOutcome := none,
    lastAnswer := none, post := none }

/-- R44: the WARN raised at the reset has been chosen, and carries level 0, siren OFF and marker NO. -/
def resetField : FieldLine :=
  { settings := defaultField, captured := [], overflow := false, heads := Vector.replicate 8 resetHead,
    tx := .waitingIdle,
    transaction := some
      { kind := .warn 0, attempts := 0, backoffBits := 6, singleAttempt := false,
        frame := { destination := 128, source := 16, kind := 0x20, payload := [0, 0, 0] } },
    deferral := some 1500, backoff := none, window := none, management := none, warn := .none,
    refresh := 30000, lastSent := none, gathering := none, lastOctet := none }

/-- R64: a disabled channel after a reset. -/
def resetChannel (number : Nat) : Channel :=
  { settings := defaultChannel number, state := .off, window := [], rejections := 0, chainLength := 0,
    candidate := none, staleExpiry := none, lastReading := none, lastChange := none,
    counters := { accepted := 0, range := 0, step := 0, reAnchors := 0, headFaults := 0 } }

/-- R81: the station stage unit after a cold reset. -/
def resetStage : StageUnit :=
  { settings := defaultStage, items := Vector.replicate 4 { state := .off, filtered := none },
    stage := none, spread := none, disagree := false, quality := .none, previousQuality := none,
    chosen := none, ring := [], nextSequence := 0, recordExpiry := 60000, waiting := [], rate := none,
    warmRestart := false }

/-- R104: the warning unit after a cold reset; the monitor runs from the reset (R98, R99). -/
def resetWarning : WarningUnit :=
  { rules := Vector.replicate 8
      { definition := defaultRule, state := .idle, blind := false, timer := .none, lastValue := none,
        judged := false, lastChange := none },
    stageInput := none, rateInput := none, settings := defaultWarning, monitorSettings := defaultMonitor,
    floor := 0, level := 0, lastChange := none, beaconA := false, beaconB := false, siren := .off,
    monitor := .running 120000, autonomous := false, spell := none }

/-- R123: the cableway controller after a reset, every switch OPEN and the overload CLEAR (log 10). -/
def resetCable : Cableway :=
  { settings := defaultCarriage, traverseCount := 0, reelCount := 0, positionKnown := false,
    payoutKnown := false, surfacePoint := none, motion := .unreferenced, drive := none, stall := none,
    hold := none, settle := none, sounding := none, arrival := none, pointDepth := none, bedStop := false,
    fault := none,
    switches := { homeLimit := false, farLimit := false, reelTop := false, surface := false, bottom := false,
                  overload := false } }

/-- No vertical in hand. -/
def noVertical : InVertical :=
  { index := 0, skipMark := false, marked := none, arrival := none, depth := none, depthSource := none,
    failed := none, points := [], remaining := [], point := none }

/-- R147: no run, and an empty run record. -/
def noRun : Run :=
  { state := .idle, reason := none, outcome := none, phase := none, vertical := noVertical, exposure := none,
    start := none, finish := none, verticals := [],
    results := { discharge := none, area := none, mean := none, gaugeHeight := none }, tooFew := false,
    stageChanging := false }

/-- R157: the slots are empty again, since RESTART has been handed to the host link, and level 5 is in service. -/
def resetNotices : Dispatcher :=
  { settings := defaultNotices, slots := Vector.replicate 15 none, inService := [5], hold := none }

/-- R169: the RESTART notice of the first POWER_ON, with its merge count. -/
def resetRestart : OutFrame :=
  { kind := 0xC1, tag := 0,
    payload := [.num 1 0, .code 0, .code 0, .bits 1 1, .flag true, .flag false, .num 6 0, .absent, .num 4 0] }

/-- R166: the host link after a reset, its RESTART notice going out. -/
def resetLink : HostLink :=
  { rateHeld := 38400, rateInForce := 38400, assembling := none, lastOctet := 0, inHand := none,
    waiting := none, reply := none, notice := some resetRestart, line := some .notice, restart := .none,
    unready := false }

/-- R168, R170, 10.4: the supervisor after the first POWER_ON, the store INVALID (log 10). -/
def resetSupervisor : Supervisor :=
  { causes := { powerOn := true, brownout := false, resetIn := false, restartRequest := false },
    lastCause := .powerOn, lastReset := 0, store := defaultStored, storeValid := false, storeFound := false,
    saving := none, quiet := .normal, quietEntry := 0, wake := defaultWake, wakeOutput := false }

/-- The machine right after POWER_ON of a part whose store no SAVE has written (log 10). -/
def State.reset : State :=
  { time := resetTime, field := resetField,
    channels := Vector.ofFn fun i => resetChannel (i.val + 1),
    stage := resetStage, warning := resetWarning, cable := resetCable,
    gauging := { plan := defaultPlan, rating := none, run := noRun },
    notices := resetNotices, link := resetLink, supervisor := resetSupervisor, freeCount := 0, pending := [] }

end Sys2Proof.Machine
end

