-- ==== Sys2Proof/Machine/Ops.lean ====
section
/-! DEFINITION. The operations every block shares: the manual's three divisions and its clamps (00_scope, 3.2), tables of
numbered entries, the present run time, and the fields a payload is built of (R164). -/

namespace Sys2Proof.Machine

/-! ## Arithmetic (00_scope, 3.2) -/

/-- Rounded half up: the quotient, and one more when twice the remainder is the divisor or more. -/
def divHalfUp (a b : Nat) : Nat := if b ≤ 2 * (a % b) then a / b + 1 else a / b

/-- Rounded to nearest, halves away from zero: the magnitude rounded half up, with the sign restored. -/
def divNearest (a : Int) (b : Nat) : Int :=
  if a < 0 then - (divHalfUp a.natAbs b : Int) else (divHalfUp a.natAbs b : Int)

/-- Truncated toward zero. -/
def divTrunc (a b : Int) : Int := Int.tdiv a b

/-- A measuring value held within its range. -/
def clampNat (low high x : Nat) : Nat := max low (min high x)

/-- A signed measuring value held within its range. -/
def clampInt (low high x : Int) : Int := max low (min high x)

/-- A counter increased by one and held at its top. -/
def countUp (top n : Nat) : Nat := if n < top then n + 1 else n

/-- A micrometre count in mm (R106). -/
def millimetres (um : Int) : Int := divNearest um 1000

/-- A value that cannot be negative, "taken as 0 if below 0". -/
def atLeastZero (x : Int) : Nat := x.toNat

/-! ## Tables of numbered entries -/

/-- Every entry of a table changed by `f`. -/
def mapTable {α β : Type} {n : Nat} (f : α → β) (v : Vector α n) : Vector β n := Vector.ofFn fun i => f v[i]

/-- Every entry of a table changed by `f`, which is told the entry's place. -/
def mapPlaces {α β : Type} {n : Nat} (f : Fin n → α → β) (v : Vector α n) : Vector β n :=
  Vector.ofFn fun i => f i v[i]

/-- The places of a table, in order. -/
def places (n : Nat) : List (Fin n) := (Vector.ofFn fun i : Fin n => i).toList

/-- The number, from 1, of a place. -/
def numberOf {n : Nat} (i : Fin n) : Nat := i.val + 1

/-! ## The present -/

/-- The present run time. -/
def State.now (s : State) : Nat := s.time.runTime

/-- R172: quiet mode is in force in QUIET and in QUIET_WOKEN. -/
def State.quietInForce (s : State) : Bool := s.supervisor.quiet != .normal

/-- R171: a SAVE is running. -/
def State.saveRuns (s : State) : Bool := s.supervisor.saving.isSome

/-- A timer that runs has reached its expiry. -/
def reached (timer : Option Nat) (now : Nat) : Bool :=
  match timer with
  | none => false
  | some expiry => decide (expiry ≤ now)

/-- R11: the time quality. -/
def State.timeQuality (s : State) : TimeQuality :=
  match s.time.stationTime, s.time.source with
  | none, _ => .unset
  | some _, .xtal => .precise
  | some _, .rc => .degraded

/-- A free value has been taken. -/
def State.freeTaken (s : State) : State := s.setFreeCount (s.freeCount + 1)

/-! ## Updates of one table entry -/

def State.setHead (s : State) (i : Fin 8) (e : HeadEntry) : State :=
  s.setField { s.field with heads := s.field.heads.set i e }

def State.setChannel (s : State) (i : Fin 4) (c : Channel) : State := s.setChannels (s.channels.set i c)

def State.setRules (s : State) (rules : Vector Rule 8) : State :=
  s.setWarning { s.warning with rules := rules }

def State.setRun (s : State) (r : Run) : State := s.setGauging { s.gauging with run := r }

/-! ## Fields of a payload (R164) -/

/-- A run time or a station time, six octets: both ranges need them. -/
def timeField (t : Nat) : Field := .num 6 t

/-- An optional field: its presence octet, then its value. -/
def optField {α : Type} (x : Option α) (f : α → Field) : List Field :=
  match x with
  | none => [.absent]
  | some a => [.present, f a]

/-- An optional field made of several. -/
def optFields {α : Type} (x : Option α) (f : α → List Field) : List Field :=
  match x with
  | none => [.absent]
  | some a => .present :: f a

/-- An optional whole number. -/
def optNum (octets : Nat) (x : Option Nat) : List Field := optField x fun n => .num octets n

/-- An optional signed whole number. -/
def optInt (octets : Nat) (x : Option Int) : List Field := optField x fun n => .num octets n

/-- An optional time. -/
def optTime (x : Option Nat) : List Field := optField x timeField

/-- A list of varying length: its count octet and its items. -/
def listFields {α : Type} (xs : List α) (f : α → List Field) : List Field :=
  .count xs.length :: (xs.map f).flatten

/-- The mask of a list of flags, the first in the lowest bit. -/
def flagMask : List Bool → Nat
  | [] => 0
  | b :: bs => (if b then 1 else 0) + 2 * flagMask bs

/-- The mask of a set of numbers, number 1 in the lowest bit. -/
def numberMask (numbers : List Nat) : Nat := numbers.foldl (fun m n => m ||| 2 ^ (n - 1)) 0

/-- What a block answers to a request: the fields of its reply, or the reason of its refusal (R161, R162). -/
inductive Answer where
  | reply (payload : List Field)
  | refuse (reason : Reason)
  deriving DecidableEq, Repr

/-- The octet of an ON/OFF or YES/NO operand, when it is one of the two (R164). -/
def onOff : Nat → Option Bool
  | 0 => some false
  | 1 => some true
  | _ => none

end Sys2Proof.Machine
end

