-- ==== Sys2Proof/Machine/Codes.lean ====
section
/-! DEFINITION. The numbers under which enumerations are carried (R164: from 0, in the order the owning chapter lists them),
the codes of R167, and the numbers of the notice sources (R148). -/

namespace Sys2Proof.Machine

/-- The reason code of a refusal (R167). -/
def reasonCode : Reason → Nat
  | .length => 0x01 | .unknownKind => 0x02 | .range => 0x03 | .state => 0x04 | .busy => 0x05
  | .duplicate => 0x06 | .order => 0x07 | .plan => 0x08 | .meter => 0x09 | .level => 0x0A
  | .notFound => 0x0B

/-- The place of a source among the fifteen, in the order of their numbers (R148). -/
def sourcePlace : NoticeSource → Fin 15
  | .restart => 0 | .warning => 1 | .link => 2 | .stageQuality => 3 | .motionFault => 4 | .quietWake => 5
  | .runEnd => 6 | .channelState => 7 | .postState => 8 | .timeSource => 9 | .headParamDone => 10
  | .runProgress => 11 | .lineFault => 12 | .fieldCapture => 13 | .saveDone => 14

/-- The fifteen sources, in the order of their numbers. -/
def noticeSources : List NoticeSource :=
  [.restart, .warning, .link, .stageQuality, .motionFault, .quietWake, .runEnd, .channelState, .postState,
   .timeSource, .headParamDone, .runProgress, .lineFault, .fieldCapture, .saveDone]

/-- The number of a source (R148). -/
def sourceNumber (src : NoticeSource) : Nat := numberOf (sourcePlace src)

/-- R12, 1.3: STARTING, RUNNING, STOPPED. -/
def crystalCode : Crystal → Nat
  | .starting => 0 | .running => 1 | .stopped => 2

/-- R7: XTAL, RC. -/
def sourceCode : ClockSource → Nat
  | .xtal => 0 | .rc => 1

/-- R8: UNSET, PRECISE, DEGRADED. -/
def timeQualityCode : TimeQuality → Nat
  | .unset => 0 | .precise => 1 | .degraded => 2

/-- 2.4: STAGE, POST. -/
def headKindCode : HeadKind → Nat
  | .stage => 0 | .post => 1

/-- 2.4: ANSWERING, SILENT. -/
def entryStateCode : EntryState → Nat
  | .answering => 0 | .silent => 1

/-- 2.4: REPLY, NO_REPLY, DEFERRED_OUT, EXCESS_COLLISION; SENT is never carried. -/
def txOutcomeCode : TxOutcome → Nat
  | .reply => 0 | .noReply => 1 | .deferredOut => 2 | .excessCollision => 3 | .sent => 4

/-- R22: PASSED, FAILED_DESTINATION, FAILED_SOURCE, NOT_TAKEN. -/
def filterCode : FilterResult → Nat
  | .passed => 0 | .failedDestination => 1 | .failedSource => 2 | .notTaken => 3

/-- 2.6: FREE, WAITING_IDLE, SENDING, BACKOFF, REPLY_WINDOW. -/
def txStateCode : TxState → Nat
  | .free => 0 | .waitingIdle => 1 | .sending => 2 | .backoff => 3 | .replyWindow => 4

/-- R39: NONE, STANDING, HELD_BACK. -/
def warnCode : WarnRequest → Nat
  | .none => 0 | .standing => 1 | .heldBack => 2

/-- R36: GET, SET. -/
def paramOpCode : ParamOp → Nat
  | .get => 0 | .set => 1

/-- R45: DIRECT, INVERTED. -/
def senseCode : Sense → Nat
  | .direct => 0 | .inverted => 1

/-- Chapter 3: OFF, FILLING, VALID, STALE, FAULTED. -/
def channelStateCode : ChannelState → Nat
  | .off => 0 | .filling => 1 | .valid => 2 | .stale => 3 | .faulted => 4

/-- R49: ACCEPTED, RE_ANCHOR, OUT_OF_RANGE, STEP, HEAD_FAULT. -/
def verdictCode : Verdict → Nat
  | .accepted => 0 | .reAnchor => 1 | .outOfRange => 2 | .step => 3 | .headFault => 4

/-- R61: the causes of a channel's last change. -/
def channelCauseCode : ChannelCause → Nat
  | .enabled => 0 | .disabled => 1 | .settings => 2 | .filled => 3 | .accepted => 4 | .reAnchor => 5
  | .staleTime => 6 | .headFault => 7 | .headLost => 8 | .rejections => 9

/-- R66: RANKED, MIDDLE. -/
def voteMethodCode : VoteMethod → Nat
  | .ranked => 0 | .middle => 1

/-- R70: GOOD, DEGRADED, NONE. -/
def qualityCode : Quality → Nat
  | .good => 0 | .degraded => 1 | .none => 2

/-- R82: STAGE, RATE. -/
def ruleKindCode : RuleKind → Nat
  | .stage => 0 | .rate => 1

/-- R84: IDLE, CONFIRMING, ACTIVE, CLEARING. -/
def ruleStateCode : RuleState → Nat
  | .idle => 0 | .confirming => 1 | .active => 2 | .clearing => 3

/-- R94: OFF, SOUNDING, REPEAT_WAIT. -/
def sirenCode : Siren → Nat
  | .off => 0 | .sounding _ => 1 | .repeatWait _ => 2

/-- R98: OFF, RUNNING, SUSPENDED, STOPPED. -/
def monitorCode : Monitor → Nat
  | .off => 0 | .running _ => 1 | .suspended => 2 | .stopped => 3

/-- 6.3: the motion states in the order of its table. -/
def motionCode : Motion → Nat
  | .unreferenced => 0 | .homing => 1 | .parked => 2 | .travelling _ => 3 | .atVertical => 4
  | .seekingSurface _ => 5 | .seekingBottom _ => 6 | .toPoint _ => 7 | .atPoint => 8 | .raising => 9
  | .retracting => 10 | .faulted => 11

/-- The phases of R115 (SEEK, HOLD, BOUNCE), then those of R118 (Raise, Home), which hold while REEL_TOP is open
and closed; absent in a state without phases (log 21). -/
def phaseCode (m : Motion) (reelTop : Bool) : Option Nat :=
  match m with
  | .seekingBottom .seek => some 0
  | .seekingBottom .hold => some 1
  | .seekingBottom (.bounce _) => some 2
  | .retracting => some (if reelTop then 4 else 3)
  | _ => none

/-- 6.1: TRAVERSE_OUT, TRAVERSE_IN, REEL_DOWN, REEL_UP. -/
def driveCode : Drive → Nat
  | .traverseOut => 0 | .traverseIn => 1 | .reelDown => 2 | .reelUp => 3

/-- R119: STALL, OVERLOAD, LIMIT, DEPTH_LIMIT, NO_SURFACE. -/
def faultCode : FaultCause → Nat
  | .stall => 0 | .overload => 1 | .limit => 2 | .depthLimit => 3 | .noSurface => 4

/-- R124: EDGE, ONE_POINT, TWO_POINT, THREE_POINT, SURFACE. -/
def methodCode : Method → Nat
  | .edge => 0 | .onePoint => 1 | .twoPoint => 2 | .threePoint => 3 | .surface => 4

/-- R143: IDLE, ACTIVE, RETURNING, COMPLETE, ABORTED. -/
def runStateCode : RunState → Nat
  | .idle => 0 | .active => 1 | .returning => 2 | .complete => 3 | .aborted => 4

/-- R146: BY_REQUEST, WITHDRAW, LINK_SILENT, MOTION_FAULT. -/
def abortCode : AbortReason → Nat
  | .byRequest => 0 | .withdraw => 1 | .linkSilent => 2 | .motionFault => 3

/-- R143: IN_PROGRESS, PARKED, FAULTED. -/
def returnCode : ReturnOutcome → Nat
  | .inProgress => 0 | .parked => 1 | .faulted => 2

/-- R143: TRAVEL, SOUND, PLACE, EXPOSE, RAISE. -/
def runPhaseCode : RunPhase → Nat
  | .travel => 0 | .sound => 1 | .place => 2 | .expose => 3 | .raise => 4

/-- R135: BY_REQUEST, NO_BOTTOM, SHALLOW, WITHDRAW, LINK_SILENT, MOTION_FAULT. -/
def skipCode : SkipReason → Nat
  | .byRequest => 0 | .noBottom => 1 | .shallow => 2 | .withdraw => 3 | .linkSilent => 4 | .motionFault => 5

/-- R135: SOUNDED, OVERRIDE, EDGE. -/
def depthSourceCode : DepthSource → Nat
  | .sounded => 0 | .override => 1 | .edge => 2

/-- The fraction of a point, in tenths; a surface point is carried as 0 (log 21). -/
def fractionTenths : Fraction → Nat
  | .two => 2 | .six => 6 | .eight => 8 | .surface => 0

/-- R132: WAITING_FIRST, COUNTING, ENDING. -/
def exposureCode : ExposureState → Nat
  | .waitingFirst => 0 | .counting => 1 | .ending => 2

/-- R168: POWER_ON, BROWNOUT, RESET_IN, RESTART_REQUEST. -/
def resetCode : ResetCause → Nat
  | .powerOn => 0 | .brownout => 1 | .resetIn => 2 | .restartRequest => 3

/-- R172: NORMAL, QUIET, QUIET_WOKEN. -/
def quietCode : QuietState → Nat
  | .normal => 0 | .quiet => 1 | .woken => 2

end Sys2Proof.Machine
end

