-- ==== Sys2Proof/Machine/Flags.lean ====
section
/-! DEFINITION. The flag sets the manual lists, in their listed order, as the masks R164 carries. -/

namespace Sys2Proof.Machine

/-- R74, R75: the flags of a stage record. -/
def recordFlagMask (f : RecordFlags) : Nat :=
  flagMask [f.timingRC, f.timeStepped, f.event, f.runActive, f.autonomous, f.warmRestart]

/-- R133: the flags of a point record, in their listed order. -/
def pointFlagMask (f : PointFlags) : Nat :=
  flagMask [f.clamped, f.bedStop, f.short, f.stalled, f.belowStart, f.clampedV, f.timingRC]

/-- R135: the flags of a vertical result. -/
def verticalFlagMask (v : VerticalResult) : Nat := flagMask [v.retried, v.partialPoints]

/-- R142: a run carries TIMING_RC when a point record of a stored vertical does. -/
def runTimingRC (r : Run) : Bool := r.verticals.any fun v => v.points.any fun p => p.flags.timingRC

/-- R143, R146: TOO_FEW, STAGE_CHANGING, TIMING_RC. -/
def runFlagMask (r : Run) : Nat := flagMask [r.tooFew, r.stageChanging, runTimingRC r]

/-- R168: the four cause flags. -/
def causeMask (c : CauseFlags) : Nat := flagMask [c.powerOn, c.brownout, c.resetIn, c.restartRequest]

end Sys2Proof.Machine
end

