-- ==== Sys2Proof/Machine/Operands.lean ====
section
/-! DEFINITION. The octets of the two lines: the CRC and the frame layouts (R167), the encoding of a payload's fields, and
the reading of a request's operands from its payload (R164). Widths follow from the ranges of the settings
tables (log 21). -/

namespace Sys2Proof.Machine

/-! ## The CRC (R167) -/

/-- One bit of the polynomial x¹⁶+x¹²+x⁵+1. -/
def crcShift (r : Word16) : Word16 := if r.msb then (r <<< 1) ^^^ 0x1021#16 else r <<< 1

/-- One octet entering most significant bit first. -/
def crcOctet (r : Word16) (b : Byte) : Word16 :=
  crcShift (crcShift (crcShift (crcShift (crcShift (crcShift (crcShift (crcShift (r ^^^ (b ++ 0#8)))))))))

/-- The CRC over octets: the register starts at all ones and the result is not inverted. -/
def crc (octets : List Byte) : Word16 := octets.foldl crcOctet 0xFFFF#16

/-- The two CRC octets, high then low. -/
def crcOctets (octets : List Byte) : List Byte :=
  [(crc octets).extractLsb' 8 8, (crc octets).extractLsb' 0 8]

/-! ## Whole numbers, most significant octet first -/

/-- A whole number in so many octets, two's complement. -/
def numberOctets : Nat → Int → List Byte
  | 0, _ => []
  | n + 1, v => numberOctets n (v / 256) ++ [BitVec.ofInt 8 v]

/-- The number a run of octets spells, without a sign. -/
def octetsNat (octets : List Byte) : Nat := octets.foldl (fun n b => 256 * n + b.toNat) 0

/-- The number a run of octets spells in two's complement. -/
def octetsInt (octets : List Byte) : Int :=
  if 2 * octetsNat octets < 256 ^ octets.length then (octetsNat octets : Int)
  else (octetsNat octets : Int) - 256 ^ octets.length

/-! ## Encoding a payload (R164) -/

/-- The octets of one field. -/
def fieldOctets : Field → List Byte
  | .num n v => numberOctets n v
  | .flag b => [if b then 1 else 0]
  | .code n => [BitVec.ofNat 8 n]
  | .bits n m => numberOctets n m
  | .absent => [0]
  | .present => [1]
  | .count n => [BitVec.ofNat 8 n]
  | .text cs => BitVec.ofNat 8 cs.length :: cs.map (BitVec.ofNat 8)
  | .raw bs => bs

/-- The octets of a payload. -/
def payloadOctets (fields : List Field) : List Byte := (fields.map fieldOctets).flatten

/-- How many of the items fit behind `used` octets: a payload is cut at the last whole item that fits (R164). -/
def itemsThatFit : Nat → List (List Field) → List (List Field)
  | _, [] => []
  | used, item :: rest =>
    if used + (payloadOctets item).length ≤ Config.hostPayload then
      item :: itemsThatFit (used + (payloadOctets item).length) rest
    else []

/-- R167: the octets of a host frame as it goes onto the line. -/
def hostOctets (f : OutFrame) : List Byte :=
  0xC3#8 ::
    (let body := [BitVec.ofNat 8 (payloadOctets f.payload).length, BitVec.ofNat 8 f.kind, f.tag]
        ++ payloadOctets f.payload
     body ++ crcOctets body)

/-- The octets going onto HOST_TXD: those of the holder whose frame is on the line; none when the line is free. -/
def hostLine (s : State) : List Byte :=
  match s.link.line with
  | none => []
  | some .reply => (s.link.reply.map hostOctets).getD []
  | some .notice => (s.link.notice.map hostOctets).getD []

/-- R167: the octets of a field frame as it goes onto the line. -/
def fieldFrameOctets (f : FieldFrame) : List Byte :=
  0x5A#8 ::
    (let body := [BitVec.ofNat 8 f.destination, BitVec.ofNat 8 f.source, BitVec.ofNat 8 f.kind,
        BitVec.ofNat 8 f.payload.length] ++ f.payload
     body ++ crcOctets body)

/-- The octets going onto FLD_TX while the transmitter is SENDING; FLD_DE is raised exactly then. -/
def fieldLine (s : State) : List Byte :=
  match s.field.tx, s.field.transaction with
  | .sending, some t => fieldFrameOctets t.frame
  | _, _ => []

/-! ## Reading operands (R164) -/

/-- A reader takes what it needs from the front of a payload, or finds that the payload does not hold it. -/
abbrev Reader (α : Type) := List Byte → Option (α × List Byte)

/-- A whole number without a sign, in so many octets. -/
def readNat (n : Nat) : Reader Nat := fun bs =>
  if n ≤ bs.length then some (octetsNat (bs.take n), bs.drop n) else none

/-- A whole number in two's complement. -/
def readInt (n : Nat) : Reader Int := fun bs =>
  if n ≤ bs.length then some (octetsInt (bs.take n), bs.drop n) else none

/-- An optional field: a presence octet, 1 or 0, then the value. -/
def readOpt {α : Type} (r : Reader α) : Reader (Option α)
  | [] => none
  | b :: bs =>
    if b = 0 then some (none, bs)
    else if b = 1 then (r bs).map fun p => (some p.1, p.2)
    else none

/-- So many items, one after the other. -/
def readItems {α : Type} (r : Reader α) : Nat → Reader (List α)
  | 0, bs => some ([], bs)
  | n + 1, bs =>
    match r bs with
    | none => none
    | some (x, rest) => (readItems r n rest).map fun p => (x :: p.1, p.2)

/-- A request whose one operand `r` reads. -/
def readOne {α : Type} (r : Reader α) (f : α → Request) : Reader Request := fun bs =>
  (r bs).map fun p => (f p.1, p.2)

/-- A request without operands. -/
def readNone (q : Request) : Reader Request := fun bs => some (q, bs)

def readFieldSet : Reader Request := fun bs => do
  let (own, bs) ← readNat 1 bs
  let (accept, bs) ← readNat 1 bs
  let (groups, bs) ← readNat 2 bs
  let (inverse, bs) ← readNat 1 bs
  let (pass, bs) ← readNat 1 bs
  let (post, bs) ← readNat 1 bs
  let (capture, bs) ← readNat 1 bs
  let (backoff, bs) ← readNat 1 bs
  let (single, bs) ← readNat 1 bs
  return (.fieldSet ⟨own, accept, groups, inverse, pass, post, capture, backoff, single⟩, bs)

def readHeadSet : Reader Request := fun bs => do
  let (entry, bs) ← readNat 1 bs
  let (enable, bs) ← readNat 1 bs
  let (address, bs) ← readNat 1 bs
  let (kind, bs) ← readNat 1 bs
  let (channel, bs) ← readOpt (readNat 1) bs
  let (normal, bs) ← readNat 2 bs
  let (quiet, bs) ← readNat 2 bs
  return (.headSet ⟨entry, enable, address, kind, channel, normal, quiet⟩, bs)

def readHeadParam : Reader Request := fun bs => do
  let (entry, bs) ← readNat 1 bs
  let (op, bs) ← readNat 1 bs
  let (parameter, bs) ← readNat 1 bs
  let (value, bs) ← readOpt (readInt 4) bs
  return (.headParam ⟨entry, op, parameter, value⟩, bs)

def readChannelSet : Reader Request := fun bs => do
  let (channel, bs) ← readNat 1 bs
  let (enable, bs) ← readNat 1 bs
  let (gain, bs) ← readNat 3 bs
  let (offset, bs) ← readInt 3 bs
  let (sense, bs) ← readNat 1 bs
  let (minimum, bs) ← readInt 3 bs
  let (maximum, bs) ← readInt 3 bs
  let (step, bs) ← readNat 2 bs
  let (window, bs) ← readNat 1 bs
  let (stale, bs) ← readNat 2 bs
  let (rank, bs) ← readNat 1 bs
  return (.channelSet ⟨channel, enable, gain, offset, sense, minimum, maximum, step, window, stale, rank⟩, bs)

def readStageSet : Reader Request := fun bs => do
  let (method, bs) ← readNat 1 bs
  let (agreement, bs) ← readNat 2 bs
  let (required, bs) ← readNat 1 bs
  let (normal, bs) ← readNat 2 bs
  let (quiet, bs) ← readNat 2 bs
  let (window, bs) ← readNat 2 bs
  return (.stageSet ⟨method, agreement, required, normal, quiet, window⟩, bs)

def readRecordRead : Reader Request := fun bs => do
  let (start, bs) ← readNat 4 bs
  let (count, bs) ← readNat 1 bs
  return (.recordRead start count, bs)

def readRuleSet : Reader Request := fun bs => do
  let (rule, bs) ← readNat 1 bs
  let (enable, bs) ← readNat 1 bs
  let (kind, bs) ← readNat 1 bs
  let (level, bs) ← readNat 1 bs
  let (setT, bs) ← readInt 3 bs
  let (clearT, bs) ← readInt 3 bs
  let (confirm, bs) ← readNat 2 bs
  let (delay, bs) ← readNat 2 bs
  return (.ruleSet ⟨rule, enable, kind, level, setT, clearT, confirm, delay⟩, bs)

def readWarningSet : Reader Request := fun bs => do
  let (siren, bs) ← readNat 1 bs
  let (run, bs) ← readNat 2 bs
  let (again, bs) ← readNat 2 bs
  let (withdraw, bs) ← readNat 1 bs
  return (.warningSet ⟨siren, run, again, withdraw⟩, bs)

def readMonitorSet : Reader Request := fun bs => do
  let (enable, bs) ← readNat 1 bs
  let (exponent, bs) ← readNat 1 bs
  return (.monitorSet enable exponent, bs)

def readCarriageSet : Reader Request := fun bs => do
  let (traverse, bs) ← readNat 2 bs
  let (reel, bs) ← readNat 2 bs
  let (span, bs) ← readNat 3 bs
  let (tolerance, bs) ← readNat 1 bs
  let (stall, bs) ← readNat 1 bs
  let (offset, bs) ← readNat 2 bs
  let (depth, bs) ← readNat 2 bs
  let (settle, bs) ← readNat 1 bs
  return (.carriageSet ⟨traverse, reel, span, tolerance, stall, offset, depth, settle⟩, bs)

def readSegment : Reader Segment := fun bs => do
  let (lower, bs) ← readNat 3 bs
  let (intercept, bs) ← readInt 2 bs
  let (pitch, bs) ← readNat 3 bs
  return (⟨lower, intercept, pitch⟩, bs)

def readMeterSet : Reader Request := fun bs => do
  let (ratio, bs) ← readNat 1 bs
  let (start, bs) ← readNat 1 bs
  let (count, bs) ← readNat 1 bs
  let (segments, bs) ← readItems readSegment count bs
  return (.meterSet ⟨ratio, start, segments⟩, bs)

def readPlanClear : Reader Request := fun bs => do
  let (exposure, bs) ← readNat 1 bs
  let (limit, bs) ← readNat 2 bs
  return (.planClear exposure limit, bs)

def readPlanPut : Reader Request := fun bs => do
  let (index, bs) ← readNat 1 bs
  let (distance, bs) ← readNat 3 bs
  let (method, bs) ← readNat 1 bs
  let (depth, bs) ← readOpt (readNat 2) bs
  let (coefficient, bs) ← readOpt (readNat 2) bs
  let (exposure, bs) ← readOpt (readNat 1) bs
  return (.planPut ⟨index, distance, method, depth, coefficient, exposure⟩, bs)

def readWakeSet : Reader Request := fun bs => do
  let (level, bs) ← readNat 1 bs
  let (stage, bs) ← readNat 1 bs
  let (wakeStage, bs) ← readInt 3 bs
  let (rate, bs) ← readNat 1 bs
  let (wakeRate, bs) ← readInt 3 bs
  let (five, bs) ← readNat 1 bs
  let (fault, bs) ← readNat 1 bs
  return (.wakeSet ⟨level, stage, wakeStage, rate, wakeRate, five, fault⟩, bs)

def readNoticeItem : Reader NoticeItem := fun bs => do
  let (source, bs) ← readNat 1 bs
  let (enable, bs) ← readNat 1 bs
  let (level, bs) ← readNat 1 bs
  return (⟨source, enable, level⟩, bs)

def readNoticeSet : Reader Request := fun bs => do
  let (master, bs) ← readNat 1 bs
  let (item, bs) ← readOpt readNoticeItem bs
  return (.noticeSet master item, bs)

/-- R167: the request that a KIND names, as the reader of its payload. -/
def requestReader : Nat → Option (Reader Request)
  | 0x01 => some (readNone .identify)
  | 0x02 => some (readOne (readNat 2) .linkSet)
  | 0x08 => some (readOne (readNat 6) .timeSet)
  | 0x09 => some (readNone .timeRead)
  | 0x0A => some (readOne (readNat 1) .timeSource)
  | 0x0B => some (readOne (readInt 2) .trimSet)
  | 0x10 => some readFieldSet
  | 0x11 => some readHeadSet
  | 0x12 => some (readOne (readNat 1) .headRead)
  | 0x13 => some readHeadParam
  | 0x14 => some (readNone .captureRead)
  | 0x18 => some readChannelSet
  | 0x19 => some (readOne (readNat 1) .channelRead)
  | 0x1A => some readStageSet
  | 0x1B => some (readNone .stageRead)
  | 0x1C => some readRecordRead
  | 0x20 => some readRuleSet
  | 0x21 => some (readOne (readNat 1) .ruleRead)
  | 0x22 => some readWarningSet
  | 0x23 => some (readNone .warningRead)
  | 0x24 => some (readNone .warningAck)
  | 0x25 => some (readOne (readNat 1) .warningFloor)
  | 0x26 => some readMonitorSet
  | 0x28 => some readCarriageSet
  | 0x29 => some (readNone .carriageHome)
  | 0x2A => some (readNone .carriageRead)
  | 0x2B => some readMeterSet
  | 0x2C => some readPlanClear
  | 0x2D => some readPlanPut
  | 0x2E => some (readOne (readNat 1) .planRead)
  | 0x2F => some (readNone .runStart)
  | 0x30 => some (readNone .runSkip)
  | 0x31 => some (readNone .runAbort)
  | 0x32 => some (readNone .runRead)
  | 0x33 => some (readOne (readNat 1) .resultRead)
  | 0x34 => some (readNone .quiet)
  | 0x35 => some readWakeSet
  | 0x36 => some (readNone .causeRead)
  | 0x37 => some (readNone .causeClear)
  | 0x38 => some readNoticeSet
  | 0x39 => some (readNone .noticeDone)
  | 0x3A => some (readOne (readNat 2) .hold)
  | 0x3B => some (readNone .save)
  | 0x3C => some (readNone .restart)
  | _ => none

/-- R167: the KIND of a request. -/
def requestKind : Request → Byte
  | .identify => 0x01 | .linkSet _ => 0x02 | .timeSet _ => 0x08 | .timeRead => 0x09 | .timeSource _ => 0x0A
  | .trimSet _ => 0x0B | .fieldSet _ => 0x10 | .headSet _ => 0x11 | .headRead _ => 0x12
  | .headParam _ => 0x13 | .captureRead => 0x14 | .channelSet _ => 0x18 | .channelRead _ => 0x19
  | .stageSet _ => 0x1A | .stageRead => 0x1B | .recordRead _ _ => 0x1C | .ruleSet _ => 0x20
  | .ruleRead _ => 0x21 | .warningSet _ => 0x22 | .warningRead => 0x23 | .warningAck => 0x24
  | .warningFloor _ => 0x25 | .monitorSet _ _ => 0x26 | .carriageSet _ => 0x28 | .carriageHome => 0x29
  | .carriageRead => 0x2A | .meterSet _ => 0x2B | .planClear _ _ => 0x2C | .planPut _ => 0x2D
  | .planRead _ => 0x2E | .runStart => 0x2F | .runSkip => 0x30 | .runAbort => 0x31 | .runRead => 0x32
  | .resultRead _ => 0x33 | .quiet => 0x34 | .wakeSet _ => 0x35 | .causeRead => 0x36 | .causeClear => 0x37
  | .noticeSet _ _ => 0x38 | .noticeDone => 0x39 | .hold _ => 0x3A | .save => 0x3B | .restart => 0x3C

/-- R161: what a valid frame of this KIND and payload holds. A KIND that names no request is UNKNOWN_KIND; a payload
that does not hold exactly the fields of the request is LENGTH. -/
def frameContent (kind : Byte) (payload : List Byte) : Except Reason Request :=
  match requestReader kind.toNat with
  | none => .error .unknownKind
  | some r =>
    match r payload with
    | some (q, []) => .ok q
    | _ => .error .length

/-- R159, R167: the valid host frame that octets after SYNC spell; none where LEN is above 200, the octets are not
LEN + 5, or the CRC does not check. -/
def hostFrameOf : List Byte → Option HostFrame
  | len :: kind :: tag :: rest =>
    let payload := rest.take len.toNat
    if len.toNat ≤ Config.hostPayload ∧ rest.length = len.toNat + 2
        ∧ rest.drop len.toNat = crcOctets (len :: kind :: tag :: payload) then
      some { kind := kind, tag := tag, content := frameContent kind payload }
    else none
  | _ => none

/-! ## The frame of a request, as the host sends it (R164, R167) -/

/-- An optional operand. -/
def optOperand (octets : Nat) (x : Option Nat) : List Field := optField x fun n => .num octets n

/-- R164: the fields of a request, in the order its chapter lists them. -/
def requestFields : Request → List Field
  | .linkSet rate => [.num 2 rate]
  | .timeSet value => [.num 6 value]
  | .timeSource source => [.code source]
  | .trimSet correction => [.num 2 correction]
  | .fieldSet a =>
    [.num 1 a.ownAddress, .num 1 a.acceptBroadcast, .bits 2 a.groupSet, .num 1 a.inverseGroups,
     .num 1 a.passAllGroups, .num 1 a.postGroup, .num 1 a.capture, .num 1 a.backoffBits,
     .num 1 a.singleAttempt]
  | .headSet a =>
    [.num 1 a.entry, .num 1 a.enable, .num 1 a.address, .code a.kind] ++ optOperand 1 a.channel
    ++ [.num 2 a.normal, .num 2 a.quiet]
  | .headRead entry => [.num 1 entry]
  | .headParam a =>
    [.num 1 a.entry, .code a.operation, .num 1 a.parameter] ++ optField a.value fun v => .num 4 v
  | .channelSet a =>
    [.num 1 a.channel, .num 1 a.enable, .num 3 a.gain, .num 3 a.offset, .code a.sense, .num 3 a.minimum,
     .num 3 a.maximum, .num 2 a.stepLimit, .num 1 a.window, .num 2 a.staleTime, .num 1 a.rank]
  | .channelRead channel => [.num 1 channel]
  | .stageSet a =>
    [.code a.method, .num 2 a.agreement, .num 1 a.required, .num 2 a.normalInterval, .num 2 a.quietInterval,
     .num 2 a.rateWindow]
  | .recordRead start count => [.num 4 start, .num 1 count]
  | .ruleSet a =>
    [.num 1 a.rule, .num 1 a.enable, .code a.kind, .num 1 a.level, .num 3 a.setThreshold,
     .num 3 a.clearThreshold, .num 2 a.confirmTime, .num 2 a.clearDelay]
  | .ruleRead rule => [.num 1 rule]
  | .warningSet a => [.num 1 a.sirenLevel, .num 2 a.sirenRun, .num 2 a.repeatInterval, .num 1 a.withdrawLevel]
  | .warningFloor floor => [.num 1 floor]
  | .monitorSet enable exponent => [.num 1 enable, .num 1 exponent]
  | .carriageSet a =>
    [.num 2 a.traverseScale, .num 2 a.reelScale, .num 3 a.span, .num 1 a.tolerance, .num 1 a.stallTime,
     .num 2 a.weightOffset, .num 2 a.maxDepth, .num 1 a.settleTime]
  | .meterSet a =>
    [.num 1 a.ratio, .num 1 a.startRate]
    ++ listFields a.segments fun g => [.num 3 g.lower, .num 2 g.intercept, .num 3 g.pitch]
  | .planClear exposure changeLimit => [.num 1 exposure, .num 2 changeLimit]
  | .planPut a =>
    [.num 1 a.index, .num 3 a.distance, .code a.method] ++ optOperand 2 a.depth ++ optOperand 2 a.coefficient
    ++ optOperand 1 a.exposure
  | .planRead index => [.num 1 index]
  | .resultRead vertical => [.num 1 vertical]
  | .wakeSet a =>
    [.num 1 a.levelChange, .num 1 a.stage, .num 3 a.wakeStage, .num 1 a.rate, .num 3 a.wakeRate,
     .num 1 a.levelFive, .num 1 a.postFault]
  | .noticeSet master item =>
    .num 1 master :: optFields item fun x => [.num 1 x.source, .num 1 x.enable, .num 1 x.level]
  | .hold units => [.num 2 units]
  | .identify | .timeRead | .captureRead | .stageRead | .warningRead | .warningAck | .carriageHome
  | .carriageRead | .runStart | .runSkip | .runAbort | .runRead | .quiet | .causeRead | .causeClear
  | .noticeDone | .save | .restart => []

/-- R167: the octets after SYNC of a host frame with this KIND, TAG and payload. -/
def hostBody (kind tag : Byte) (payload : List Byte) : List Byte :=
  let body := BitVec.ofNat 8 payload.length :: kind :: tag :: payload
  body ++ crcOctets body

/-- R164, R167: the octets after SYNC of the frame that carries a request. -/
def requestOctets (tag : Byte) (q : Request) : List Byte :=
  hostBody (requestKind q) tag (payloadOctets (requestFields q))

/-- R18, R167: the good field frame that octets after SYNC spell. -/
def fieldFrameOf : List Byte → Option FieldFrame
  | dst :: src :: kind :: len :: rest =>
    let payload := rest.take len.toNat
    if len.toNat ≤ Config.fieldPayload ∧ rest.length = len.toNat + 2
        ∧ rest.drop len.toNat = crcOctets (dst :: src :: kind :: len :: payload) then
      some { destination := dst.toNat, source := src.toNat, kind := kind.toNat, payload := payload }
    else none
  | _ => none

/-- R167: a YES/NO, ON/OFF or result octet of a field frame; an octet other than 0 and 1 is left open (log 8). -/
def fieldFlag (b : Byte) : Bool := if b = 0 then false else if b = 1 then true else Config.unlistedOctet b

end Sys2Proof.Machine
end

