-- ==== Sys2Proof/Machine/Notices.lean ====
section
/-! DEFINITION. The notice dispatcher (chapter 8), the two holders of the host link it feeds (R163), and the wake of quiet
mode (R173), which a level-5 notice may bring about. -/

namespace Sys2Proof.Machine

/-! ## Outgoing order (R163) -/

/-- R163: when the line is free a frame is started, the reply before the notice. -/
def startLine (s : State) : State :=
  match s.link.line with
  | some _ => s
  | none =>
    if s.link.reply.isSome then s.setLink { s.link with line := some .reply }
    else if s.link.notice.isSome then s.setLink { s.link with line := some .notice }
    else s

/-- R163: the notice holder is empty and no valid host frame is waiting to have its request taken. -/
def linkReady (s : State) : Bool := s.link.notice.isNone && s.link.waiting.isNone && !s.link.unready

/-! ## Dispatch (R151 to R153) -/

/-- The setting of a source; 1..3 are always enabled at level 5 (R148). -/
def sourceSetting (s : State) (src : NoticeSource) : SourceSetting :=
  match src with
  | .restart | .warning | .link => { enable := true, level := 5 }
  | _ => s.notices.settings.sources[sourcePlace src]

/-- The pending slot of a source. -/
def slotOf (s : State) (src : NoticeSource) : Option Slot := s.notices.slots[sourcePlace src]

/-- R151: the highest level of the in-service level set, 0 when it is empty. -/
def serviceLevel (s : State) : Nat := s.notices.inService.foldl max 0

/-- R152: the five conditions under which a full slot is eligible. -/
def eligible (s : State) (src : NoticeSource) : Bool :=
  (slotOf s src).isSome
    && !s.warning.autonomous
    && decide (serviceLevel s < (sourceSetting s src).level)
    && (sourceSetting s src).enable
    && (s.notices.settings.master || (sourceSetting s src).level == 5)
    && (s.notices.hold.isNone || (sourceSetting s src).level == 5)

/-- R152: the eligible slot with the highest level, and among equals the lowest source number. -/
def bestSource (s : State) : Option NoticeSource :=
  (noticeSources.filter (eligible s)).foldl
    (fun best src =>
      match best with
      | none => some src
      | some b => if (sourceSetting s b).level < (sourceSetting s src).level then some src else some b)
    none

/-- R153, R163: the notice frame of a slot. -/
def noticeFrame (src : NoticeSource) (slot : Slot) : OutFrame :=
  { kind := 0xC0 + sourceNumber src, tag := 0, payload := .num 1 slot.merged :: slot.content }

/-- R153: the chosen notice goes to the notice holder, its slot empties and its level joins the set. -/
def handOver (s : State) (src : NoticeSource) : State :=
  match slotOf s src with
  | none => s
  | some slot =>
    startLine
      ((s.setNotices
          { s.notices with
            slots := s.notices.slots.set (sourcePlace src) none
            inService := s.notices.inService ++ [(sourceSetting s src).level] }).setLink
        { s.link with notice := some (noticeFrame src slot) })

/-- R152: the dispatcher's choice, made when the host link is ready and a slot is eligible. -/
def dispatch (s : State) : State :=
  if linkReady s then
    match bestSource s with
    | none => s
    | some src => handOver s src
  else s

/-! ## Raising a notice (R150) -/

/-- R150: the content that a raise leaves in a full slot. A WARNING keeps the old level already in the slot, its
first field; every other notice takes the newer content whole. -/
def replacedContent (src : NoticeSource) (held newer : List Field) : List Field :=
  match src, held, newer with
  | .warning, oldLevel :: _, _ :: rest => oldLevel :: rest
  | _, _, _ => newer

/-- R150: the slot after a raise. -/
def raisedSlot (src : NoticeSource) (slot : Option Slot) (content : List Field) : Slot :=
  match slot with
  | none => { content := content, merged := 0 }
  | some held =>
    { content := replacedContent src held.content content, merged := countUp 255 held.merged }

/-- R150, R152: a notice is raised into its slot and the choice is made. -/
def fillSlot (src : NoticeSource) (content : List Field) (s : State) : State :=
  dispatch
    (s.setNotices
      { s.notices with
        slots := s.notices.slots.set (sourcePlace src) (some (raisedSlot src (slotOf s src) content)) })

/-! ## The wake of quiet mode (R173) -/

/-- R98: the monitor interval in ms, 15 s × 2ⁿ. -/
def monitorInterval (m : MonitorSettings) : Nat := 15000 * 2 ^ m.exponent

/-- A condition handed to the supervisor, with the value QUIET_WAKE reports. -/
inductive WakeReason where
  | levelChange (level : Nat)
  | stage (value : Int)
  | rate (value : Int)
  | levelFive (source : Nat)
  | postFault (entry : Nat)
  deriving DecidableEq, Repr

/-- R173: the condition is enabled and met. -/
def wakeMet (w : WakeSettings) : WakeReason → Bool
  | .levelChange _ => w.levelChange
  | .stage v => w.stage && decide (w.wakeStage ≤ v)
  | .rate v => w.rate && decide (w.wakeRate ≤ v)
  | .levelFive _ => w.levelFive
  | .postFault _ => w.postFault

/-- R173: the reason and its value, as QUIET_WAKE carries them. -/
def wakeFields : WakeReason → List Field
  | .levelChange l => [.code 0, .num 1 l]
  | .stage v => [.code 1, .num 3 v]
  | .rate v => [.code 2, .num 3 v]
  | .levelFive n => [.code 3, .num 1 n]
  | .postFault n => [.code 4, .num 1 n]

/-- R173: the content of QUIET_WAKE. -/
def quietWakeContent (s : State) (r : WakeReason) : List Field :=
  wakeFields r ++ [timeField s.supervisor.quietEntry, timeField s.now] ++ optTime s.time.stationTime

/-- R98: a wake is handed to the warning unit: a SUSPENDED monitor runs for a full interval. -/
def monitorWoken (s : State) : State :=
  match s.warning.monitor with
  | .suspended =>
    s.setWarning
      { s.warning with monitor := .running (s.now + monitorInterval s.warning.monitorSettings) }
  | _ => s

/-- R173: in QUIET an enabled condition that is met wakes the part; otherwise it does nothing. -/
def wake (r : WakeReason) (s : State) : State :=
  if s.supervisor.quiet = .quiet ∧ wakeMet s.supervisor.wake r = true then
    monitorWoken
      (fillSlot .quietWake (quietWakeContent s r)
        (s.setSupervisor { s.supervisor with quiet := .woken, wakeOutput := true }))
  else s

/-- R150: a notice is raised; one of sources 1..3 raised into an empty slot is told to the supervisor. -/
def raise (src : NoticeSource) (content : List Field) (s : State) : State :=
  let filled := fillSlot src content s
  if sourceNumber src ≤ 3 ∧ slotOf s src = none then wake (.levelFive (sourceNumber src)) filled else filled

/-! ## The requests of the dispatcher -/

/-- R149: hold remaining in units of 10 ms, truncated. -/
def holdRemaining (s : State) : Option Nat := s.notices.hold.map fun e => (e - s.now) / 10

/-- R149: the dispatcher as NOTICE_SET reports it: per source its enable, level, slot and merge count, an optional field
behind the slot's own flag (log 61); the hold's remaining value and expiry share one presence octet (log 60). -/
def noticeSetReply (s : State) : List Field :=
  [.flag s.notices.settings.master]
  ++ (noticeSources.map fun src =>
      [.flag (sourceSetting s src).enable, .num 1 (sourceSetting s src).level, .flag (slotOf s src).isSome]
      ++ optNum 1 ((slotOf s src).map (·.merged))).flatten
  ++ listFields s.notices.inService (fun l => [.num 1 l])
  ++ optFields s.notices.hold (fun e => [.num 2 ((holdRemaining s).getD 0), timeField e])

/-- R149: the source item of NOTICE_SET when it is in range: a source of 4..15 and an enable. -/
def noticeItem (item : NoticeItem) : Option (Fin 15 × SourceSetting) :=
  match place item.source 15, onOff item.enable with
  | some i, some e => if 3 < item.source then some (i, { enable := e, level := clampNat 1 4 item.level }) else none
  | _, _ => none

/-- R149: NOTICE_SET. The choice made afresh comes when the link is ready again, at the end of the taking. -/
def takeNoticeSet (master : Nat) (item : Option NoticeItem) (s : State) : State × Answer :=
  match onOff master, item.map noticeItem with
  | none, _ => (s, .refuse .range)
  | some _, some none => (s, .refuse .range)
  | some m, found =>
    if s.saveRuns then (s, .refuse .busy)
    else
      let sources := match found with
        | some (some (i, setting)) => s.notices.settings.sources.set i setting
        | _ => s.notices.settings.sources
      let s' := s.setNotices { s.notices with settings := { master := m, sources := sources } }
      (s', .reply (noticeSetReply s'))

/-- R154: NOTICE_DONE removes the highest level, which joined last. The set after the removal is carried as R149 carries it
in NOTICE_SET, a count octet and the levels in ascending order (log 71). -/
def takeNoticeDone (s : State) : State × Answer :=
  if s.notices.inService = [] then (s, .refuse .state)
  else
    let rest := s.notices.inService.erase (serviceLevel s)
    (s.setNotices { s.notices with inService := rest },
      .reply (.num 1 (serviceLevel s) :: listFields rest fun l => [.num 1 l]))

/-- R155: HOLD. Each of the remaining values and the expiry is an optional field of its own (log 60). -/
def takeHold (units : Nat) (s : State) : State × Answer :=
  let s' := s.setNotices { s.notices with hold := if units = 0 then none else some (s.now + units * 10) }
  (s', .reply (optNum 2 (holdRemaining s) ++ optNum 2 (holdRemaining s') ++ optTime s'.notices.hold))

/-- R155: the hold has reached its expiry. -/
def holdDue (s : State) : Bool := reached s.notices.hold s.now

/-- R155: the hold ends and the choice is made afresh; while AUTONOMOUS it simply ends (R156). -/
def holdExpires (s : State) : State :=
  if holdDue s then dispatch (s.setNotices { s.notices with hold := none }) else s

end Sys2Proof.Machine
end

