-- ==== Sys2Proof/Machine/TimeBase.lean ====
section
/-! DEFINITION. The time base (chapter 1): how run time and station time advance, the crystal monitor, source selection, and
the timing spans' RC marks. -/

namespace Sys2Proof.Machine

/-! ## The clocks (R3, R9) -/

/-- R9: station time advances with run time and stays at 2⁴⁷−1 once there. -/
def stationAfter (t : Option Nat) : Option Nat := t.map fun v => min (v + 1) Config.lastStationTime

/-- R3, R9: one millisecond of run time is counted. What follows 2⁴⁸−1 is left open within the range 0..2⁴⁸−1 (log 6). -/
def countMillisecond (t : TimeBase) : TimeBase :=
  { t with
    runTime := if t.runTime < Config.lastRunTime then t.runTime + 1
      else Config.runTimeAfterLast t.runTime % (Config.lastRunTime + 1)
    stationTime := stationAfter t.stationTime }

/-- R3: whether a millisecond is counted at this cycle of the group: it is 4,096 × k ÷ 125 for a k of 1..125. -/
def countsAtCycle (cycle : Nat) : Bool := (List.range 125).any fun k => 4096 * (k + 1) / 125 == cycle

/-- R3: one crystal cycle advances the group, or the millisecond that was in progress at the switch. -/
def cycleOfGroup (t : TimeBase) : TimeBase :=
  match t.completing with
  | some left =>
    if left ≤ 1 then countMillisecond { t with completing := none, groupCycles := 0 }
    else { t with completing := some (left - 1) }
  | none =>
    let cycle := t.groupCycles + 1
    let t' := { t with groupCycles := cycle % 4096 }
    if countsAtCycle cycle then countMillisecond t' else t'

/-- R3: run time advanced since the block began, after `j` factory-trimmed ms, with correction `c`. -/
def blockAdvance (c : Int) (j : Nat) : Nat := ((1000000 + c) * j / 1000000).toNat

/-- R3: the ms of run time that the factory-trimmed ms in progress gives by the formula of its block. -/
def earnedInBlock (t : TimeBase) : Nat :=
  blockAdvance t.correction (t.blockCount + 1) - blockAdvance t.correction t.blockCount

/-- R3: the ms of run time that the factory-trimmed ms in progress still gives. One in which the source or c changed
gives what it still had to give then (log 49). -/
def leftOfTick (t : TimeBase) : Nat :=
  match t.completing with
  | some left => left
  | none => earnedInBlock t - t.early

/-- One ms is counted before the end of the factory-trimmed ms that gives it (log 9). -/
def countEarly (t : TimeBase) : TimeBase :=
  countMillisecond
    (match t.completing with
      | some left => { t with completing := some (left - 1) }
      | none => { t with early := t.early + 1 })

/-- R3: a factory-trimmed ms under RC ends: its block goes on, or a new one begins after the one cut short. -/
def endTick (t : TimeBase) : TimeBase :=
  { t with
    reference := t.reference + 1, early := 0, completing := none
    blockCount := match t.completing with
      | some _ => 0
      | none => (t.blockCount + 1) % 1000000 }

/-- R3: the reference goes on under RC. Of the ms of run time that a factory-trimmed ms gives the last is counted at its
end, and one before that within it. -/
def tickRc (t : TimeBase) : TimeBase :=
  match leftOfTick t with
  | 0 => endTick t
  | 1 => countMillisecond (endTick t)
  | _ => countEarly t

/-- One millisecond of the factory-trimmed reference (R1), or under RC a ms of run time within it. -/
def tickTime (t : TimeBase) : TimeBase :=
  match t.source with
  | .rc => tickRc t
  | .xtal => { t with reference := t.reference + 1, edgeless := t.edgeless + 1 }

/-! ## The source and the spans (R5 to R7, R13) -/

/-- R13: a change of the source from XTAL to RC sets the RC mark of every open span. -/
def markSpans (t : TimeBase) : TimeBase :=
  { t with recordMark := true, exposureSpan := t.exposureSpan.map fun _ => true }

/-- R5, R7: the source becomes XTAL. The part of a millisecond still to be completed on it is left open
(log 5). It alone is then completed, also where the ms in progress still had several uncounted ms of log 50 to give. -/
def selectXtal (s : State) : State :=
  match s.time.source with
  | .xtal => s
  | .rc =>
    (s.setTime
      { s.time with
        source := .xtal
        groupCycles := 0
        early := 0
        edgeless := 0
        completing := some (1 + Config.phaseLeft s.freeCount % 33) }).freeTaken

/-- So many ms of run time are counted. -/
def countMilliseconds : Nat → TimeBase → TimeBase
  | 0, t => t
  | n + 1, t => countMilliseconds n (countMillisecond t)

/-- R3, R6, R7: the source becomes RC. So many of the ms that XTAL has left uncounted are counted at once (log 50); the
ms in progress gives the others within it, or one at its end where none is left (log 49). A change from XTAL marks the
open spans. -/
def selectRc (atOnce : Nat) (s : State) : State :=
  match s.time.source with
  | .rc => s
  | .xtal =>
    s.setTime
      (markSpans
        { countMilliseconds atOnce s.time with
          source := .rc, blockCount := 0, early := 0, edgeless := 0
          completing := some (max 1 (s.time.edgeless - atOnce)) })

/-- R13: the exposure span opens; its mark is set if RC is the source. -/
def openExposureSpan (s : State) : State :=
  s.setTime { s.time with exposureSpan := some (s.time.source == .rc) }

/-- R13: the exposure span closes. -/
def closeExposureSpan (s : State) : State := s.setTime { s.time with exposureSpan := none }

/-- R13: the mark the owner of the exposure span takes when it closes. -/
def exposureMark (s : State) : Bool := s.time.exposureSpan.getD false

/-! ## The TIME_SOURCE notice (R8) -/

/-- R8: the causes, in the order of its table (log 51). -/
inductive TimeCause where
  | autoXtal | crystalStopped | crystalReturned
  deriving DecidableEq, Repr

def timeCauseCode : TimeCause → Nat
  | .autoXtal => 0 | .crystalStopped => 1 | .crystalReturned => 2

/-- R8: the snapshot of TIME_SOURCE. -/
def timeSourceContent (s : State) (cause : TimeCause) : List Field :=
  [.code (timeCauseCode cause), .code (sourceCode s.time.source), .code (crystalCode s.time.crystal),
   .code (timeQualityCode s.timeQuality), timeField s.now] ++ optTime s.time.stationTime

def raiseTimeSource (cause : TimeCause) (s : State) : State :=
  raise .timeSource (timeSourceContent s cause) s

/-! ## The crystal monitor (R4 to R6) -/

/-- R4: entering STARTING starts both timers, on the factory-trimmed count. -/
def crystalStarts (t : TimeBase) : TimeBase :=
  { t with
    crystal := .starting
    edgeGap := some (t.reference + Config.edgeGap)
    qualification := some (t.reference + Config.qualification) }

/-- R4: what an edge does at the monitor. -/
def crystalSeesEdge (t : TimeBase) : TimeBase :=
  match t.crystal with
  | .stopped => crystalStarts t
  | _ => { t with edgeGap := some (t.reference + Config.edgeGap) }

/-- R3, R4: a crystal edge is one cycle of the crystal (log 11): it reaches the monitor, and under XTAL it
advances the group. -/
def crystalEdge (t : TimeBase) : TimeBase :=
  let t' := crystalSeesEdge t
  match t'.source with
  | .xtal => cycleOfGroup { t' with edgeless := 0 }
  | .rc => t'

def edgeGapDue (s : State) : Bool := s.time.crystal != .stopped && reached s.time.edgeGap s.time.reference

/-- R4, R6: the edge-gap timer has expired; run time has had no gap: what XTAL has left uncounted is counted at once
(log 50). -/
def edgeGapExpires (s : State) : State :=
  if edgeGapDue s then
    let stopped := s.setTime
      { s.time with crystal := .stopped, edgeGap := none, qualification := none }
    match s.time.crystal with
    | .running => raiseTimeSource .crystalStopped (selectRc s.time.edgeless stopped)
    | _ => stopped
  else s

def qualificationDue (s : State) : Bool :=
  s.time.crystal == .starting && reached s.time.qualification s.time.reference

/-- R4, R5: the qualification timer has expired. -/
def qualificationExpires (s : State) : State :=
  if qualificationDue s then
    let running := s.setTime { s.time with crystal := .running, qualification := none }
    if s.time.arm then
      let switched := selectXtal running
      raiseTimeSource .autoXtal (switched.setTime { switched.time with arm := false })
    else raiseTimeSource .crystalReturned running
  else s

/-! ## The requests of the time base -/

/-- R2: TRIM_SET; under RC a new block begins at the next millisecond boundary (R3), and the ms in progress gives what the
block cut short gives it (log 49). -/
def takeTrimSet (c : Int) (s : State) : State × Answer :=
  if s.saveRuns then (s, .refuse .busy)
  else
    let held := clampInt (-2000) 2000 c
    let t := { s.time with correction := held }
    (s.setTime (match s.time.source with
        | .rc => { t with early := 0, completing := some (leftOfTick s.time) }
        | .xtal => t),
      .reply [.num 2 held])

/-- R7: the selected source, the monitor state and the time quality after the request. -/
def timeSourceReply (s : State) : List Field :=
  [.code (sourceCode s.time.source), .code (crystalCode s.time.crystal), .code (timeQualityCode s.timeQuality)]

/-- R7: TIME_SOURCE, with XTAL (0) or RC (1). No request steps run time (R3): what XTAL has left uncounted is counted
after it (log 50). -/
def takeTimeSource (source : Nat) (s : State) : State × Answer :=
  let disarmed := s.setTime { s.time with arm := false }
  match source with
  | 0 =>
    if s.time.crystal = .running then
      let s' := selectXtal disarmed
      (s', .reply (timeSourceReply s'))
    else (s, .refuse .state)
  | 1 =>
    let s' := selectRc 0 disarmed
    (s', .reply (timeSourceReply s'))
  | _ => (s, .refuse .range)

/-- R10: TIME_SET. -/
def takeTimeSet (value : Nat) (s : State) : State × Answer :=
  if Config.lastStationTime < value then (s, .refuse .range)
  else
    (s.setTime
      { s.time with
        lastStep := s.time.stationTime.map fun held => (value : Int) - held
        lastStepRunTime := some s.now
        stationTime := some value
        stepPending := true },
      .reply (optTime s.time.stationTime ++ [timeField value, timeField s.now]))

/-- R12: TIME_READ. The last step, a difference of two station times, is carried in the six octets it needs (log 70);
ARMED or CLEAR is carried as a flag (log 52). -/
def takeTimeRead (s : State) : State × Answer :=
  (s, .reply
    ([timeField s.now] ++ optTime s.time.stationTime
      ++ [.code (timeQualityCode s.timeQuality), .code (sourceCode s.time.source),
          .code (crystalCode s.time.crystal), .flag s.time.arm, .num 2 s.time.correction]
      ++ optInt 6 s.time.lastStep ++ optTime s.time.lastStepRunTime ++ [.flag s.time.stepPending]))

end Sys2Proof.Machine
end

