-- ==== Sys2Proof/Machine/Transmitter.lean ====
section
/-! DEFINITION. The field-line transmitter: its arbiter (R28), the WARN request and frame (R39, R40), the posts' mismatch and
POST_STATE (R41, R42), and LINE_FAULT (R43). -/

namespace Sys2Proof.Machine

/-! ## Frames the part sends (R167) -/

/-- R167: the kinds of field frame. -/
def kindPoll : Nat := 0x10
def kindReading : Nat := 0x11
def kindParamGet : Nat := 0x12
def kindParamSet : Nat := 0x13
def kindParamReply : Nat := 0x14
def kindWarn : Nat := 0x20
def kindPostStatus : Nat := 0x21

/-- R94: the siren is SOUNDING. -/
def sirenSounds (s : State) : Bool :=
  match s.warning.siren with
  | .sounding _ => true
  | _ => false

/-- R40: the WARN frame, built from the level, the siren and the AUTONOMOUS flag of this moment. -/
def warnFrame (s : State) : FieldFrame :=
  { destination := s.field.settings.postGroup, source := s.field.settings.ownAddress, kind := kindWarn,
    payload := [BitVec.ofNat 8 s.warning.level, if sirenSounds s then 1 else 0,
                if s.warning.autonomous then 1 else 0] }

/-- The POLL frame to an entry. -/
def pollFrame (s : State) (i : Fin 8) : FieldFrame :=
  { destination := s.field.heads[i].config.address, source := s.field.settings.ownAddress, kind := kindPoll,
    payload := [] }

/-- R37: the PARAM_GET or PARAM_SET frame, to the entry's address as it stands. -/
def paramFrame (s : State) (m : Management) : FieldFrame :=
  { destination := s.field.heads[m.entry].config.address, source := s.field.settings.ownAddress,
    kind := match m.op with
      | .get => kindParamGet
      | .set => kindParamSet
    payload := BitVec.ofNat 8 m.parameter ::
      match m.op with
      | .get => []
      | .set => numberOctets 4 (m.value.getD 0) }

/-! ## The arbiter (R28) -/

/-- A transaction takes the transmitter, with the collision settings as they stand (R17): WAITING_IDLE, with the
deferral timer started (R29). -/
def chooseTransaction (kind : TxKind) (frame : FieldFrame) (s : State) : State :=
  s.setField
    { s.field with
      tx := .waitingIdle
      transaction := some
        { kind := kind, frame := frame, attempts := 0, backoffBits := s.field.settings.backoffBits
          singleAttempt := s.field.settings.singleAttempt }
      deferral := some (s.now + Config.deferral) }

/-- R27: the poll of an entry is due. -/
def pollIsDue (s : State) (i : Fin 8) : Bool :=
  s.field.heads[i].config.enable && reached s.field.heads[i].nextDue s.now

/-- R28: the due poll with the earliest next-due time, the lowest entry number among equals. -/
def earliestPoll (s : State) : Option (Fin 8) :=
  ((places 8).filter (pollIsDue s)).foldl
    (fun best i =>
      match best with
      | none => some i
      | some b => if s.field.heads[i].nextDue.getD 0 < s.field.heads[b].nextDue.getD 0 then some i else some b)
    none

/-- R28: the choice of the next transaction, made when the transmitter is FREE. -/
def arbitrate (s : State) : State :=
  match s.field.tx with
  | .free =>
    if s.field.warn = .standing then
      chooseTransaction (.warn s.warning.level) (warnFrame s) (s.setField { s.field with warn := .none })
    else
      match s.field.management.filter fun m => !m.inFlight with
      | some m =>
        chooseTransaction .management (paramFrame s m)
          (s.setField { s.field with management := some { m with inFlight := true } })
      | none =>
        match earliestPoll s with
        | some i => chooseTransaction (.poll i) (pollFrame s i) s
        | none => s
  | _ => s

/-- R39: a WARN request is raised: it stands, and the arbiter may choose it at once. -/
def requestWarn (s : State) : State := arbitrate (s.setField { s.field with warn := .standing })

/-- The transmitter falls FREE and the arbiter chooses (R28). -/
def transmitterFree (s : State) : State :=
  arbitrate
    (s.setField
      { s.field with tx := .free, transaction := none, deferral := none, backoff := none, window := none })

/-! ## Posts (R41, R42) -/

/-- R41: a POST entry with a present status that differs from the level last sent. -/
def mismatch (s : State) (i : Fin 8) : Bool :=
  s.field.heads[i].config.kind == .post &&
    match s.field.heads[i].post, s.field.lastSent with
    | some p, some l => p.displayed != l.level
    | _, _ => false

/-- An enabled POST entry. -/
def enabledPost (s : State) (i : Fin 8) : Bool :=
  s.field.heads[i].config.enable && s.field.heads[i].config.kind == .post

/-- R39: any enabled post is in mismatch. -/
def anyMismatch (s : State) : Bool := (places 8).any fun i => enabledPost s i && mismatch s i

/-- R41: the post fault is YES. -/
def postFault (s : State) (i : Fin 8) : Bool :=
  match s.field.heads[i].post with
  | some p => p.fault
  | none => false

/-- R41: what POST_STATE is raised for: an enabled post's mismatch, entry state or fault. -/
def postFacts (s : State) (i : Fin 8) : Option (Bool × EntryState × Bool) :=
  if enabledPost s i then some (mismatch s i, s.field.heads[i].state, postFault s i) else none

/-- One item of POST_STATE (R42); each of the three fields of the status has a presence octet of
its own (log 62). -/
def postItem (s : State) (i : Fin 8) : List Field :=
  let e := s.field.heads[i]
  [.num 1 (numberOf i), .num 1 e.config.address, .code (entryStateCode e.state)]
  ++ optNum 1 (e.post.map (·.displayed)) ++ optField (e.post.map (·.siren)) .flag
  ++ optField (e.post.map (·.fault)) .flag ++ [.flag (mismatch s i)]

/-- R42: the snapshot of all posts. Of the number of posts in mismatch the chapter states no range, its 0..8 being that of
the list; so it takes the 4 octets of R164 (log 68). -/
def postStateContent (s : State) : List Field :=
  let posts := (places 8).filter (enabledPost s)
  optNum 1 (s.field.lastSent.map (·.level)) ++ optTime (s.field.lastSent.map (·.runTime))
  ++ [.num 4 ((posts.filter (mismatch s)).length)] ++ listFields posts (postItem s)

def raisePostState (s : State) : State := raise .postState (postStateContent s) s

/-- R41: POST_STATE is raised when, since `before`, one of its facts has changed for an enabled POST entry; once, also where
several entries have changed (log 24). -/
def judgePosts (before s : State) : State :=
  if (places 8).any fun i => enabledPost before i && postFacts before i != postFacts s i then raisePostState s
  else s

/-! ## Line faults (R43) -/

/-- R43: POLL, MANAGEMENT, WARN. -/
def txKindCode : TxKind → Nat
  | .poll _ => 0 | .management => 1 | .warn _ => 2

/-- The entry a transaction names; absent for WARN. -/
def txEntry (s : State) (k : TxKind) : Option Nat :=
  match k with
  | .poll i => some (numberOf i)
  | .management => s.field.management.map fun m => numberOf m.entry
  | .warn _ => none

/-- R43: the content of LINE_FAULT; `outcome` is DEFERRED_OUT (0) or EXCESS_COLLISION (1). -/
def lineFaultContent (s : State) (t : Transaction) (entry : Option Nat) (outcome : Nat) : List Field :=
  [.code (txKindCode t.kind)] ++ optNum 1 entry ++ [.code outcome, .num 1 t.attempts, timeField s.now]
  ++ optTime s.time.stationTime

end Sys2Proof.Machine
end

