-- ==== Sys2Proof/Machine/Gauging.lean ====
section
/-! DEFINITION. The gauging sequencer (chapter 7): how it takes the cableway's completions and gives its next order, the
exposure, velocities and discharge, and how a run ends. The orders themselves are carried out in Cableway.lean. -/

namespace Sys2Proof.Machine

/-- An order to the cableway controller (R112). -/
inductive Order where
  | travel (target : Nat)
  | sound (mode : SoundMode)
  | toPoint (target : Int)
  | raise
  | retract
  deriving DecidableEq, Repr

/-- A completion handed to the sequencer (R112). -/
inductive Completion where
  | arrived (position : Int)
  | surfaceFound
  | sounded (depth failed : Nat)
  | noBottom (failed : Nat)
  | pointReady (depth : Int) (bedStop : Bool)
  | raised
  | retracted
  deriving DecidableEq, Repr

/-! ## Accessors -/

def State.run (s : State) : Run := s.gauging.run

/-- A run is ACTIVE. -/
def runActive (s : State) : Bool := s.run.state == .active

/-- A vertical in hand, its results still to come. -/
def freshVertical (index : Nat) : InVertical := { noVertical with index := index }

/-- The plan entry with this number. -/
def planEntry (s : State) (index : Nat) : PlanEntry :=
  (s.gauging.plan.entries[index - 1]?).getD
    { distance := 0, method := .edge, depth := none, coefficient := none, exposure := none }

/-- The plan entry in hand. -/
def entryInHand (s : State) : PlanEntry := planEntry s s.run.vertical.index

def setVertical (v : InVertical) (s : State) : State := s.setRun { s.run with vertical := v }

/-- The present moment, as the start and the end of a run record it (R128, R136, R138). -/
def presentMoment (s : State) : Moment :=
  { runTime := s.now, stationTime := s.time.stationTime, stage := s.stage.stage, quality := s.stage.quality }

/-! ## Velocities (R134, R135) -/

/-- R134: the segment with the greatest lower bound not above `r`; lower bounds rise from 0 (R127). -/
def segmentFor (segments : List Segment) (r : Nat) : Segment :=
  ((segments.filter fun g => decide (g.lower ≤ r)).getLast?).getD { lower := 0, intercept := 0, pitch := 0 }

/-- R134: the revolution rate in milli-rev/s. -/
def revolutionRate (ratio contacts time : Nat) : Nat := divHalfUp (contacts * ratio * 1000000) time

/-- R134: the velocity before its clamp, at or above the start rate. -/
def ratedVelocity (segments : List Segment) (r : Nat) : Int :=
  (segmentFor segments r).intercept + (divHalfUp ((segmentFor segments r).pitch * r) 1000000 : Int)

/-- R134: velocity, BELOW_START and CLAMPED_V of a point with its rate present. -/
def pointVelocity (rating : Rating) (r : Nat) : Nat × Bool × Bool :=
  if r < rating.startRate then (0, true, false)
  else
    let v := ratedVelocity rating.segments r
    ((clampInt 0 9999 v).toNat, false, decide (clampInt 0 9999 v ≠ v))

/-- The rating in force; a run is never started without one (R128). -/
def ratingHeld (s : State) : Rating :=
  s.gauging.rating.getD { ratio := 1, startRate := 0, segments := [] }

/-- The velocity of the point at a fraction. -/
def velocityAt (points : List PointRecord) (f : Fraction) : Nat :=
  ((points.find? fun p => p.fraction == f).map (·.velocity)).getD 0

/-- R135: the mean velocity of a vertical. -/
def meanVelocity (e : PlanEntry) (points : List PointRecord) : Nat :=
  match e.method with
  | .edge => 0
  | .onePoint => velocityAt points .six
  | .twoPoint => divHalfUp (velocityAt points .two + velocityAt points .eight) 2
  | .threePoint => divHalfUp (velocityAt points .two + 2 * velocityAt points .six + velocityAt points .eight) 4
  | .surface => divHalfUp (e.coefficient.getD 850 * velocityAt points .surface) 1000

/-! ## Storing a vertical (R135, R145) -/

/-- R135: the result of the vertical in hand, skipped for a reason or counted. A vertical is stored past TRAVEL, so it
has arrived (R129, R138). One that ends in mid-sounding has no failed attempts and no RETRIED (log 27). -/
def verticalResult (s : State) (skip : Option SkipReason) : VerticalResult :=
  let v := s.run.vertical
  let e := entryInHand s
  { index := v.index, method := e.method, distance := e.distance, arrival := v.arrival.getD 0, depth := v.depth,
    depthSource := v.depthSource, failed := v.failed, points := v.points,
    mean := match skip with
      | none => some (meanVelocity e v.points)
      | some _ => none
    skip := skip
    retried := decide (0 < v.failed.getD 0)
    partialPoints := skip.isSome && !v.points.isEmpty }

/-- R145: the content of RUN_PROGRESS for the vertical just stored. No range is stated for D, so it takes the 4 octets of
R164. -/
def runProgressContent (s : State) (v : VerticalResult) : List Field :=
  [timeField ((s.run.start.map (·.runTime)).getD 0), .num 1 v.index] ++ optNum 4 v.depth ++ optNum 2 v.mean
  ++ optField v.skip (fun r => .code (skipCode r))
  ++ [.num 1 s.run.verticals.length, .num 1 s.gauging.plan.entries.length, .code (runStateCode s.run.state),
      timeField s.now]
  ++ optTime s.time.stationTime

/-- R135: the vertical in hand is stored and RUN_PROGRESS raised. -/
def storeVertical (skip : Option SkipReason) (s : State) : State :=
  let v := verticalResult s skip
  let stored := s.setRun { s.run with verticals := s.run.verticals ++ [v] }
  raise .runProgress (runProgressContent stored v) stored

/-! ## Discharge (R141, R142) -/

/-- R141: the counted verticals. -/
def countedVerticals (r : Run) : List VerticalResult := r.verticals.filter fun v => v.skip.isNone

/-- R141: the doubled widths: from the neighbour before (itself for the first) to the neighbour after (itself
for the last). -/
def doubledWidths : Nat → List Nat → List Nat
  | _, [] => []
  | before, d :: rest => (rest.headD d - before) :: doubledWidths d rest

/-- R141: the sums of the doubled partial discharges and of the doubled areas. -/
def doubledSums (vs : List VerticalResult) : Nat × Nat :=
  let ds := vs.map (·.distance)
  (vs.zip (doubledWidths (ds.headD 0) ds)).foldl
    (fun acc p => (acc.1 + p.1.mean.getD 0 * p.1.depth.getD 0 * p.2, acc.2 + p.1.depth.getD 0 * p.2)) (0, 0)

/-- R142: the mean gauge height, absent when either stage is. -/
def gaugeHeight (start finish : Option Int) : Option Int :=
  match start, finish with
  | some a, some b => some (divNearest (a + b) 2)
  | _, _ => none

/-- R142: both stages present and further apart than the change limit. -/
def stageChanged (start finish : Option Int) (limit : Nat) : Bool :=
  match start, finish with
  | some a, some b => decide (limit < (b - a).natAbs)
  | _, _ => false

/-- R141, R142: the results of a run that completes. -/
def runResults (r : Run) : RunResults :=
  let height := gaugeHeight (r.start.bind (·.stage)) (r.finish.bind (·.stage))
  if (countedVerticals r).length < 3 then
    { discharge := none, area := none, mean := none, gaugeHeight := height }
  else
    let sums := doubledSums (countedVerticals r)
    { discharge := some (divHalfUp sums.1 2000000), area := some (divHalfUp sums.2 200)
      mean := if sums.2 = 0 then none else some (divHalfUp sums.1 sums.2)
      gaugeHeight := height }

/-- R146: the content of RUN_END. Its return outcome is numbered by R146's own list of two (log 59). No
range is stated for the run's mean velocity and mean gauge height, so each takes the 4 octets of R164. -/
def runEndContent (s : State) : List Field :=
  let r := s.run
  [.code (if r.state = .complete then 0 else 1)] ++ optField r.reason (fun x => .code (abortCode x))
  ++ [.code (match r.outcome with
      | some .faulted => 1
      | _ => 0)]
  ++ [timeField ((r.start.map (·.runTime)).getD 0), timeField ((r.finish.map (·.runTime)).getD 0)]
  ++ optTime (r.start.bind (·.stationTime)) ++ optTime (r.finish.bind (·.stationTime))
  ++ [.num 1 r.verticals.length, .num 1 (countedVerticals r).length,
      .num 1 (r.verticals.length - (countedVerticals r).length)]
  ++ optNum 4 r.results.discharge ++ optNum 4 r.results.area ++ optNum 4 r.results.mean
  ++ optInt 3 (r.start.bind (·.stage)) ++ optInt 3 (r.finish.bind (·.stage))
  ++ optInt 4 r.results.gaugeHeight ++ [.bits 1 (runFlagMask r)]

def raiseRunEnd (s : State) : State := raise .runEnd (runEndContent s) s

/-- R136: the return of a RETURNING run ends: the end is recorded, the results are computed, COMPLETE, RUN_END. -/
def completeRun (outcome : ReturnOutcome) (s : State) : State :=
  let r := { s.run with outcome := some outcome, finish := some (presentMoment s) }
  raiseRunEnd
    (s.setRun
      { r with
        results := runResults r
        tooFew := decide ((countedVerticals r).length < 3)
        stageChanging := stageChanged (r.start.bind (·.stage)) (r.finish.bind (·.stage)) s.gauging.plan.changeLimit
        state := .complete })

/-- R138: the return of an ABORTED run ends. -/
def endAbortedReturn (outcome : ReturnOutcome) (s : State) : State :=
  raiseRunEnd (s.setRun { s.run with outcome := some outcome })

/-! ## Working the verticals (R129 to R131) -/

/-- R131: the fractions of a method, deepest first. -/
def fractions : Method → List Fraction
  | .edge => []
  | .onePoint => [.six]
  | .twoPoint => [.eight, .two]
  | .threePoint => [.eight, .six, .two]
  | .surface => [.surface]

/-- R116: the meter depth of a point, and whether it is held at D less the weight offset. -/
def meterDepth (f : Fraction) (depth offset : Nat) : Nat × Bool :=
  match f with
  | .surface => (Config.surfaceDepth, false)
  | _ =>
    let x := divHalfUp (depth * fractionTenths f) 10
    if depth - offset < x then (depth - offset, true) else (x, false)

def setPhase (p : RunPhase) (s : State) : State := s.setRun { s.run with phase := some p }

/-- R131: the next point is placed, or after the last one the weight is raised. -/
def placeNext (s : State) : State × Option Order :=
  let v := s.run.vertical
  match v.remaining with
  | [] => (setPhase .raise (setVertical { v with point := none } s), some .raise)
  | f :: rest =>
    let offset := s.cable.settings.weightOffset
    let (x, held) := meterDepth f (v.depth.getD 0) offset
    (setPhase .place
        (setVertical
          { v with
            remaining := rest
            point := some { fraction := f, meterDepth := x, clamped := held, bedStop := false } } s),
      some (.toPoint ((x + offset : Nat) : Int)))

/-- R130: a vertical marked SKIPPED in phase SOUND is raised. -/
def markSkipped (reason : SkipReason) (s : State) : State × Option Order :=
  (setPhase .raise (setVertical { s.run.vertical with marked := some reason } s), some .raise)

/-- R130: with D found, a SHALLOW vertical is skipped; otherwise its first point is placed. -/
def judgeDepth (s : State) : State × Option Order :=
  if (entryInHand s).method ≠ .surface ∧ s.run.vertical.depth.getD 0 ≤ s.cable.settings.weightOffset then
    markSkipped .shallow s
  else
    placeNext (setVertical { s.run.vertical with remaining := fractions (entryInHand s).method } s)

/-- R129: after a vertical is stored, the run ends its verticals (R136) or goes on to the next entry. -/
def goOn (s : State) : State × Option Order :=
  let index := s.run.vertical.index
  if s.gauging.plan.entries.length ≤ index then
    (s.setRun
        { s.run with
          state := .returning, outcome := some .inProgress, phase := none, vertical := noVertical },
      some .retract)
  else
    (setPhase .travel (setVertical (freshVertical (index + 1)) s),
      some (.travel (planEntry s (index + 1)).distance))

/-- R129: ARRIVED in phase TRAVEL. -/
def takeArrived (position : Int) (s : State) : State × Option Order :=
  let v := { s.run.vertical with arrival := some position }
  let e := entryInHand s
  if v.skipMark then goOn (storeVertical (some .byRequest) (setVertical v s))
  else
    match e.method with
    | .edge =>
      goOn (storeVertical none
        (setVertical { v with depth := some (e.depth.getD 0), depthSource := some .edge } s))
    | _ =>
      (setPhase .sound (setVertical v s),
        some (.sound (if e.method = .surface ∨ e.depth.isSome = true then .surface else .full)))

/-- R132: an exposure begins: its span opens, its length is the entry's or the default, the start wait runs. -/
def beginExposure (s : State) : State :=
  let seconds := ((entryInHand s).exposure).getD s.gauging.plan.defaultExposure
  openExposureSpan
    (s.setRun
      { s.run with
        phase := some .expose
        exposure := some
          { state := .waitingFirst, length := seconds * 1000, start := none, contacts := 0,
            lastCounted := none, expiry := some (s.now + Config.startWait) } })

/-- R117, R131: POINT_READY fixes the meter depth; a stop on the bed gives the reel depth less the offset. -/
def takePointReady (depth : Int) (bedStop : Bool) (s : State) : State × Option Order :=
  let v := s.run.vertical
  let point := v.point.map fun p =>
    if bedStop then
      { p with
        meterDepth := atLeastZero (depth - s.cable.settings.weightOffset), clamped := true, bedStop := true }
    else p
  (beginExposure (setVertical { v with point := point } s), none)

/-- R129 to R131, R136, R138: the sequencer takes a completion and gives its next order. A completion that its
phase does not await changes nothing. -/
def sequencerTakes (c : Completion) (s : State) : State × Option Order :=
  match c, s.run.state, s.run.phase with
  | .arrived position, .active, some .travel => takeArrived position s
  | .surfaceFound, .active, some .sound =>
    judgeDepth
      (setVertical
        { s.run.vertical with depth := some ((entryInHand s).depth.getD 0), depthSource := some .override } s)
  | .sounded depth failed, .active, some .sound =>
    judgeDepth
      (setVertical
        { s.run.vertical with depth := some depth, depthSource := some .sounded, failed := some failed } s)
  | .noBottom failed, .active, some .sound =>
    markSkipped .noBottom (setVertical { s.run.vertical with failed := some failed } s)
  | .pointReady depth bedStop, .active, some .place => takePointReady depth bedStop s
  | .raised, .active, some .raise => goOn (storeVertical s.run.vertical.marked s)
  | .retracted, .returning, _ => (completeRun .parked s, none)
  | .retracted, .aborted, _ =>
    if s.run.outcome = some .inProgress then (endAbortedReturn .parked s, none) else (s, none)
  | _, _, _ => (s, none)

/-! ## The exposure (R132, R133) -/

/-- R133: the point record of an exposure that ends with so many contacts in a time, absent when it counted none. -/
def pointRecord (s : State) (contacts : Nat) (time : Option Nat) (short stalled : Bool) : PointRecord :=
  let p := s.run.vertical.point.getD { fraction := .six, meterDepth := 0, clamped := false, bedStop := false }
  let rate := time.map fun t => revolutionRate (ratingHeld s).ratio contacts t
  let (v, below, clampedV) := match rate with
    | some r => pointVelocity (ratingHeld s) r
    | none => (0, false, false)
  { fraction := p.fraction, meterDepth := p.meterDepth, contacts := contacts, time := time, rate := rate,
    velocity := v,
    flags :=
      { clamped := p.clamped, bedStop := p.bedStop, short := short, stalled := stalled, belowStart := below,
        clampedV := clampedV, timingRC := exposureMark s } }

/-- R131, R133: an exposure ends with its point record; the span closes and the next order follows. -/
def endExposure (record : PointRecord) (s : State) : State × Option Order :=
  let closed := closeExposureSpan (s.setRun { s.run with exposure := none })
  placeNext
    (setVertical { closed.run.vertical with points := closed.run.vertical.points ++ [record] } closed)

/-- R132: a contact less than 15 ms after the previous accepted one is chatter. -/
def contactIgnored (e : Exposure) (now : Nat) : Bool :=
  match e.lastCounted.or e.start with
  | none => false
  | some previous => decide (now < previous + Config.chatter)

/-- R132, R133: a contact during an exposure. -/
def contactTaken (e : Exposure) (s : State) : State × Option Order :=
  if contactIgnored e s.now then (s, none)
  else
    match e.state, e.start with
    | .waitingFirst, _ =>
      (s.setRun
        { s.run with
          exposure := some { e with state := .counting, start := some s.now, contacts := 0, expiry := none } },
        none)
    | st, start =>
      let n := e.contacts + 1
      let t0 := start.getD 0
      if st = .ending ∨ t0 + e.length ≤ s.now then
        endExposure (pointRecord s n (some (s.now - t0)) false false) s
      else
        (s.setRun { s.run with exposure := some { e with contacts := n, lastCounted := some s.now } }, none)

/-- R132: run time has reached t₀ + E in COUNTING. -/
def endingDue (s : State) : Bool :=
  match s.run.exposure with
  | some e => e.state == .counting && decide (e.start.getD 0 + e.length ≤ s.now)
  | none => false

/-- R132: the exposure enters ENDING and the late limit starts. -/
def exposureEnds (s : State) : State :=
  match s.run.exposure with
  | some e =>
    if endingDue s then
      s.setRun
        { s.run with
          exposure := some
            { e with state := .ending, expiry := some (e.start.getD 0 + e.length + Config.lateLimit) } }
    else s
  | none => s

def lateLimitDue (s : State) : Bool :=
  match s.run.exposure with
  | some e => e.state == .ending && reached e.expiry s.now
  | none => false

/-- R133: the late limit expires: SHORT, and STALLED too when no contact was counted. -/
def lateLimitEnds (s : State) : State × Option Order :=
  match s.run.exposure with
  | some e =>
    if lateLimitDue s then
      if e.contacts = 0 then endExposure (pointRecord s 0 none true true) s
      else
        endExposure
          (pointRecord s e.contacts (some (e.lastCounted.getD 0 - e.start.getD 0)) true false) s
    else (s, none)
  | none => (s, none)

def startWaitDue (s : State) : Bool :=
  match s.run.exposure with
  | some e => e.state == .waitingFirst && reached e.expiry s.now
  | none => false

/-- R133: the start wait expires: STALLED. -/
def startWaitEnds (s : State) : State × Option Order :=
  if startWaitDue s then endExposure (pointRecord s 0 none false true) s else (s, none)

/-- An exposure is abandoned: its span closes and it leaves no point record (R133). -/
def abandonExposure (s : State) : State :=
  match s.run.exposure with
  | none => s
  | some _ => closeExposureSpan (s.setRun { s.run with exposure := none })

/-! ## Aborting (R138 to R140) -/

/-- R135, R138: the skip reason of a run's reason. -/
def skipOfAbort : AbortReason → SkipReason
  | .byRequest => .byRequest
  | .withdraw => .withdraw
  | .linkSilent => .linkSilent
  | .motionFault => .motionFault

/-- R138, steps 1 to 4: the run is ABORTED with its reason, an exposure is abandoned, a vertical that is past
TRAVEL is stored SKIPPED, and the end is recorded. -/
def abortCore (reason : AbortReason) (s : State) : State :=
  let marked := s.setRun
    { s.run with state := .aborted, reason := some reason,
                 vertical := { s.run.vertical with skipMark := false } }
  let quiet := abandonExposure marked
  let stored := match s.run.phase with
    | some .travel => quiet
    | none => quiet
    | some _ => storeVertical (some (s.run.vertical.marked.getD (skipOfAbort reason))) quiet
  stored.setRun
    { stored.run with finish := some (presentMoment stored), phase := none, vertical := noVertical }

/-- R136, R138, R140: a motion fault is handed to the sequencer. -/
def sequencerFault (s : State) : State :=
  match s.run.state with
  | .active => endAbortedReturn .faulted (abortCore .motionFault s)
  | .returning => completeRun .faulted s
  | .aborted => if s.run.outcome = some .inProgress then endAbortedReturn .faulted s else s
  | _ => s

end Sys2Proof.Machine
end

