-- ==== Sys2Proof/Machine/Cableway.lean ====
section
/-! DEFINITION. The cableway controller (chapter 6): counts and measures, the drive and its stall timer, the motions, faults,
and the requests CARRIAGE_SET, CARRIAGE_HOME and CARRIAGE_READ. At its end the exchange of completions and orders
between the controller and the gauging sequencer (R112). -/

namespace Sys2Proof.Machine

/-! ## The four measures (R108), in µm and in mm -/

/-- R108: the reel depth, in µm. -/
def reelDepth (c : Cableway) : Option Int := c.surfacePoint.map fun p => c.reelCount - p

def positionMm (c : Cableway) : Option Int := if c.positionKnown then some (millimetres c.traverseCount) else none
def payoutMm (c : Cableway) : Option Int := if c.payoutKnown then some (millimetres c.reelCount) else none
def depthMm (c : Cableway) : Option Int := (reelDepth c).map millimetres

def setMotion (m : Motion) (s : State) : State := s.setCable { s.cable with motion := m }

/-! ## The drive (R109, R110) -/

/-- R110: the expiry of a stall timer started now. -/
def stallExpiryNow (s : State) : Nat := s.now + s.cable.settings.stallTime * 1000

/-- R109, R110: exactly this output is driven, or none. An output that is driven already stays driven, and its
stall timer goes on. -/
def setDrive (d : Option Drive) (s : State) : State :=
  if s.cable.drive = d then s
  else s.setCable { s.cable with drive := d, stall := d.map fun _ => stallExpiryNow s }

def drivesTraverse : Option Drive → Bool
  | some .traverseOut => true
  | some .traverseIn => true
  | _ => false

def drivesReel : Option Drive → Bool
  | some .reelDown => true
  | some .reelUp => true
  | _ => false

/-! ## Faults (R119, R121) -/

def outputFields (d : Option Drive) : List Field := listFields d.toList fun x => [.code (driveCode x)]

/-- A motion state and its phase. -/
def motionFields (m : Motion) (reelTop : Bool) : List Field :=
  .code (motionCode m) :: optField (phaseCode m reelTop) .code

/-- The fields of a fault record up to the reel depth. -/
def faultFields (f : FaultRecord) : List Field :=
  [.code (faultCode f.cause)] ++ motionFields f.motion f.reelTop ++ outputFields f.outputs
  ++ optInt 4 f.position ++ optInt 4 f.payout ++ optInt 4 f.depth

/-- R121: the content of MOTION_FAULT. -/
def motionFaultContent (vertical : Option Nat) (f : FaultRecord) : List Field :=
  faultFields f ++ optNum 1 vertical ++ [timeField f.runTime] ++ optTime f.stationTime

/-- R119: the fault record of a fault at this moment. -/
def faultRecord (cause : FaultCause) (s : State) : FaultRecord :=
  { cause := cause, motion := s.cable.motion, reelTop := s.cable.switches.reelTop, outputs := s.cable.drive,
    position := positionMm s.cable, payout := payoutMm s.cable, depth := depthMm s.cable, runTime := s.now,
    stationTime := s.time.stationTime }

/-- R119, steps 1 to 3: the controller is FAULTED, every output removed, every timer cancelled. -/
def enterFaulted (cause : FaultCause) (s : State) : State :=
  s.setCable
    { s.cable with
      drive := none, stall := none, hold := none, settle := none, motion := .faulted
      fault := some (faultRecord cause s) }

/-- R119: a fault, in the order its five steps give. -/
def takeFault (cause : FaultCause) (s : State) : State :=
  let vertical := if runActive s then some s.run.vertical.index else none
  raise .motionFault (motionFaultContent vertical (faultRecord cause s)) (sequencerFault (enterFaulted cause s))

/-! ## Motions along the traverse (R111, R113, R118) -/

/-- R111, R118: home is reached: the count is set to 0 and the carriage is PARKED. -/
def reachHome (s : State) : State :=
  let stopped := setDrive none s
  stopped.setCable { stopped.cable with traverseCount := 0, positionKnown := true, motion := .parked }

/-- R113: the arrival, with its position. -/
def arrive (s : State) : State × Option Completion :=
  let stopped := setDrive none s
  let p := millimetres s.cable.traverseCount
  (stopped.setCable { stopped.cable with motion := .atVertical, arrival := some p }, some (.arrived p))

/-- R113: the arrival at a target of 0 by HOME_LIMIT. -/
def arriveHome (s : State) : State × Option Completion :=
  arrive (s.setCable { s.cable with traverseCount := 0 })

/-- R113: the position is within the position tolerance of a target in mm. -/
def withinTolerance (c : Cableway) (target : Nat) : Bool :=
  c.positionKnown && decide ((c.traverseCount - (target : Int) * 1000).natAbs ≤ c.settings.tolerance * 1000)

/-- R113, R119: the drive toward a travel target. A limit switch already closed faults at that event; home already
closed ends a travel to 0 (log 31). -/
def driveToTarget (target : Nat) (s : State) : State × Option Completion :=
  if withinTolerance s.cable target then arrive s
  else if (target : Int) * 1000 < s.cable.traverseCount then
    if s.cable.switches.homeLimit then
      if target = 0 then arriveHome s else (takeFault .limit (setDrive (some .traverseIn) s), none)
    else (setDrive (some .traverseIn) s, none)
  else if s.cable.switches.farLimit then (takeFault .limit (setDrive (some .traverseOut) s), none)
  else (setDrive (some .traverseOut) s, none)

/-- R109: the drive of HOMING, TRAVELLING and RETRACTING: the reel first while REEL_TOP is open, then the traverse
toward the goal. -/
def pursue (s : State) : State × Option Completion :=
  match s.cable.motion with
  | .homing =>
    if !s.cable.switches.reelTop then (setDrive (some .reelUp) s, none)
    else if s.cable.switches.homeLimit then (reachHome s, none)
    else (setDrive (some .traverseIn) s, none)
  | .retracting =>
    if !s.cable.switches.reelTop then (setDrive (some .reelUp) s, none)
    else if s.cable.switches.homeLimit then (reachHome s, some .retracted)
    else (setDrive (some .traverseIn) s, none)
  | .travelling target =>
    if !s.cable.switches.reelTop then (setDrive (some .reelUp) s, none) else driveToTarget target s
  | _ => (s, none)

/-! ## Sounding (R114, R115) -/

/-- R119: the reel depth is greater than the maximum depth while REEL_DOWN is driven and the bottom contact is open. -/
def depthExceeded (c : Cableway) : Bool :=
  c.drive == some .reelDown && !c.switches.bottom &&
    match reelDepth c, c.settings.maxDepth with
    | some d, some limit => decide ((limit : Int) * 1000 < d)
    | _, _ => false

/-- R119: the DEPTH_LIMIT fault, where it applies. -/
def judgeDepthLimit (s : State) : State := if depthExceeded s.cable then takeFault .depthLimit s else s

/-- R115: HOLD begins. -/
def enterHold (s : State) : State :=
  let stopped := setDrive none s
  stopped.setCable
    { stopped.cable with motion := .seekingBottom .hold, hold := some (s.now + Config.bottomHold) }

/-- R115: SEEK begins; with the bottom contact closed HOLD starts at once. -/
def enterSeek (s : State) : State :=
  if s.cable.switches.bottom then enterHold s
  else judgeDepthLimit (setDrive (some .reelDown) (setMotion (.seekingBottom .seek) s))

/-- R114: the surface is found. -/
def surfaceFound (mode : SoundMode) (s : State) : State × Option Completion :=
  let found := s.setCable { s.cable with surfacePoint := some s.cable.reelCount }
  match mode with
  | .surface => (setDrive none found, some .surfaceFound)
  | .full => (enterSeek found, none)

/-- R114: REEL_DOWN is driven in SEEKING_SURFACE and the surface is still to be found. -/
def seekingMode (c : Cableway) : Option SoundMode :=
  match c.motion, c.drive with
  | .seekingSurface mode, some .reelDown => some mode
  | _, _ => none

/-- R114, R119: the payout has reached 30,000 mm. -/
def payoutRunOut (c : Cableway) : Bool := decide (Config.surfaceLimit ≤ c.reelCount)

/-- R114: SOUND begins: the sounding record is cleared, with its surface point, and REEL_DOWN is driven. -/
def beginSound (mode : SoundMode) (s : State) : State :=
  setDrive (some .reelDown)
    (s.setCable
      { s.cable with
        motion := .seekingSurface mode, sounding := some { failed := 0, depth := none }, surfacePoint := none })

/-- R114: SOUND is taken. -/
def takeSound (mode : SoundMode) (s : State) : State × Option Completion :=
  let begun := beginSound mode s
  if begun.cable.switches.surface then surfaceFound mode begun
  else if payoutRunOut begun.cable then (takeFault .noSurface begun, none)
  else (begun, none)

/-- The failed attempts of the sounding in hand. -/
def failedAttempts (c : Cableway) : Nat := (c.sounding.map (·.failed)).getD 0

/-- R115: BOUNCE is over: the weight is 300 mm up from where the contact opened, or at the surface. -/
def bounceOver (opened : Int) (c : Cableway) : Bool :=
  match reelDepth c with
  | some d => decide (d ≤ opened - Config.bounce ∨ d ≤ 0)
  | none => false

/-- R115: the bottom contact opens in HOLD. At a reel depth of 0 or less BOUNCE is over as it begins (log 65). -/
def attemptFails (s : State) : State × Option Completion :=
  let n := failedAttempts s.cable + 1
  let failed := s.setCable
    { s.cable with hold := none, sounding := some { failed := n, depth := none } }
  if 3 ≤ n then (failed, some (.noBottom n))
  else
    let opened := (reelDepth s.cable).getD 0
    let bouncing := setMotion (.seekingBottom (.bounce opened)) failed
    if bounceOver opened bouncing.cable then (enterSeek bouncing, none)
    else (setDrive (some .reelUp) bouncing, none)

/-- R115: the hold timer has expired; the contact is closed, since its opening would have cancelled the timer. -/
def holdTimerDue (s : State) : Bool := reached s.cable.hold s.now

/-- R115: SOUNDED. The depth is 0 where the reel depth is absent (log 32). -/
def sounded (s : State) : State × Option Completion :=
  let d := atLeastZero ((depthMm s.cable).getD 0)
  (s.setCable
      { s.cable with hold := none, sounding := some { failed := failedAttempts s.cable, depth := some d } },
    some (.sounded d (failedAttempts s.cable)))

/-! ## Placing the meter (R117) -/

/-- R117: AT_POINT is entered. -/
def enterAtPoint (bedStop : Bool) (s : State) : State :=
  let stopped := setDrive none s
  stopped.setCable
    { stopped.cable with
      motion := .atPoint, settle := some (s.now + s.cable.settings.settleTime * 1000)
      pointDepth := depthMm s.cable, bedStop := bedStop }

/-- R117: TO_POINT is taken. An absent reel depth compares with nothing, and no output is driven (log 32). -/
def takeToPoint (target : Int) (s : State) : State :=
  let begun := setMotion (.toPoint target) (s.setCable { s.cable with hold := none, settle := none })
  match reelDepth s.cable with
  | none => setDrive none begun
  | some d =>
    if d = target * 1000 then enterAtPoint false begun
    else if d < target * 1000 then
      if s.cable.switches.bottom then enterAtPoint true begun
      else judgeDepthLimit (setDrive (some .reelDown) begun)
    else setDrive (some .reelUp) begun

/-- R117: the reel depth has reached or passed the target. -/
def pointReached (target : Int) (c : Cableway) : Bool :=
  match reelDepth c, c.drive with
  | some d, some .reelDown => decide (target * 1000 ≤ d)
  | some d, some .reelUp => decide (d ≤ target * 1000)
  | _, _ => false

def settleDue (s : State) : Bool := s.cable.motion == .atPoint && reached s.cable.settle s.now

/-- R117: the settle time is over: POINT_READY. -/
def pointReady (s : State) : State × Option Completion :=
  (s.setCable { s.cable with settle := none },
    some (.pointReady (s.cable.pointDepth.getD 0) s.cable.bedStop))

/-! ## Raising and retracting (R118) -/

/-- R118: the raise ends. -/
def endRaise (s : State) : State × Option Completion :=
  let stopped := setDrive none s
  (stopped.setCable
      { stopped.cable with reelCount := 0, surfacePoint := none, motion := .atVertical },
    some .raised)

/-- R118: every output is removed and every hold, settle or bounce cancelled. -/
def stillCarriage (s : State) : State :=
  let stopped := setDrive none s
  stopped.setCable { stopped.cable with hold := none, settle := none }

/-- R118: RAISE is taken in a state that lowers or holds the weight. -/
def beginRaise (s : State) : State × Option Completion :=
  let begun := setMotion .raising (stillCarriage s)
  if begun.cable.switches.reelTop then endRaise begun else (setDrive (some .reelUp) begun, none)

/-- R118: RETRACT is taken. -/
def beginRetract (s : State) : State × Option Completion := pursue (setMotion .retracting (stillCarriage s))

/-! ## Orders (R112) -/

/-- R112: the controller takes an order, or drops it in a state where it is not taken. -/
def cablewayTakes (o : Order) (s : State) : State × Option Completion :=
  match o, s.cable.motion with
  | .travel target, .parked | .travel target, .atVertical =>
    if withinTolerance s.cable target then arrive s else pursue (setMotion (.travelling target) s)
  | .sound mode, .atVertical => takeSound mode s
  | .toPoint target, .seekingSurface _ =>
    if s.cable.drive = none then (takeToPoint target s, none) else (s, none)
  | .toPoint target, .seekingBottom .hold =>
    if s.cable.hold = none then (takeToPoint target s, none) else (s, none)
  | .toPoint target, .atPoint => (takeToPoint target s, none)
  | .raise, .seekingSurface _ | .raise, .seekingBottom _ | .raise, .toPoint _ | .raise, .atPoint => beginRaise s
  | .raise, .atVertical => (s, some .raised)
  | .retract, .parked => (s, some .retracted)
  | .retract, .unreferenced | .retract, .homing | .retract, .faulted | .retract, .retracting => (s, none)
  | .retract, _ => beginRetract s
  | _, _ => (s, none)

/-- R112: the sequencer takes a completion and the controller the order it gives, until one of them waits. Each
round but the last works off a part of the plan, which holds at most 40 entries of at most five orders (log 30). -/
def settleOrders : Nat → Option Completion → State → State
  | 0, _, s => s
  | _, none, s => s
  | n + 1, some c, s =>
    match sequencerTakes c s with
    | (s', none) => s'
    | (s', some o) => settleOrders n (cablewayTakes o s').2 (cablewayTakes o s').1

/-- The rounds one event can take. -/
def orderRounds : Nat := 240

/-- What the controller has done, with the completion it hands. -/
def handCompletion (p : State × Option Completion) : State := settleOrders orderRounds p.2 p.1

/-- What the sequencer has done, with the order it gives. -/
def handOrder (p : State × Option Order) : State :=
  match p.2 with
  | none => p.1
  | some o => handCompletion (cablewayTakes o p.1)

/-- R138: a run is aborted for a reason other than a motion fault: RETRACT is ordered. -/
def abortRun (reason : AbortReason) (s : State) : State :=
  let core := abortCore reason s
  handOrder (core.setRun { core.run with outcome := some .inProgress }, some .retract)

/-! ## Events of the encoders (R106, R110) -/

/-- R110: a pulse of the driven axis restarts the stall timer. -/
def restartStall (driven : Bool) (s : State) : State :=
  if driven then s.setCable { s.cable with stall := some (stallExpiryNow s) } else s

/-- R106: a traverse pulse is counted, unless the scale is absent. -/
def countTraverse (outward : Bool) (c : Cableway) : Cableway :=
  match c.settings.traverseScale with
  | none => c
  | some scale =>
    { c with traverseCount := if outward then c.traverseCount + scale else c.traverseCount - scale }

/-- R106, R108: a reel pulse is counted, unless the scale is absent or REEL_TOP holds the count at 0. -/
def countReel (down : Bool) (c : Cableway) : Cableway :=
  match c.settings.reelScale with
  | none => c
  | some scale =>
    if c.switches.reelTop then c
    else { c with reelCount := if down then c.reelCount + scale else c.reelCount - scale }

/-- R113: what a traverse pulse brings about once counted. A pulse that jumps over the whole tolerance leaves the output
driven as it is (log 64). -/
def traverseJudged (s : State) : State × Option Completion :=
  match s.cable.motion with
  | .travelling target =>
    if drivesTraverse s.cable.drive && withinTolerance s.cable target then arrive s else (s, none)
  | _ => (s, none)

def traverseMoves (outward : Bool) (s : State) : State :=
  handCompletion
    (traverseJudged (restartStall (drivesTraverse s.cable.drive) (s.setCable (countTraverse outward s.cable))))

/-- R114, R115, R117, R119: what a reel pulse brings about once counted. -/
def reelJudged (s : State) : State :=
  match s.cable.motion with
  | .seekingSurface _ =>
    if s.cable.drive = some .reelDown ∧ payoutRunOut s.cable = true then takeFault .noSurface s else s
  | .seekingBottom .seek => judgeDepthLimit s
  | .seekingBottom (.bounce opened) => if bounceOver opened s.cable then enterSeek s else s
  | .toPoint target => if pointReached target s.cable then enterAtPoint false s else judgeDepthLimit s
  | _ => s

def reelMoves (down : Bool) (s : State) : State :=
  reelJudged (restartStall (drivesReel s.cable.drive) (s.setCable (countReel down s.cable)))

/-! ## Events of the switches -/

def setSwitches (f : Switches → Switches) (s : State) : State :=
  s.setCable { s.cable with switches := f s.cable.switches }

/-- HOME_LIMIT closes (R111, R113, R118, R119). In a travel to a target other than 0 it is a LIMIT fault only while
TRAVERSE_IN is driven, as R119 has it; with TRAVERSE_OUT or REEL_UP driven it is a switch alone (log 69). -/
def homeLimitCloses (s : State) : State :=
  if s.cable.switches.homeLimit then s
  else
    let closed := setSwitches (fun x => { x with homeLimit := true }) s
    match s.cable.motion, s.cable.drive with
    | .homing, some .traverseIn => reachHome closed
    | .retracting, some .traverseIn => handCompletion (reachHome closed, some .retracted)
    | .travelling target, some .traverseIn =>
      if target = 0 then handCompletion (arriveHome closed) else takeFault .limit closed
    | _, _ => closed

/-- FAR_LIMIT closes (R113, R119). -/
def farLimitCloses (s : State) : State :=
  if s.cable.switches.farLimit then s
  else
    let closed := setSwitches (fun x => { x with farLimit := true }) s
    match s.cable.motion, s.cable.drive with
    | .travelling _, some .traverseOut => takeFault .limit closed
    | _, _ => closed

/-- R108: REEL_TOP has closed: the reel count is 0, the payout is present if the scale is, the surface point absent. -/
def reelTopped (c : Cableway) : Cableway :=
  { c with
    reelCount := 0, payoutKnown := c.payoutKnown || c.settings.reelScale.isSome, surfacePoint := none
    switches := { c.switches with reelTop := true } }

/-- REEL_TOP changes (R108, R109, R118). It ends no TO_POINT, whose depth is then absent: its output stays driven
(log 32). -/
def reelTopChanges (closed : Bool) (s : State) : State :=
  if s.cable.switches.reelTop = closed then s
  else if closed then
    let topped := s.setCable (reelTopped s.cable)
    match s.cable.motion with
    | .raising => handCompletion (endRaise topped)
    | _ => handCompletion (pursue topped)
  else
    handCompletion (pursue (setSwitches (fun x => { x with reelTop := false }) s))

/-- SURFACE_CONTACT closes (R114). -/
def surfaceCloses (s : State) : State :=
  if s.cable.switches.surface then s
  else
    let closed := setSwitches (fun x => { x with surface := true }) s
    match seekingMode closed.cable with
    | some mode => handCompletion (surfaceFound mode closed)
    | none => closed

/-- BOTTOM_CONTACT closes (R114, R115, R117). -/
def bottomCloses (s : State) : State :=
  let closed := setSwitches (fun x => { x with bottom := true }) s
  match seekingMode closed.cable, s.cable.motion, s.cable.drive with
  | some mode, _, _ => handCompletion (surfaceFound mode closed)
  | none, .seekingBottom .seek, some .reelDown => enterHold closed
  | none, .toPoint _, some .reelDown => enterAtPoint true closed
  | _, _, _ => closed

/-- BOTTOM_CONTACT opens (R115). -/
def bottomOpens (s : State) : State :=
  let opened := setSwitches (fun x => { x with bottom := false }) s
  match s.cable.motion, s.cable.hold with
  | .seekingBottom .hold, some _ => handCompletion (attemptFails opened)
  | _, _ => opened

def bottomChanges (closed : Bool) (s : State) : State :=
  if s.cable.switches.bottom = closed then s else if closed then bottomCloses s else bottomOpens s

/-- WINCH_OVERLOAD becomes active (R119, R120). -/
def overloadTrips (s : State) : State :=
  if s.cable.switches.overload then s
  else
    let tripped := setSwitches (fun x => { x with overload := true }) s
    match s.cable.motion with
    | .unreferenced | .faulted => tripped
    | _ => takeFault .overload tripped

/-! ## Expiries -/

def stallDue (s : State) : Bool := s.cable.drive.isSome && reached s.cable.stall s.now

/-- R110: the stall timer expires while an output is driven. -/
def stallExpires (s : State) : State := if stallDue s then takeFault .stall s else s

def holdTimerExpires (s : State) : State := if holdTimerDue s then handCompletion (sounded s) else s

def settleExpires (s : State) : State := if settleDue s then handCompletion (pointReady s) else s

/-! ## The requests of the cableway -/

/-- R107: the eight settings clamped. -/
def clampedCarriage (a : CarriageSetArgs) : CarriageSettings :=
  { traverseScale := some (clampNat 100 50000 a.traverseScale), reelScale := some (clampNat 100 50000 a.reelScale),
    span := some (clampNat 1000 300000 a.span), tolerance := clampNat 20 200 a.tolerance,
    stallTime := clampNat 2 30 a.stallTime, weightOffset := clampNat 50 500 a.weightOffset,
    maxDepth := some (clampNat 500 30000 a.maxDepth), settleTime := clampNat 5 60 a.settleTime }

/-- R107, R108: the controller with settings taken: a changed scale loses the position, and PARKED with it; a
reel scale that becomes present with REEL_TOP closed makes the payout present. -/
def carriageSetTo (held : CarriageSettings) (c : Cableway) : Cableway :=
  let same := held.traverseScale = c.settings.traverseScale ∧ held.reelScale = c.settings.reelScale
  { c with
    settings := held
    positionKnown := if same then c.positionKnown else false
    motion := if same then c.motion else if c.motion = .parked then .unreferenced else c.motion
    payoutKnown := c.payoutKnown || (c.settings.reelScale.isNone && c.switches.reelTop) }

/-- R107: the eight settings of a taken CARRIAGE_SET. -/
def carriageSetReply (s : State) : List Field :=
  let h := s.cable.settings
  [.num 2 (h.traverseScale.getD 0), .num 2 (h.reelScale.getD 0), .num 3 (h.span.getD 0), .num 1 h.tolerance,
   .num 1 h.stallTime, .num 2 h.weightOffset, .num 2 (h.maxDepth.getD 0), .num 1 h.settleTime,
   .code (motionCode s.cable.motion)]

/-- HOMING or RETRACTING. -/
def homingOrRetracting (m : Motion) : Bool :=
  match m with
  | .homing | .retracting => true
  | _ => false

/-- R107: CARRIAGE_SET, BUSY before STATE (log 16). -/
def takeCarriageSet (a : CarriageSetArgs) (s : State) : State × Answer :=
  if s.saveRuns then (s, .refuse .busy)
  else if runActive s || homingOrRetracting s.cable.motion then (s, .refuse .state)
  else
    let s' := s.setCable (carriageSetTo (clampedCarriage a) s.cable)
    (s', .reply (carriageSetReply s'))

/-- R107: a setting without a default is absent. -/
def unconfigured (c : Cableway) : Bool :=
  c.settings.traverseScale.isNone || c.settings.reelScale.isNone || c.settings.span.isNone
    || c.settings.maxDepth.isNone

/-- R111: homing begins. -/
def beginHoming (s : State) : State :=
  (pursue (s.setCable { s.cable with motion := .homing, positionKnown := false })).1

/-- R111: CARRIAGE_HOME. Outside a run the controller is in one of the states that take it, or HOMING or RETRACTING
(log 33). -/
def takeCarriageHome (s : State) : State × Answer :=
  if runActive s then (s, .refuse .state)
  else if unconfigured s.cable then (s, .refuse .state)
  else if s.cable.switches.overload then (s, .refuse .state)
  else
    match s.cable.motion with
    | .homing | .retracting => (s, .refuse .busy)
    | .unreferenced | .parked | .faulted =>
      (beginHoming s, .reply [.code (motionCode (beginHoming s).cable.motion)])
    | _ => (s, .refuse .state)

/-- R122: the target of the motion, in mm. -/
def motionTarget : Motion → Option Int
  | .travelling target => some target
  | .toPoint target => some target
  | _ => none

/-- R122: STALL (0), HOLD (1) or SETTLE (2) with its expiry. -/
def runningTimer (c : Cableway) : Option (Nat × Nat) :=
  match c.stall, c.hold, c.settle with
  | some e, _, _ => some (0, e)
  | none, some e, _ => some (1, e)
  | none, none, some e => some (2, e)
  | none, none, none => none

/-- R122: CARRIAGE_READ. ACTIVE or CLEAR is carried as a flag (log 52). The four settings without a default have presence
octets and the other four none, the sounding record as a whole has one before its failed attempts, and the CURRENT or
LAST mark is the fault record's first octet (log 63). No range is stated for the sounded D, so it takes the 4 octets of
R164. -/
def carriageReadReply (s : State) : List Field :=
  let c := s.cable
  let h := c.settings
  optNum 2 h.traverseScale ++ optNum 2 h.reelScale ++ optNum 3 h.span
  ++ [.num 1 h.tolerance, .num 1 h.stallTime, .num 2 h.weightOffset] ++ optNum 2 h.maxDepth
  ++ [.num 1 h.settleTime] ++ motionFields c.motion c.switches.reelTop ++ outputFields c.drive
  ++ [.flag c.switches.homeLimit, .flag c.switches.farLimit, .flag c.switches.reelTop, .flag c.switches.surface,
      .flag c.switches.bottom, .flag c.switches.overload]
  ++ optInt 4 (positionMm c) ++ optInt 4 (motionTarget c.motion) ++ optInt 4 c.arrival
  ++ optInt 4 (payoutMm c) ++ optInt 4 (c.surfacePoint.map millimetres) ++ optInt 4 (depthMm c)
  ++ optFields c.sounding (fun r => .num 1 r.failed :: optNum 4 r.depth)
  ++ optFields (runningTimer c) (fun p => [.code p.1, timeField p.2])
  ++ optFields c.fault (fun f =>
      [.code (if c.motion = .faulted then 0 else 1)] ++ faultFields f ++ [timeField f.runTime]
      ++ optTime f.stationTime)
  ++ [timeField s.now]

def takeCarriageRead (s : State) : State × Answer := (s, .reply (carriageReadReply s))

end Sys2Proof.Machine
end

