-- ==== Sys2Proof/Machine/Plan.lean ====
section
/-! DEFINITION. The requests of the gauging sequencer (R125 to R128, R137, R139, R143, R144) and the events of an exposure
(R132, R133) with the orders they lead to. -/

namespace Sys2Proof.Machine

/-! ## The plan and the rating (R125 to R127) -/

/-- R124: the method an octet names. -/
def methodOf : Nat → Option Method
  | 0 => some .edge
  | 1 => some .onePoint
  | 2 => some .twoPoint
  | 3 => some .threePoint
  | 4 => some .surface
  | _ => none

/-- R125: an entry as held after clamping. -/
def heldEntry (a : PlanPutArgs) (m : Method) : PlanEntry :=
  { distance := a.distance, method := m, depth := a.depth.map (clampNat 0 30000)
    coefficient := match m with
      | .surface => some (clampNat 500 1000 (a.coefficient.getD 850))
      | _ => none
    exposure := a.exposure.map (clampNat 20 180) }

/-- R125, ORDER: the distance lies between those of the entries before and after the index. -/
def inOrder (entries : List PlanEntry) (index distance : Nat) : Bool :=
  (entries.take (index - 1)).all (fun e => decide (e.distance < distance))
    && (entries.drop index).all (fun e => decide (distance < e.distance))

/-- R125: the entries with one appended or replaced. -/
def putEntry (entries : List PlanEntry) (index : Nat) (e : PlanEntry) : List PlanEntry :=
  entries.take (index - 1) ++ e :: entries.drop index

def entryFields (e : PlanEntry) : List Field :=
  [.num 3 e.distance, .code (methodCode e.method)] ++ optNum 2 e.depth ++ optNum 2 e.coefficient
  ++ optNum 1 e.exposure

def headerFields (p : Plan) : List Field := [.num 1 p.defaultExposure, .num 2 p.changeLimit]

def setPlan (p : Plan) (s : State) : State := s.setGauging { s.gauging with plan := p }

/-- R125: PLAN_PUT. -/
def takePlanPut (a : PlanPutArgs) (s : State) : State × Answer :=
  let entries := s.gauging.plan.entries
  match methodOf a.method with
  | none => (s, .refuse .range)
  | some m =>
    if a.index = 0 ∨ Config.planSize < a.index ∨ 300000 < a.distance then (s, .refuse .range)
    else if m = .surface ∧ a.depth = none then (s, .refuse .plan)
    else if entries.length + 1 < a.index then (s, .refuse .notFound)
    else if runActive s || s.saveRuns then (s, .refuse .busy)
    else if !inOrder entries a.index a.distance then (s, .refuse .order)
    else
      let put := putEntry entries a.index (heldEntry a m)
      (setPlan { s.gauging.plan with entries := put } s,
        .reply ([.num 1 a.index] ++ entryFields (heldEntry a m) ++ [.num 1 put.length]))

/-- R126: PLAN_CLEAR. -/
def takePlanClear (exposure changeLimit : Nat) (s : State) : State × Answer :=
  if runActive s || s.saveRuns then (s, .refuse .busy)
  else
    let p : Plan := { entries := [], defaultExposure := clampNat 20 180 exposure,
                      changeLimit := clampNat 0 1000 changeLimit }
    (setPlan p s, .reply (headerFields p))

/-- R126: PLAN_READ. The entry is one optional field, absent for index 0 (log 62). -/
def takePlanRead (index : Nat) (s : State) : State × Answer :=
  let p := s.gauging.plan
  if Config.planSize < index then (s, .refuse .range)
  else if p.entries.length < index then (s, .refuse .notFound)
  else
    let entry := if index = 0 then none else p.entries[index - 1]?
    (s, .reply ([.num 1 p.entries.length] ++ headerFields p ++ optFields entry entryFields))

def heldSegment (g : Segment) : Segment :=
  { lower := g.lower, intercept := clampInt (-100) 500 g.intercept, pitch := clampNat 50000 1000000 g.pitch }

/-- R127: the lower bounds start at 0 and rise strictly. -/
def boundsRise : List Segment → Bool
  | [] => true
  | g :: rest =>
    (match rest with
      | [] => true
      | h :: _ => decide (g.lower < h.lower)) && boundsRise rest

/-- R127: METER_SET. -/
def takeMeterSet (a : MeterSetArgs) (s : State) : State × Answer :=
  if (a.ratio ≠ 1 ∧ a.ratio ≠ 2 ∧ a.ratio ≠ 5) ∨ a.segments.length = 0 ∨ 3 < a.segments.length
      ∨ (a.segments.any fun g => decide (100000 < g.lower)) = true then (s, .refuse .range)
  else if (a.segments.head?.map (·.lower)).getD 0 ≠ 0 ∨ boundsRise a.segments = false then (s, .refuse .order)
  else if runActive s || s.saveRuns then (s, .refuse .busy)
  else
    let r : Rating := { ratio := a.ratio, startRate := clampNat 0 200 a.startRate,
                        segments := a.segments.map heldSegment }
    (s.setGauging { s.gauging with rating := some r },
      .reply ([.num 1 r.ratio, .num 1 r.startRate]
        ++ listFields r.segments fun g => [.num 3 g.lower, .num 2 g.intercept, .num 3 g.pitch]))

/-! ## The run (R128, R137, R139) -/

/-- R128, PLAN: fewer than 3 entries, an end that is not EDGE, or a distance beyond the span. -/
def planUnfit (s : State) : Bool :=
  let es := s.gauging.plan.entries
  decide (es.length < 3) || (es.head?.map (·.method)) != some .edge || (es.getLast?.map (·.method)) != some .edge
    || es.any fun e => decide (s.cable.settings.span.getD 0 < e.distance)

/-- R128: the emptied record of a run that starts. -/
def startedRun (s : State) : Run :=
  { noRun with state := .active, phase := some .travel, vertical := freshVertical 1,
               start := some (presentMoment s) }

/-- R128: RUN_START is accepted: the record is emptied and TRAVEL to entry 1 is ordered. -/
def beginRun (s : State) : State :=
  handOrder (s.setRun (startedRun s), some (.travel (planEntry s 1).distance))

/-- R139: entry to AUTONOMOUS aborts an active run. -/
def judgeAutonomy (s : State) : State := if runActive s then abortRun .linkSilent s else s

/-- R128, R139: a run that starts; the part then being AUTONOMOUS ends it as its entry would have (log 46). -/
def startRun (s : State) : State := if s.warning.autonomous then judgeAutonomy (beginRun s) else beginRun s

/-- R128: RUN_START. -/
def takeRunStart (s : State) : State × Answer :=
  if s.run.state = .active ∨ s.run.state = .returning ∨ s.cable.motion ≠ .parked then (s, .refuse .state)
  else if planUnfit s then (s, .refuse .plan)
  else if s.gauging.rating = none then (s, .refuse .meter)
  else if s.warning.settings.withdrawLevel ≤ s.warning.level then (s, .refuse .level)
  else
    (startRun s,
      .reply ([timeField s.now, .num 1 s.gauging.plan.entries.length] ++ optInt 3 s.stage.stage))

/-- R137: the vertical in hand may be skipped. -/
def skippable (s : State) : Bool :=
  runActive s && (entryInHand s).method != .edge && !s.run.vertical.skipMark && s.run.vertical.marked.isNone
    && s.run.phase != some .raise

/-- R137: what a taken RUN_SKIP does in each phase. -/
def skipVertical (s : State) : State :=
  match s.run.phase with
  | some .travel => setVertical { s.run.vertical with skipMark := true } s
  | _ => handOrder (markSkipped .byRequest (abandonExposure s))

/-- R137: RUN_SKIP. -/
def takeRunSkip (s : State) : State × Answer :=
  if skippable s then (skipVertical s, .reply [.num 1 s.run.vertical.index]) else (s, .refuse .state)

def outcomeField (o : ReturnOutcome) : Field := .code (returnCode o)

/-- R139: RUN_ABORT. -/
def takeRunAbort (s : State) : State × Answer :=
  if runActive s then
    let s' := abortRun .byRequest s
    (s', .reply [.num 1 s.run.vertical.index, outcomeField (s'.run.outcome.getD .inProgress)])
  else (s, .refuse .state)

/-- R139: the level handed over, or a new withdraw level, stands at or above the withdraw level. -/
def judgeWithdraw (s : State) : State :=
  if runActive s && decide (s.warning.settings.withdrawLevel ≤ s.warning.level) then abortRun .withdraw s else s

/-! ## Reading the run (R143, R144) -/

/-- R143: a start or an end; within it the station time and the stage have a presence octet each (log 62). -/
def momentFields (m : Moment) : List Field :=
  [timeField m.runTime] ++ optTime m.stationTime ++ optInt 3 m.stage ++ [.code (qualityCode m.quality)]

/-- R143: the exposure. What its state does not hold (R132) is absent, and n is then 0; E goes in ms (log 58). -/
def exposureFields (e : Exposure) : List Field :=
  [.code (exposureCode e.state), .num 3 e.length] ++ optTime e.start ++ [.num 4 e.contacts]
  ++ optTime e.lastCounted ++ optTime e.expiry

/-- R143: the point in hand, which exists in PLACE and EXPOSE. -/
def pointShown (r : Run) : Option PointInHand :=
  match r.phase with
  | some .place | some .expose => r.vertical.point
  | _ => none

/-- R143: RUN_READ. No range is stated for the meter depth, the run's mean velocity and its mean gauge height, so each
takes the 4 octets of R164. -/
def runReadReply (s : State) : List Field :=
  let r := s.run
  let inHand := if runActive s then some r.vertical.index else none
  [.code (runStateCode r.state)] ++ optField r.reason (fun x => .code (abortCode x))
  ++ optField r.outcome outcomeField ++ optField r.phase (fun p => .code (runPhaseCode p)) ++ optNum 1 inHand
  ++ [.flag r.vertical.skipMark]
  ++ optFields (pointShown r) (fun p => [.code (fractionTenths p.fraction), .num 4 p.meterDepth])
  ++ optFields r.exposure exposureFields
  ++ [.num 1 r.verticals.length, .num 1 (countedVerticals r).length,
      .num 1 (r.verticals.length - (countedVerticals r).length)]
  ++ optFields r.start momentFields ++ optFields r.finish momentFields
  ++ optNum 4 r.results.discharge ++ optNum 4 r.results.area ++ optNum 4 r.results.mean
  ++ optInt 4 r.results.gaugeHeight ++ [.bits 1 (runFlagMask r)]

def takeRunRead (s : State) : State × Answer := (s, .reply (runReadReply s))

/-- R134: a point record. No range is stated for the meter depth, so it takes the 4 octets of R164. -/
def pointRecordFields (p : PointRecord) : List Field :=
  [.code (fractionTenths p.fraction), .num 4 p.meterDepth, .num 4 p.contacts] ++ optNum 4 p.time
  ++ optNum 4 p.rate ++ [.num 2 p.velocity, .bits 1 (pointFlagMask p.flags)]

/-- R135, R144: every field of a vertical result. Chapter 7 states no range for D, so it takes the 4 octets of R164; each
absent field has a presence octet of its own (log 62). -/
def verticalFields (v : VerticalResult) : List Field :=
  [.num 1 v.index, .code (methodCode v.method), .num 3 v.distance, .num 4 v.arrival] ++ optNum 4 v.depth
  ++ optField v.depthSource (fun x => .code (depthSourceCode x)) ++ optNum 1 v.failed
  ++ listFields v.points pointRecordFields ++ optNum 2 v.mean ++ optField v.skip (fun r => .code (skipCode r))
  ++ [.bits 1 (verticalFlagMask v)]

/-- R144: RESULT_READ. -/
def takeResultRead (vertical : Nat) (s : State) : State × Answer :=
  if vertical = 0 ∨ Config.planSize < vertical then (s, .refuse .range)
  else
    match s.run.verticals.find? fun v => v.index == vertical with
    | some v => (s, .reply (verticalFields v))
    | none => (s, .refuse .notFound)

/-! ## Events of an exposure (R132, R133) -/

/-- R132: METER_CONTACT closes. A contact outside an exposure is ignored. -/
def meterCloses (s : State) : State :=
  match s.run.exposure with
  | some e => handOrder (contactTaken e s)
  | none => s

def lateLimitExpires (s : State) : State := handOrder (lateLimitEnds s)

def startWaitExpires (s : State) : State := handOrder (startWaitEnds s)

end Sys2Proof.Machine
end

