-- ==== Sys2Proof/Machine/Warning.lean ====
section
/-! DEFINITION. The warning unit (chapter 5): the rules, the station warning level and its nine-step change, siren, monitor and
autonomy, and its requests. A level change asks the station stage unit for an event record (R91); the station stage
unit hands rates back, so what asks for the record is the parameter `ask` here (log 34). -/

namespace Sys2Proof.Machine

/-! ## Judging one rule (R86 to R88) -/

def moveRule (now : Nat) (st : RuleState) (timer : RuleTimer) (r : Rule) : Rule :=
  { r with state := st, timer := timer, lastChange := some now }

/-- A timer started for so many seconds. -/
def ruleTimer (now seconds : Nat) : RuleTimer := .running (now + seconds * 1000)

/-- R86: the state a present value takes a rule to. -/
def ruleStep (now : Nat) (v : Int) (r : Rule) : Rule :=
  let d := r.definition
  match r.state with
  | .idle =>
    if d.setThreshold ≤ v then
      if d.confirmTime = 0 then moveRule now .active .none r
      else moveRule now .confirming (ruleTimer now d.confirmTime) r
    else r
  | .confirming => if v < d.setThreshold then moveRule now .idle .none r else r
  | .active =>
    if v ≤ d.clearThreshold then
      if d.clearDelay = 0 then moveRule now .idle .none r
      else moveRule now .clearing (ruleTimer now d.clearDelay) r
    else r
  | .clearing => if d.clearThreshold < v then moveRule now .active .none r else r

/-- R86: a rule judges a present value. -/
def judgeValue (now : Nat) (v : Int) (r : Rule) : Rule := 
  { ruleStep now v r with lastValue := some v, judged := true }

/-- R88: a running timer pauses with its remaining time kept. -/
def pauseTimer (now : Nat) : RuleTimer → RuleTimer
  | .running e => .paused (e - now)
  | t => t

/-- R88: a paused timer resumes with the time it kept. -/
def resumeTimer (now : Nat) : RuleTimer → RuleTimer
  | .paused m => .running (now + m)
  | t => t

/-- R85, R88: a rule is handed its input, present or absent. -/
def handRule (now : Nat) (input : Option Int) (r : Rule) : Rule :=
  match input with
  | none => { r with blind := true, timer := pauseTimer now r.timer }
  | some v => judgeValue now v { r with blind := false, timer := resumeTimer now r.timer }

/-- R89: the rule is in ACTIVE or CLEARING. -/
def ruleHolds (r : Rule) : Bool := r.state == .active || r.state == .clearing

/-! ## The station warning level (R89) -/

/-- R89: the greatest level of the rules in ACTIVE or CLEARING, 0 when there is none. -/
def rulesLevel (rules : Vector Rule 8) : Nat :=
  (places 8).foldl (fun m i => if ruleHolds rules[i] then max m rules[i].definition.level else m) 0

/-- R89: the level that the floor and the rules give. -/
def computedLevel (w : WarningUnit) : Nat := max w.floor (rulesLevel w.rules)

/-- R89: the cause of a change by rules: the lowest rule that changed state and now holds the new level (a rise) or
held the old one (a fall). -/
def changeCause (before : Vector Rule 8) (w : WarningUnit) (new : Nat) : LevelCause :=
  let changed := (places 8).filter fun i => before[i].state != w.rules[i].state
  let found :=
    if w.level < new then
      changed.find? fun i => ruleHolds w.rules[i] && w.rules[i].definition.level == new
    else changed.find? fun i => ruleHolds before[i] && before[i].definition.level == w.level
  match found with
  | some i => .rule i
  | none => .floor

/-! ## The siren (R94, R95) -/

def setSiren (x : Siren) (s : State) : State := s.setWarning { s.warning with siren := x }

def sirenRunEnd (s : State) : Nat := s.now + s.warning.settings.sirenRun * 1000

/-- R94, R100: a siren start. -/
def startSiren (s : State) : State :=
  requestWarn
    (s.setWarning
      { s.warning with
        siren := .sounding (sirenRunEnd s)
        spell := if s.warning.autonomous then
            s.warning.spell.map fun p => { p with sirenStarts := countUp 255 p.sirenStarts }
          else s.warning.spell })

/-- R94: a siren stop, into OFF or REPEAT_WAIT. -/
def stopSiren (into : Siren) (s : State) : State := requestWarn (setSiren into s)

/-- R94: the siren enters OFF from any state; leaving SOUNDING is a siren stop. -/
def silenceSiren (s : State) : State :=
  match s.warning.siren with
  | .sounding _ => stopSiren .off s
  | _ => setSiren .off s

/-- R94: the siren is judged against a level change. -/
def judgeSiren (old new : Nat) (s : State) : State :=
  if new < s.warning.settings.sirenLevel then silenceSiren s
  else if old < new then
    match s.warning.siren with
    | .sounding _ => setSiren (.sounding (sirenRunEnd s)) s
    | _ => startSiren s
  else s

/-! ## A level change (R91 to R93) -/

/-- The cause as R164 carries a field that holds a number or a name. -/
def levelCauseFields : LevelCause → List Field
  | .rule i => [.code 0, .num 1 (numberOf i)]
  | .floor => [.code 1]

def causeRule (w : WarningUnit) : LevelCause → Option Rule
  | .rule i => some w.rules[i]
  | .floor => none

/-- R92: the content of WARNING. -/
def warningContent (old new : Nat) (cause : LevelCause) (s : State) : List Field :=
  let w := s.warning
  [.num 1 old, .num 1 new] ++ levelCauseFields cause
  ++ optField ((causeRule w cause).map (·.definition.kind)) (fun k => .code (ruleKindCode k))
  ++ optInt 3 ((causeRule w cause).bind (·.lastValue)) ++ [.num 1 w.floor]
  ++ listFields ((places 8).filter fun i => ruleHolds w.rules[i]) (fun i =>
      [.num 1 (numberOf i), .num 1 w.rules[i].definition.level, .code (ruleStateCode w.rules[i].state)])
  ++ optInt 3 w.stageInput ++ optInt 3 w.rateInput ++ [.code (sirenCode w.siren), .flag w.autonomous]
  ++ [timeField s.now] ++ optTime s.time.stationTime

/-- R91, steps 1 and 2: the level, the last change and the beacons (R93). -/
def placeLevel (cause : LevelCause) (new : Nat) (s : State) : State :=
  s.setWarning
    { s.warning with
      level := new
      lastChange := some { oldLevel := s.warning.level, newLevel := new, cause := cause, runTime := s.now }
      beaconA := decide (1 ≤ new), beaconB := decide (2 ≤ new) }

/-- R91, step 4. -/
def raiseSpell (new : Nat) (s : State) : State :=
  if s.warning.autonomous then
    s.setWarning
      { s.warning with spell := s.warning.spell.map fun p => { p with highest := max p.highest new } }
  else s

/-- R91: a level change, in the order of its nine steps. -/
def changeLevel (ask : State → State) (cause : LevelCause) (new : Nat) (s : State) : State :=
  let old := s.warning.level
  let told := raiseSpell new (judgeSiren old new (placeLevel cause new s))
  let warned := raise .warning (warningContent old new cause told) told
  wake (.levelChange new) (judgeWithdraw (requestWarn (ask warned)))

/-- R89: the level is computed again; `before` are the rules before the event, `forced` a cause that the event
itself gives. -/
def recompute (ask : State → State) (before : Vector Rule 8) (forced : Option LevelCause) (s : State) : State :=
  let new := computedLevel s.warning
  if new = s.warning.level then s
  else changeLevel ask (forced.getD (changeCause before s.warning new)) new s

/-! ## STAGE_QUALITY (R70, R88) -/

/-- R70: QUALITY, BLIND. -/
inductive QualityCause where
  | quality | blind
  deriving DecidableEq, Repr

def qualityCauseCode : QualityCause → Nat
  | .quality => 0 | .blind => 1

/-- R65: the numbers of the channels in the VALID set. -/
def validSet (u : StageUnit) : List Nat :=
  ((places 4).filter fun i => u.items[i].state == .valid).map numberOf

/-- R70: the content of STAGE_QUALITY. Chapter 4 states no range for the spread, so it takes the 4 octets of R164. -/
def stageQualityContent (cause : QualityCause) (s : State) : List Field :=
  let u := s.stage
  [.code (qualityCauseCode cause), .code (qualityCode u.quality)]
  ++ optField u.previousQuality (fun q => .code (qualityCode q)) ++ optInt 3 u.stage ++ optNum 4 u.spread
  ++ [.flag u.disagree, .bits 1 (numberMask (validSet u)), .num 1 u.settings.required] ++ optInt 3 u.rate
  ++ listFields ((places 8).filter fun i => s.warning.rules[i].blind) (fun i => [.num 1 (numberOf i)])
  ++ [timeField s.now] ++ optTime s.time.stationTime

def raiseStageQuality (cause : QualityCause) (s : State) : State :=
  raise .stageQuality (stageQualityContent cause s) s

/-- R88: the BLIND flag of one or more rules differs. -/
def blindDiffers (a b : Vector Rule 8) : Bool := (places 8).any fun i => a[i].blind != b[i].blind

/-- R88: one STAGE_QUALITY with cause BLIND, when the event changed a BLIND flag. -/
def reportBlind (changed : Bool) (s : State) : State := if changed then raiseStageQuality .blind s else s

/-! ## Hand-overs (R85) -/

/-- R85: an enabled rule of this kind. -/
def watches (kind : RuleKind) (r : Rule) : Bool := r.definition.enable && r.definition.kind == kind

/-- R85: the rules of a kind after a hand-over. -/
def handRules (kind : RuleKind) (now : Nat) (input : Option Int) (rules : Vector Rule 8) : Vector Rule 8 :=
  mapTable (fun r => if watches kind r then handRule now input r else r) rules

/-- R85: the input of a kind is replaced. -/
def setInput (kind : RuleKind) (input : Option Int) (w : WarningUnit) : WarningUnit :=
  match kind with
  | .stage => { w with stageInput := input }
  | .rate => { w with rateInput := input }

/-- R85: an input is handed over: all its rules are judged, then the level is computed, then BLIND is reported. -/
def handInput (ask : State → State) (kind : RuleKind) (input : Option Int) (s : State) : State :=
  let before := s.warning.rules
  let after := handRules kind s.now input before
  reportBlind (blindDiffers before after)
    (recompute ask before none (s.setWarning { setInput kind input s.warning with rules := after }))

/-- R77: the current rate goes to the warning unit, then to the supervisor (log 67). -/
def handRate (ask : State → State) (rate : Option Int) (s : State) : State :=
  let judged := handInput ask .rate rate s
  match rate with
  | some v => wake (.rate v) judged
  | none => judged

/-- R69: the station stage goes to the warning unit, then to the supervisor (log 67). -/
def handStage (ask : State → State) (stage : Option Int) (s : State) : State :=
  let judged := handInput ask .stage stage s
  match stage with
  | some v => wake (.stage v) judged
  | none => judged

/-! ## Expiries of the rules' timers (R87) -/

/-- The timer of a rule has reached its expiry; a paused one has none. -/
def ruleTimerReached (r : Rule) (now : Nat) : Bool :=
  match r.timer with
  | .running e => decide (e ≤ now)
  | _ => false

def ruleDue (st : RuleState) (i : Fin 8) (s : State) : Bool :=
  s.warning.rules[i].state == st && ruleTimerReached s.warning.rules[i] s.now

/-- R87: a rule's timer expires in this state, and the level is computed. -/
def ruleExpires (ask : State → State) (st next : RuleState) (i : Fin 8) (s : State) : State :=
  if ruleDue st i s then
    recompute ask s.warning.rules none
      (s.setRules (s.warning.rules.set i (moveRule s.now next .none s.warning.rules[i])))
  else s

/-! ## The siren's expiries (R95) -/

def sirenDue (s : State) : Bool :=
  match s.warning.siren with
  | .sounding e => decide (e ≤ s.now)
  | _ => false

/-- R95, R100: an acknowledged or run-out siren is taken up again while AUTONOMOUS. -/
def repeatApplies (w : WarningUnit) : Bool :=
  w.settings.repeatInterval != 0 && decide (w.settings.sirenLevel ≤ w.level)

def repeatWait (s : State) : Siren := .repeatWait (s.now + s.warning.settings.repeatInterval * 1000)

/-- R95: the siren run timer expires. -/
def sirenExpires (s : State) : State :=
  if sirenDue s then
    stopSiren (if s.warning.autonomous && repeatApplies s.warning then repeatWait s else .off) s
  else s

def repeatDue (s : State) : Bool :=
  match s.warning.siren with
  | .repeatWait e => decide (e ≤ s.now)
  | _ => false

/-- R95: the repeat timer expires. -/
def repeatExpires (s : State) : State := if repeatDue s then startSiren s else s

/-! ## The monitor and autonomy (R98, R100 to R102) -/

/-- R98: an enabled monitor runs for a fresh interval. -/
def monitorRestarted (s : State) : State :=
  if s.warning.monitorSettings.enable then
    s.setWarning
      { s.warning with monitor := .running (s.now + monitorInterval s.warning.monitorSettings) }
  else s

/-- R98: quiet mode suspends a running monitor. -/
def monitorSuspended (s : State) : State :=
  match s.warning.monitor with
  | .running _ => s.setWarning { s.warning with monitor := .suspended }
  | _ => s

def monitorDue (s : State) : Bool :=
  match s.warning.monitor with
  | .running e => decide (e ≤ s.now)
  | _ => false

/-- R100, step 1: the flag and the new spell record. -/
def beginSpell (s : State) : State :=
  s.setWarning
    { s.warning with
      monitor := .stopped, autonomous := true
      spell := some
        { enteredRunTime := s.now, enteredStation := s.time.stationTime, leftRunTime := none,
          leftStation := none, highest := s.warning.level, atDeparture := none, sirenStarts := 0 } }

/-- R100, step 2. -/
def takeUpSiren (s : State) : State :=
  match s.warning.siren with
  | .off => if repeatApplies s.warning then setSiren (repeatWait s) s else s
  | _ => s

/-- R100: the part enters AUTONOMOUS. -/
def enterAutonomous (s : State) : State := judgeAutonomy (requestWarn (takeUpSiren (beginSpell s)))

def monitorExpires (s : State) : State := if monitorDue s then enterAutonomous s else s

/-- R101: the spell record as a spell ends. -/
def endedSpell (s : State) (p : Spell) : Spell :=
  { p with leftRunTime := some s.now, leftStation := s.time.stationTime, atDeparture := some s.warning.level }

/-- R102: the content of LINK, and the spell record of WARNING_READ, whose frame has ended any spell (R103). In a spell
entered while that frame waited the two fields of the departure are 0 (log 46). -/
def linkContent (p : Spell) : List Field :=
  [timeField p.enteredRunTime] ++ optTime p.enteredStation ++ [timeField (p.leftRunTime.getD 0)]
  ++ optTime p.leftStation ++ [.num 1 p.highest, .num 1 (p.atDeparture.getD 0), .num 1 p.sirenStarts]

/-- R101: the part leaves AUTONOMOUS, in the order of its six steps. -/
def leaveAutonomous (s : State) : State :=
  let left := s.setWarning
    { s.warning with
      autonomous := false, spell := s.warning.spell.map (endedSpell s)
      siren := match s.warning.siren with
        | .repeatWait _ => .off
        | x => x }
  let warned := requestWarn (monitorRestarted left)
  let emptied := warned.setNotices { warned.notices with inService := [] }
  match emptied.warning.spell with
  | some p => raise .link (linkContent p) emptied
  | none => emptied

/-- R98, R101: a valid host frame arrives at the warning unit. -/
def hostHeard (s : State) : State := if s.warning.autonomous then leaveAutonomous s else monitorRestarted s

/-! ## Requests -/

/-- R82: the range of a rule's thresholds. -/
def thresholdBound : RuleKind → Int
  | .stage => 999999
  | .rate => 99999

def ruleKindOf : Nat → Option RuleKind
  | 0 => some .stage
  | 1 => some .rate
  | _ => none

/-- R82: a definition as held after clamping. -/
def heldRule (a : RuleSetArgs) (enable : Bool) (kind : RuleKind) : RuleDef :=
  let b := thresholdBound kind
  let set := clampInt (-b) b a.setThreshold
  { enable := enable, kind := kind, level := a.level, setThreshold := set,
    clearThreshold := min set (clampInt (-b) b a.clearThreshold),
    confirmTime := clampNat 0 3600 a.confirmTime, clearDelay := clampNat 0 21600 a.clearDelay }

/-- The input of a kind as the warning unit holds it. -/
def inputOf (w : WarningUnit) : RuleKind → Option Int
  | .stage => w.stageInput
  | .rate => w.rateInput

/-- R83: a rule afresh, before it is judged. -/
def freshRule (now : Nat) (d : RuleDef) (r : Rule) : Rule :=
  { definition := d, state := .idle, blind := false, timer := .none, lastValue := none, judged := false,
    lastChange := if r.state = .idle then r.lastChange else some now }

/-- R83: a rule that takes a new definition. -/
def redefinedRule (now : Nat) (input : Option Int) (d : RuleDef) (r : Rule) : Rule :=
  if d.enable then handRule now input (freshRule now d r) else freshRule now d r

def ruleDefFields (d : RuleDef) : List Field :=
  [.flag d.enable, .code (ruleKindCode d.kind), .num 1 d.level, .num 3 d.setThreshold, .num 3 d.clearThreshold,
   .num 2 d.confirmTime, .num 2 d.clearDelay]

/-- R83: a taken RULE_SET. -/
def defineRule (ask : State → State) (i : Fin 8) (d : RuleDef) (s : State) : State :=
  let before := s.warning.rules
  let after := before.set i (redefinedRule s.now (inputOf s.warning d.kind) d before[i])
  reportBlind (blindDiffers before after) (recompute ask before (some (.rule i)) (s.setRules after))

/-- R83: RULE_SET. -/
def takeRuleSet (ask : State → State) (a : RuleSetArgs) (s : State) : State × Answer :=
  match place a.rule 8, onOff a.enable, ruleKindOf a.kind with
  | some i, some enable, some kind =>
    if a.level = 0 ∨ 3 < a.level then (s, .refuse .range)
    else if s.saveRuns then (s, .refuse .busy)
    else
      let s' := defineRule ask i (heldRule a enable kind) s
      let r := s'.warning.rules[i]
      (s', .reply (ruleDefFields r.definition ++ [.code (ruleStateCode r.state), .flag r.blind]))
  | _, _, _ => (s, .refuse .range)

/-- R84: ms a rule's timer still has to run. -/
def timerRemaining (now : Nat) : RuleTimer → Option Nat
  | .none => none
  | .running e => some (e - now)
  | .paused m => some m

def timerExpiry : RuleTimer → Option Nat
  | .running e => some e
  | _ => none

/-- R84: CONFIRM, CLEAR or NONE. -/
def timerCode (r : Rule) : Nat :=
  match r.timer, r.state with
  | .none, _ => 2
  | _, .clearing => 1
  | _, _ => 0

/-- R84: the last value judged, where one has been since the last reset or taken RULE_SET (log 56). -/
def shownValue (r : Rule) : Option Int := if r.judged then r.lastValue else none

/-- R84: RULE_READ. -/
def takeRuleRead (rule : Nat) (s : State) : State × Answer :=
  match place rule 8 with
  | none => (s, .refuse .range)
  | some i =>
    let r := s.warning.rules[i]
    (s, .reply
      (ruleDefFields r.definition ++ [.code (ruleStateCode r.state), .flag r.blind, .code (timerCode r)]
        ++ optNum 4 (timerRemaining s.now r.timer) ++ optTime (timerExpiry r.timer) ++ optInt 3 (shownValue r)
        ++ optTime r.lastChange))

/-- R90: WARNING_FLOOR. -/
def takeWarningFloor (ask : State → State) (floor : Nat) (s : State) : State × Answer :=
  if 3 < floor then (s, .refuse .range)
  else
    let s' := recompute ask s.warning.rules (some .floor) (s.setWarning { s.warning with floor := floor })
    (s', .reply [.num 1 s'.warning.floor, .num 1 s'.warning.level])

/-- R96: WARNING_ACK. A REPEAT_WAIT entered while its frame waited stays (log 46). -/
def takeWarningAck (s : State) : State × Answer :=
  let s' := match s.warning.siren with
    | .sounding _ => stopSiren .off s
    | _ => s
  (s', .reply [.code (sirenCode s.warning.siren), .code (sirenCode s'.warning.siren), .num 1 s.warning.level])

def warningSettingFields (x : WarningSettings) : List Field :=
  [.num 1 x.sirenLevel, .num 2 x.sirenRun, .num 2 x.repeatInterval, .num 1 x.withdrawLevel]

/-- R97: the settings as held after clamping. -/
def heldWarning (a : WarningSetArgs) : WarningSettings :=
  { sirenLevel := a.sirenLevel, sirenRun := clampNat 10 600 a.sirenRun,
    repeatInterval := clampNat 0 3600 a.repeatInterval, withdrawLevel := a.withdrawLevel }

/-- R97: the new settings act on the siren, then on an active run. A REPEAT_WAIT entered while the frame waited runs on
(log 46). -/
def applyWarning (x : WarningSettings) (s : State) : State :=
  let set := s.setWarning { s.warning with settings := x }
  judgeWithdraw
    (if sirenSounds set && decide (set.warning.level < x.sirenLevel) then stopSiren .off set else set)

/-- R97: WARNING_SET, RANGE before BUSY (log 16). -/
def takeWarningSet (a : WarningSetArgs) (s : State) : State × Answer :=
  if a.sirenLevel = 0 ∨ 3 < a.sirenLevel ∨ a.withdrawLevel = 0 ∨ 3 < a.withdrawLevel then (s, .refuse .range)
  else if s.saveRuns then (s, .refuse .busy)
  else (applyWarning (heldWarning a) s, .reply (warningSettingFields (heldWarning a)))

def monitorExpiry : Monitor → Option Nat
  | .running e => some e
  | _ => none

/-- R99: MONITOR_SET, RANGE before BUSY (log 16). -/
def takeMonitorSet (enable exponent : Nat) (s : State) : State × Answer :=
  match onOff enable with
  | none => (s, .refuse .range)
  | some on =>
    if s.saveRuns then (s, .refuse .busy)
    else
      let m : MonitorSettings := { enable := on, exponent := min exponent 7 }
      let x : Monitor := if on then .running (s.now + monitorInterval m) else .off
      (s.setWarning { s.warning with monitorSettings := m, monitor := x },
        .reply ([.flag m.enable, .num 1 m.exponent, .num 2 (15 * 2 ^ m.exponent)] ++ optTime (monitorExpiry x)))

def sirenExpiry : Siren → Option Nat
  | .off => none
  | .sounding e => some e
  | .repeatWait e => some e

/-- R103: WARNING_READ. LIT or DARK is carried as a flag (log 52). -/
def warningReadReply (s : State) : List Field :=
  let w := s.warning
  warningSettingFields w.settings ++ [.flag w.monitorSettings.enable, .num 1 w.monitorSettings.exponent]
  ++ [.num 1 w.floor, .num 1 w.level]
  ++ optFields w.lastChange (fun c =>
      [.num 1 c.oldLevel, .num 1 c.newLevel] ++ levelCauseFields c.cause ++ [timeField c.runTime])
  ++ [.flag w.beaconA, .flag w.beaconB, .code (sirenCode w.siren)] ++ optTime (sirenExpiry w.siren)
  ++ [.code (monitorCode w.monitor)] ++ optTime (monitorExpiry w.monitor)
  ++ optFields w.spell linkContent ++ optInt 3 w.stageInput ++ optInt 3 w.rateInput
  ++ ((places 8).map fun i =>
      let r := w.rules[i]
      [.flag r.definition.enable, .code (ruleKindCode r.definition.kind), .num 1 r.definition.level,
       .code (ruleStateCode r.state), .flag r.blind] ++ optNum 4 (timerRemaining s.now r.timer)).flatten
  ++ [timeField s.now] ++ optTime s.time.stationTime

def takeWarningRead (s : State) : State × Answer := (s, .reply (warningReadReply s))

end Sys2Proof.Machine
end

