-- ==== Sys2Proof/Machine/StageRecord.lean ====
section
/-! DEFINITION. The station stage unit (chapter 4): the vote, the ring of stage records and its appends, the rate of rise, and
the requests STAGE_SET, STAGE_READ and RECORD_READ. -/

namespace Sys2Proof.Machine

/-! ## The vote (R65 to R68) -/

/-- R65: the places of the channels in the VALID set. -/
def validPlaces (u : StageUnit) : List (Fin 4) := (places 4).filter fun i => u.items[i].state == .valid

/-- The filtered value of a channel of the VALID set. -/
def filteredOf (u : StageUnit) (i : Fin 4) : Int := u.items[i].filtered.getD 0

def validValues (u : StageUnit) : List Int := (validPlaces u).map (filteredOf u)

/-- R66: the channel of the VALID set with the lowest rank. -/
def lowestRank (ranks : Fin 4 → Nat) : List (Fin 4) → Option (Fin 4)
  | [] => none
  | i :: rest =>
    match lowestRank ranks rest with
    | none => some i
    | some j => if ranks j < ranks i then some j else some i

/-- One value into an ascending list. -/
def insertValue (x : Int) : List Int → List Int
  | [] => [x]
  | y :: ys => if x ≤ y then x :: y :: ys else y :: insertValue x ys

/-- Values in ascending order; equal values are kept. -/
def sortValues : List Int → List Int
  | [] => []
  | x :: xs => insertValue x (sortValues xs)

/-- R66: under MIDDLE the value at position ⌊c/2⌋ of the sorted values. -/
def middleValue (values : List Int) : Option Int := (sortValues values)[values.length / 2]?

/-- R67: the largest value minus the smallest; absent with none. -/
def spreadOf (values : List Int) : Option Nat :=
  match (sortValues values).head?, (sortValues values).getLast? with
  | some low, some high => some (high - low).toNat
  | _, _ => none

/-- R67: DISAGREE. -/
def disagrees (limit : Nat) (spread : Option Nat) : Bool :=
  match spread with
  | some x => limit != 0 && decide (limit < x)
  | none => false

/-- R68: the quality from the number of VALID channels, the required count and DISAGREE. -/
def voteQuality (count required : Nat) (disagree : Bool) : Quality :=
  if count = 0 then .none else if required ≤ count ∧ disagree = false then .good else .degraded

/-- R66: the chosen channel, under RANKED. -/
def chosenPlace (ranks : Fin 4 → Nat) (u : StageUnit) : Option (Fin 4) :=
  match u.settings.method with
  | .ranked => lowestRank ranks (validPlaces u)
  | .middle => none

/-- R66: the station stage. -/
def votedStage (ranks : Fin 4 → Nat) (u : StageUnit) : Option Int :=
  match u.settings.method with
  | .ranked => (lowestRank ranks (validPlaces u)).map (filteredOf u)
  | .middle => middleValue (validValues u)

/-- R65 to R68, R70: the three results of a vote; the previous quality is replaced when the quality changes. -/
def voted (ranks : Fin 4 → Nat) (u : StageUnit) : StageUnit :=
  let spread := spreadOf (validValues u)
  let disagree := disagrees u.settings.agreement spread
  let quality := voteQuality (validPlaces u).length u.settings.required disagree
  { u with
    stage := votedStage ranks u, spread := spread, disagree := disagree, quality := quality
    previousQuality := if quality = u.quality then u.previousQuality else some u.quality
    chosen := (chosenPlace ranks u).map numberOf }

/-- The ranks the channels hold. -/
def ranksOf (s : State) (i : Fin 4) : Nat := s.channels[i].settings.rank

/-! ## The rate of rise (R76) -/

/-- R76: record k: the oldest record held at or after the start of the window whose stage is present. -/
def windowRecord (ring : List StageRecord) (start : Int) : Option StageRecord :=
  ring.find? fun r => r.stage.isSome && decide (start ≤ (r.runTime : Int))

/-- R76: the rate of a record with stage `x` at `now`, over the records held before it. Record n itself as k leaves
a span of 0 and no rate. -/
def rateOf (ring : List StageRecord) (window now : Nat) (x : Int) : Option Int :=
  match windowRecord ring ((now : Int) - window * 1000) with
  | none => none
  | some k =>
    let span := now - k.runTime
    if span < window * 500 then none
    else some (clampInt (-99999) 99999 (divTrunc ((x - k.stage.getD 0) * 3600000) span))

/-! ## Appends (R71 to R75, R77) -/

/-- R71: the ring before an append: the oldest record is removed when 256 are held. -/
def ringRoom (ring : List StageRecord) : List StageRecord :=
  if Config.ringSize ≤ ring.length then ring.drop 1 else ring

/-- R75: the flags of a record appended now. -/
def recordFlags (kind : Append) (s : State) : RecordFlags :=
  { timingRC := s.time.recordMark, timeStepped := s.time.stepPending
    event := match kind with
      | .event => true
      | .interval => false
    runActive := runActive s, autonomous := s.warning.autonomous, warmRestart := s.stage.warmRestart }

/-- R74, R76: the record appended now. -/
def builtRecord (kind : Append) (s : State) : StageRecord :=
  let u := s.stage
  { sequence := u.nextSequence, runTime := s.now, stationTime := s.time.stationTime, stage := u.stage,
    quality := u.quality
    rate := u.stage.bind fun x => rateOf (ringRoom u.ring) u.settings.rateWindow s.now x
    level := s.warning.level, channels := validSet u, flags := recordFlags kind s }

/-- R72: the record interval in force. -/
def recordInterval (s : State) : Nat :=
  (if s.quietInForce then s.stage.settings.quietInterval else s.stage.settings.normalInterval) * 1000

/-- R77, steps 1 to 5: the record joins the ring, the record span is reopened (R13) and the flags it carried are
cleared; an interval record restarts the timer. -/
def joinRing (kind : Append) (s : State) : State :=
  let record := builtRecord kind s
  let joined := s.setStage
    { s.stage with
      ring := ringRoom s.stage.ring ++ [record]
      nextSequence := (s.stage.nextSequence + 1) % Config.sequences
      recordExpiry := match kind with
        | .interval => s.now + recordInterval s
        | .event => s.stage.recordExpiry
      rate := record.rate, warmRestart := false }
  joined.setTime { joined.time with stepPending := false, recordMark := joined.time.source == .rc }

/-- R71: an append waits for a later millisecond. -/
def queueAppend (kind : Append) (s : State) : State :=
  s.setStage { s.stage with waiting := s.stage.waiting ++ [kind] }

/-- R77: an append. A level change that its rate causes asks for an event record, which waits: the newest record
now has this millisecond's stamp. -/
def append (kind : Append) (s : State) : State :=
  let joined := joinRing kind s
  handRate (queueAppend .event) joined.stage.rate joined

/-- R71: run time is later than the stamp of the newest record held. -/
def ringOpen (s : State) : Bool :=
  match s.stage.ring.getLast? with
  | some r => decide (r.runTime < s.now)
  | none => true

/-- R71: an append is made at once, or waits. -/
def requestAppend (kind : Append) (s : State) : State :=
  if s.stage.waiting = [] ∧ ringOpen s = true then append kind s else queueAppend kind s

/-- R73: the warning unit asks for an event record. -/
def askEvent (s : State) : State := requestAppend .event s

/-- R71: the first waiting append may be made. -/
def waitingDue (s : State) : Bool := !s.stage.waiting.isEmpty && ringOpen s

/-- R71: the first waiting append is made. -/
def appendWaiting (s : State) : State :=
  match s.stage.waiting with
  | [] => s
  | kind :: rest => if ringOpen s then append kind (s.setStage { s.stage with waiting := rest }) else s

/-- R72: the record timer has reached its expiry and no append of it waits. -/
def recordDue (s : State) : Bool :=
  decide (s.stage.recordExpiry ≤ s.now) && !s.stage.waiting.contains .interval

/-- R72: the record timer expires. -/
def recordExpires (s : State) : State := if recordDue s then requestAppend .interval s else s

/-! ## What a vote hands on (R69) -/

/-- R69: what changed since the unit before the vote is handed on: the stage, then the quality. -/
def handVote (before : StageUnit) (s : State) : State :=
  let changed := s.stage.quality != before.quality
  let updated := if s.stage.stage = before.stage then s else handStage askEvent s.stage.stage s
  if changed then raiseStageQuality .quality updated else updated

/-- R65: the vote is run and hands on what changed. -/
def runVote (s : State) : State := handVote s.stage (s.setStage (voted (ranksOf s) s.stage))

/-- R65: a channel hands over its state and filtered value. -/
def takeItem (i : Fin 4) (item : ChannelItem) (s : State) : State :=
  runVote (s.setStage { s.stage with items := s.stage.items.set i item })

/-! ## Quiet mode (R72) -/

/-- R72, R79: an expiry later than now plus an interval is brought forward to that sum. -/
def bringForward (interval : Nat) (s : State) : State :=
  s.setStage { s.stage with recordExpiry := min s.stage.recordExpiry (s.now + interval) }

/-- R72: the end of quiet mode. -/
def recordQuietEnds (s : State) : State := bringForward (s.stage.settings.normalInterval * 1000) s

/-! ## Requests (R78 to R80) -/

def voteMethodOf : Nat → Option VoteMethod
  | 0 => some .ranked
  | 1 => some .middle
  | _ => none

/-- R72, R76, R79: the settings as held after clamping. -/
def heldStage (a : StageSetArgs) (m : VoteMethod) : StageSettings :=
  { method := m, agreement := clampNat 0 2000 a.agreement, required := clampNat 1 4 a.required,
    normalInterval := clampNat 10 900 a.normalInterval, quietInterval := clampNat 60 3600 a.quietInterval,
    rateWindow := clampNat 300 3600 (a.rateWindow / 60 * 60) }

def stageSettingFields (x : StageSettings) : List Field :=
  [.code (voteMethodCode x.method), .num 2 x.agreement, .num 1 x.required, .num 2 x.normalInterval,
   .num 2 x.quietInterval, .num 2 x.rateWindow]

/-- R79: a taken STAGE_SET: the vote under the new settings, then the record timer. -/
def applyStage (x : StageSettings) (s : State) : State :=
  let voted := runVote (s.setStage { s.stage with settings := x })
  bringForward (recordInterval voted) voted

/-- R79: STAGE_SET, RANGE before BUSY (log 16). -/
def takeStageSet (a : StageSetArgs) (s : State) : State × Answer :=
  match voteMethodOf a.method with
  | none => (s, .refuse .range)
  | some m =>
    if s.saveRuns then (s, .refuse .busy)
    else (applyStage (heldStage a m) s, .reply (stageSettingFields (heldStage a m)))

/-- R80: the run time at which the first waiting append will be made; absent with none waiting (log 55). -/
def firstWaiting (s : State) : Option Nat :=
  if s.stage.waiting.isEmpty then none
  else some (max s.now (((s.stage.ring.getLast?.map (·.runTime)).getD 0) + 1))

/-- R80: STAGE_READ. Chapter 4 states no range for the spread, so it takes the 4 octets of R164. The oldest and the newest
sequence of the ring have a presence octet each (log 62). -/
def stageReadReply (s : State) : List Field :=
  let u := s.stage
  stageSettingFields u.settings ++ optInt 3 u.stage ++ [.code (qualityCode u.quality), .flag u.disagree]
  ++ optNum 4 u.spread ++ optNum 1 u.chosen
  ++ ((places 4).map fun i =>
      [.code (channelStateCode u.items[i].state)]
      ++ optInt 3 (if u.items[i].state = .valid then u.items[i].filtered else none)
      ++ [.num 1 (ranksOf s i)]).flatten
  ++ optInt 3 u.rate ++ optNum 4 (u.ring.getLast?.map (·.sequence)) ++ [.num 2 u.ring.length]
  ++ optNum 4 (u.ring.head?.map (·.sequence)) ++ optNum 4 (u.ring.getLast?.map (·.sequence))
  ++ [.num 4 u.nextSequence, timeField u.recordExpiry, .num 4 u.waiting.length] ++ optTime (firstWaiting s)
  ++ [.flag u.warmRestart, timeField s.now] ++ optTime s.time.stationTime

def takeStageRead (s : State) : State × Answer := (s, .reply (stageReadReply s))

/-- R74: a record as RECORD_READ carries it. -/
def recordFields (r : StageRecord) : List Field :=
  [.num 4 r.sequence, timeField r.runTime] ++ optTime r.stationTime ++ optInt 3 r.stage
  ++ [.code (qualityCode r.quality)] ++ optInt 3 r.rate
  ++ [.num 1 r.level, .bits 1 (numberMask r.channels), .bits 1 (recordFlagMask r.flags)]

/-- R78: d, the distance from "from" to the next sequence number, counted round. -/
def sequenceDistance (next start : Nat) : Nat := (next + Config.sequences - start % Config.sequences) % Config.sequences

/-- R78: the records asked for, before the cut of R164, and the GAP flag. -/
def recordsFrom (u : StageUnit) (start count : Nat) : List StageRecord × Bool :=
  let d := sequenceDistance u.nextSequence start
  let h := u.ring.length
  if d = 0 ∨ 2147483648 ≤ d then ([], false)
  else if d ≤ h then ((u.ring.drop (h - d)).take count, false)
  else (u.ring.take count, true)

/-- R78, R164: the fields before the records. -/
def recordHead (u : StageUnit) (gap : Bool) (count : Nat) : List Field :=
  [.flag gap, .num 1 count] ++ optNum 4 (u.ring.head?.map (·.sequence)) ++ [.num 4 u.nextSequence]

/-- R78: RECORD_READ, cut at the last whole record that fits (R164). -/
def takeRecordRead (start count : Nat) (s : State) : State × Answer :=
  if count = 0 ∨ 8 < count then (s, .refuse .range)
  else
    let (records, gap) := recordsFrom s.stage start count
    let items := itemsThatFit (payloadOctets (recordHead s.stage gap 0)).length (records.map recordFields)
    (s, .reply (recordHead s.stage gap items.length ++ items.flatten))

end Sys2Proof.Machine
end

