-- ==== Sys2Proof/Machine/Channels.lean ====
section
/-! DEFINITION. The stage channels (chapter 3): correction, acceptance, the re-anchor chain, the states, what a channel hands on,
and CHANNEL_SET and CHANNEL_READ. The operations on one channel are functions of the channel alone. -/

namespace Sys2Proof.Machine

/-! ## One channel (R45, R48 to R58) -/

/-- R45: the fill threshold. -/
def fillThreshold (x : ChannelSettings) : Nat := (x.window + 1) / 2

/-- R55: the filtered value, the median of the window of a VALID channel. -/
def filteredValue (c : Channel) : Option Int :=
  match c.state with
  | .valid => middleValue c.window
  | _ => none

/-- R48: the corrected value of a head value in tenths of a mm. -/
def correctedValue (x : ChannelSettings) (h : Int) : Int :=
  let m := divNearest (h * x.gain) 10000000
  match x.sense with
  | .direct => x.offset + m
  | .inverted => x.offset - m

/-- R48: a head value that is corrected. -/
def headInRange (h : Int) : Bool := decide (-2000000 ≤ h ∧ h ≤ 2000000)

def staleEnd (now : Nat) (c : Channel) : Option Nat := some (now + c.settings.staleTime * 1000)

def change (cause : ChannelCause) (now : Nat) : Option ChannelChange := some { cause := cause, runTime := now }

/-- The window, the chain and the rejection count emptied, the stale timer stopped: an entry to FAULTED. -/
def enterFault (cause : ChannelCause) (now : Nat) (c : Channel) : Channel :=
  { c with
    state := .faulted, window := [], chainLength := 0, candidate := none, rejections := 0,
    staleExpiry := none, lastChange := change cause now }

/-- R49: the last reading becomes this one. -/
def noteReading (now : Nat) (h : Int) (fault : Bool) (corrected : Option Int) (v : Verdict) (c : Channel) : Channel :=
  { c with
    lastReading := some { value := h, fault := fault, corrected := corrected, runTime := now, verdict := v } }

/-- R53: a rejection is counted; the eighth in a row faults a channel that is not FAULTED. -/
def countRejection (now : Nat) (c : Channel) : Channel :=
  let n := countUp 8 c.rejections
  if n = 8 ∧ c.state ≠ .faulted then enterFault .rejections now c else { c with rejections := n }

/-- R50: a range rejection. -/
def rejectRange (now : Nat) (c : Channel) : Channel :=
  countRejection now
    { c with
      chainLength := 0, candidate := none
      counters := { c.counters with range := countUp Config.counterTop c.counters.range } }

/-- R52: a rejection with verdict STEP that leaves the chain at this length with candidate `v`. -/
def rejectStep (now : Nat) (length : Nat) (v : Int) (c : Channel) : Channel :=
  countRejection now
    { c with
      chainLength := length, candidate := some v
      counters := { c.counters with step := countUp Config.counterTop c.counters.step } }

/-- R52: a re-anchor on `v`. -/
def reAnchor (now : Nat) (v : Int) (c : Channel) : Channel :=
  { c with
    window := [v], chainLength := 0, candidate := none, rejections := 0, staleExpiry := staleEnd now c
    state := if 1 < fillThreshold c.settings then .filling else .valid
    lastChange := change .reAnchor now
    counters := { c.counters with
      accepted := countUp Config.counterTop c.counters.accepted
      reAnchors := countUp Config.counterTop c.counters.reAnchors } }

/-- R54: a window that a value joins; the oldest leaves one that holds more than N. -/
def joinWindow (size : Nat) (window : List Int) (v : Int) : List Int :=
  (window ++ [v]).drop (window.length + 1 - size)

/-- R54: the last change after an acceptance. -/
def acceptedChange (before after : ChannelState) (now : Nat) (held : Option ChannelChange) : Option ChannelChange :=
  match before, after with
  | .stale, _ => change .accepted now
  | .faulted, _ => change .accepted now
  | .filling, .valid => change .filled now
  | _, _ => held

/-- R54: an acceptance of `v`. -/
def accept (now : Nat) (v : Int) (c : Channel) : Channel :=
  let window := joinWindow c.settings.window c.window v
  let st : ChannelState := if fillThreshold c.settings ≤ window.length then .valid else .filling
  { c with
    window := window, chainLength := 0, candidate := none, rejections := 0, staleExpiry := staleEnd now c
    state := st, lastChange := acceptedChange c.state st now c.lastChange
    counters := { c.counters with accepted := countUp Config.counterTop c.counters.accepted } }

/-- R51: the step check rejects a corrected value. -/
def stepFails (c : Channel) (v : Int) : Bool :=
  match c.window.getLast? with
  | some last => c.settings.stepLimit != 0 && decide (c.settings.stepLimit < (v - last).natAbs)
  | none => false

/-- R52: the value agrees with the candidate of the chain. -/
def agrees (c : Channel) (v : Int) : Bool :=
  match c.candidate with
  | some w => decide ((v - w).natAbs ≤ c.settings.stepLimit)
  | none => false

/-- R52: what the chain makes of a step-rejected value: its verdict and the channel. -/
def chain (now : Nat) (v : Int) (c : Channel) : Verdict × Channel :=
  if c.chainLength = 0 ∨ agrees c v = false then (.step, rejectStep now 1 v c)
  else if c.chainLength = 1 then (.step, rejectStep now 2 v c)
  else (.reAnchor, reAnchor now v c)

/-- R50, R51: the judgement of a corrected value. -/
def judgeCorrected (now : Nat) (v : Int) (c : Channel) : Verdict × Channel :=
  if v < c.settings.minimum ∨ c.settings.maximum < v then (.outOfRange, rejectRange now c)
  else if stepFails c v then chain now v c
  else (.accepted, accept now v c)

/-- R56: a head fault. -/
def headFault (now : Nat) (c : Channel) : Channel :=
  let counted :=
    { c with counters := { c.counters with headFaults := countUp Config.counterTop c.counters.headFaults } }
  match c.state with
  | .faulted => counted
  | _ => enterFault .headFault now counted

/-- R49: a READING reaches the channel. -/
def takeReading (now : Nat) (h : Int) (fault : Bool) (c : Channel) : Channel :=
  match c.state with
  | .off => c
  | _ =>
    if fault then noteReading now h true none .headFault (headFault now c)
    else if headInRange h then
      let v := correctedValue c.settings h
      let judged := judgeCorrected now v c
      noteReading now h false (some v) judged.1 judged.2
    else noteReading now h false none .outOfRange (rejectRange now c)

/-- R57: the channel's head is lost. -/
def loseHead (now : Nat) (c : Channel) : Channel :=
  match c.state with
  | .off => c
  | .faulted => c
  | _ => enterFault .headLost now c

/-- R58: the stale timer runs in FILLING and VALID and has reached its expiry. -/
def staleDue (now : Nat) (c : Channel) : Bool :=
  (c.state == .filling || c.state == .valid) && reached c.staleExpiry now

/-- R58: the stale timer expires. -/
def goStale (now : Nat) (c : Channel) : Channel :=
  if staleDue now c then
    { c with
      state := .stale, window := [], chainLength := 0, candidate := none, staleExpiry := none,
      lastChange := change .staleTime now }
  else c

/-- R47, R64: a channel that starts afresh under settings. -/
def freshChannel (now : Nat) (x : ChannelSettings) (last : Option ChannelChange) : Channel :=
  { settings := x, state := if x.enable then .filling else .off, window := [], rejections := 0,
    chainLength := 0, candidate := none,
    staleExpiry := if x.enable then some (now + x.staleTime * 1000) else none,
    lastReading := none, lastChange := last,
    counters := { accepted := 0, range := 0, step := 0, reAnchors := 0, headFaults := 0 } }

/-- R47: the last change cause of a taken CHANNEL_SET. -/
def settingsCause (before after : Bool) : ChannelCause :=
  match before, after with
  | false, true => .enabled
  | true, false => .disabled
  | _, _ => .settings

/-! ## What a channel hands on (R60, R61) -/

/-- R61: one item of CHANNEL_STATE; the cause and the run time of the last change have a presence octet each (log 62). -/
def channelItem (s : State) (i : Fin 4) : List Field :=
  let c := s.channels[i]
  [.num 1 (numberOf i), .flag c.settings.enable, .code (channelStateCode c.state)] ++ optInt 3 (filteredValue c)
  ++ [.num 1 c.window.length, .num 1 c.settings.window, .num 1 c.rejections]
  ++ optField c.lastChange (fun x => .code (channelCauseCode x.cause)) ++ optTime (c.lastChange.map (·.runTime))

/-- R61: the snapshot of all four channels. -/
def channelStateContent (i : Fin 4) (s : State) : List Field :=
  [.num 1 (numberOf i), timeField s.now] ++ optTime s.time.stationTime
  ++ ((places 4).map (channelItem s)).flatten

/-- R60: the channel's state and filtered value go to the station stage unit. -/
def handChannel (i : Fin 4) (s : State) : State :=
  takeItem i { state := s.channels[i].state, filtered := filteredValue s.channels[i] } s

def raiseChannelState (i : Fin 4) (s : State) : State := raise .channelState (channelStateContent i s) s

/-- R60: an event at a channel: what changed is handed on, then CHANNEL_STATE is raised if the state changed. -/
def channelEvent (i : Fin 4) (f : Channel → Channel) (s : State) : State :=
  let before := s.channels[i]
  let after := f before
  let placed := s.setChannel i after
  let handed :=
    if after.state = before.state ∧ filteredValue after = filteredValue before then placed
    else handChannel i placed
  if after.state = before.state then handed else raiseChannelState i handed

/-! ## Requests (R46, R47, R63) -/

def senseOf : Nat → Option Sense
  | 0 => some .direct
  | 1 => some .inverted
  | _ => none

/-- R45: the window setting adjusted: 0 becomes 1, an even value the next odd one, above 15 becomes 15. -/
def heldWindow (n : Nat) : Nat := min 15 (if n % 2 = 0 then n + 1 else n)

/-- R45, R46: the settings clamped and adjusted. -/
def heldChannel (a : ChannelSetArgs) (enable : Bool) (sense : Sense) : ChannelSettings :=
  { enable := enable, gain := clampNat 950000 1050000 a.gain, offset := clampInt (-99999) 99999 a.offset,
    sense := sense, minimum := clampInt (-999999) 999999 a.minimum,
    maximum := clampInt (-999999) 999999 a.maximum, stepLimit := clampNat 0 5000 a.stepLimit,
    window := heldWindow a.window, staleTime := clampNat 10 3600 a.staleTime, rank := a.rank }

/-- R46: another channel is enabled with this rank. -/
def rankTaken (s : State) (i : Fin 4) (rank : Nat) : Bool :=
  (places 4).any fun j => j != i && s.channels[j].settings.enable && s.channels[j].settings.rank == rank

/-- R47: a taken CHANNEL_SET. -/
def applyChannel (i : Fin 4) (x : ChannelSettings) (s : State) : State :=
  let cause := settingsCause s.channels[i].settings.enable x.enable
  raiseChannelState i (handChannel i (s.setChannel i (freshChannel s.now x (change cause s.now))))

def channelSettingFields (x : ChannelSettings) : List Field :=
  [.flag x.enable, .num 3 x.gain, .num 3 x.offset, .code (senseCode x.sense), .num 3 x.minimum, .num 3 x.maximum,
   .num 2 x.stepLimit, .num 1 x.window, .num 2 x.staleTime, .num 1 x.rank]

/-- R46: CHANNEL_SET. -/
def takeChannelSet (a : ChannelSetArgs) (s : State) : State × Answer :=
  match place a.channel 4, onOff a.enable, senseOf a.sense with
  | some i, some enable, some sense =>
    let x := heldChannel a enable sense
    if a.rank = 0 ∨ 4 < a.rank ∨ x.maximum ≤ x.minimum then (s, .refuse .range)
    else if s.saveRuns then (s, .refuse .busy)
    else if enable && rankTaken s i a.rank then (s, .refuse .duplicate)
    else (applyChannel i x s, .reply (.num 1 (numberOf i) :: channelSettingFields x))
  | _, _, _ => (s, .refuse .range)

/-- R63: the enabled STAGE entry that names a channel. -/
def feedingEntry (s : State) (i : Fin 4) : Option Nat :=
  ((places 8).find? fun e =>
    let x := s.field.heads[e].config
    x.enable && x.kind == .stage && x.channel == some (numberOf i)).map numberOf

/-- R63: the last reading. The head value takes 4 octets, since R49 keeps one outside its range too (log 66). -/
def lastReadingFields (r : LastReading) : List Field :=
  [.num 4 r.value, .code (if r.fault then 1 else 0)] ++ optInt 3 r.corrected
  ++ [timeField r.runTime, .code (verdictCode r.verdict)]

/-- R63: CHANNEL_READ; the cause and the run time of the last change have a presence octet each (log 62). -/
def channelReadReply (s : State) (i : Fin 4) : List Field :=
  let c := s.channels[i]
  channelSettingFields c.settings ++ optNum 1 (feedingEntry s i)
  ++ [.code (channelStateCode c.state), .num 1 (fillThreshold c.settings)]
  ++ listFields c.window (fun v => [.num 3 v]) ++ optInt 3 (filteredValue c)
  ++ [.num 1 c.rejections, .num 1 c.chainLength] ++ optInt 3 c.candidate ++ optTime c.staleExpiry
  ++ optFields c.lastReading lastReadingFields
  ++ [.num 2 c.counters.accepted, .num 2 c.counters.range, .num 2 c.counters.step, .num 2 c.counters.reAnchors,
      .num 2 c.counters.headFaults]
  ++ optField c.lastChange (fun x => .code (channelCauseCode x.cause)) ++ optTime (c.lastChange.map (·.runTime))

def takeChannelRead (channel : Nat) (s : State) : State × Answer :=
  match place channel 4 with
  | none => (s, .refuse .range)
  | some i => (s, .reply (channelReadReply s i))

end Sys2Proof.Machine
end

