-- ==== Sys2Proof/Machine/FieldLine.lean ====
section
/-! DEFINITION. The field line controller (chapter 2): receiving, the filter and the capture queue, delivery, the transmitter's
events and outcomes, poll scheduling in quiet mode, and its requests. -/

namespace Sys2Proof.Machine

/-! ## The receive filter (R19 to R21) -/

/-- R20: the group test of a group address. -/
def groupPasses (x : FieldSettings) (g : Nat) : Bool :=
  x.passAllGroups || (x.groupSet.testBit (g % 16) != x.inverseGroups)

/-- R19: the destination check. -/
def destinationPasses (x : FieldSettings) (d : Nat) : Bool :=
  d == x.ownAddress || (d == 255 && x.acceptBroadcast)
    || (decide (128 ≤ d ∧ d ≤ 254) && groupPasses x d)

/-- R167: a PARAM_REPLY has 6 octets with a value and 2 with a refusal. -/
def paramReplyFits : List Byte → Bool
  | _ :: result :: rest => if fieldFlag result then rest.isEmpty else rest.length == 4
  | _ => false

/-- R21, R167: a frame of a kind that is taken, of that kind's length. -/
def kindTaken (f : FieldFrame) : Bool :=
  if f.kind = kindReading then f.payload.length == 5
  else if f.kind = kindPostStatus then f.payload.length == 3
  else if f.kind = kindParamReply then paramReplyFits f.payload
  else false

/-- R21: the kind of entry a frame fits. -/
def fits (f : FieldFrame) (k : HeadKind) : Bool :=
  if f.kind = kindReading then k == .stage else if f.kind = kindPostStatus then k == .post else true

/-- R21: the enabled entry of fitting kind whose address is the frame's source. -/
def sourceEntry (s : State) (f : FieldFrame) : Option (Fin 8) :=
  (places 8).find? fun i =>
    s.field.heads[i].config.enable && s.field.heads[i].config.address == f.source
      && fits f s.field.heads[i].config.kind

/-- R19 to R21: the filter's result, with the entry of a frame that passes. -/
def filterFrame (s : State) (f : FieldFrame) : FilterResult × Option (Fin 8) :=
  if !destinationPasses s.field.settings f.destination then (.failedDestination, none)
  else if !kindTaken f then (.notTaken, none)
  else
    match sourceEntry s f with
    | some i => (.passed, some i)
    | none => (.failedSource, none)

/-! ## The capture queue (R22, R23) -/

/-- R22: the content of FIELD_CAPTURE. -/
def fieldCaptureContent (s : State) : List Field :=
  [.num 1 s.field.captured.length, .flag s.field.overflow,
   timeField ((s.field.captured.getLast?.map (·.runTime)).getD 0)]

def raiseCapture (s : State) : State := raise .fieldCapture (fieldCaptureContent s) s

/-- R22: a good frame is offered to the capture queue. -/
def offerCapture (f : FieldFrame) (r : FilterResult) (s : State) : State :=
  if s.field.settings.capture then
    if s.field.captured.length < Config.captureSize then
      raiseCapture
        (s.setField
          { s.field with captured := s.field.captured ++ [{ runTime := s.now, frame := f, result := r }] })
    else if s.field.overflow then s
    else raiseCapture (s.setField { s.field with overflow := true })
  else s

/-- R23: one captured record. -/
def capturedFields (c : Captured) : List Field :=
  [timeField c.runTime, .num 1 c.frame.destination, .num 1 c.frame.source, .num 1 c.frame.kind,
   .num 1 c.frame.payload.length, .raw c.frame.payload, .code (filterCode c.result)]

/-- R23: CAPTURE_READ. The record is one optional field: a presence octet before the first of its fields stands for all of
them, and an empty queue has that octet alone in the record's place (log 62). -/
def takeCaptureRead (s : State) : State × Answer :=
  match s.field.captured with
  | [] => (s, .reply [.absent, .num 1 0, .flag s.field.overflow])
  | c :: rest =>
    (s.setField
        { s.field with captured := rest, overflow := if rest.isEmpty then false else s.field.overflow },
      .reply (.present :: capturedFields c ++ [.num 1 rest.length, .flag s.field.overflow]))

/-! ## Entries (R27, R32 to R35, R41) -/

def setEntry (i : Fin 8) (f : HeadEntry → HeadEntry) (s : State) : State := s.setHead i (f s.field.heads[i])

/-- R27: the next-due time set at the end of a poll. -/
def nextDueAfterPoll (s : State) (c : HeadConfig) : Option Nat :=
  if s.quietInForce then if c.quiet = 0 then none else some (s.now + c.quiet * 1000)
  else some (s.now + c.normal * 1000)

def scheduleEntry (i : Fin 8) (s : State) : State :=
  setEntry i (fun e => { e with nextDue := nextDueAfterPoll s e.config }) s

/-- R32, R35: a delivered frame is a sign of life of its entry. -/
def signOfLife (i : Fin 8) (s : State) : State :=
  setEntry i (fun e => { e with noReply := 0, state := .answering, lastAnswer := some s.now }) s

/-- The event at the channel that an entry feeds. -/
def feedChannel (i : Fin 8) (f : Channel → Channel) (s : State) : State :=
  match s.field.heads[i].config.channel.bind fun n => place n 4 with
  | some c => channelEvent c f s
  | none => s

/-- R167: the octet at a place of a payload. -/
def octetAt (bs : List Byte) (n : Nat) : Byte := (bs[n]?).getD 0

/-- R167: the head value of a READING. -/
def readingValue (f : FieldFrame) : Int := octetsInt (f.payload.take 4)

/-- R41, R167: the status a POST_STATUS carries. A displayed level above 3 is held as it came (log 53). -/
def postStatusOf (f : FieldFrame) : PostStatus :=
  { displayed := (octetAt f.payload 0).toNat, siren := fieldFlag (octetAt f.payload 1),
    fault := fieldFlag (octetAt f.payload 2) }

/-- R41: a new post fault is handed to the supervisor. -/
def handPostFault (before : State) (i : Fin 8) (s : State) : State :=
  if postFault s i && !postFault before i then wake (.postFault (numberOf i)) s else s

/-- R32, R35, R41: the content of a delivered frame is handed on. `before` is the state before the delivery, against
which POST_STATE is judged once. -/
def handContent (before : State) (i : Fin 8) (f : FieldFrame) (s : State) : State :=
  if f.kind = kindReading then
    feedChannel i (takeReading s.now (readingValue f) (fieldFlag (octetAt f.payload 4))) s
  else if f.kind = kindPostStatus then
    let placed := setEntry i (fun e => { e with post := some (postStatusOf f) }) s
    handPostFault before i (judgePosts before placed)
  else judgePosts before s

/-! ## The ends of transactions (R32 to R34, R37, R43) -/

/-- R38: the outcomes of HEAD_PARAM_DONE. -/
inductive ParamOutcome where
  | ok (value : Int)
  | headRefused
  | noReply
  | deferredOut
  | excessCollision
  deriving DecidableEq, Repr

def paramOutcomeCode : ParamOutcome → Nat
  | .ok _ => 0 | .headRefused => 1 | .noReply => 2 | .deferredOut => 3 | .excessCollision => 4

def paramValue : ParamOutcome → Option Int
  | .ok v => some v
  | _ => none

/-- R38: the content of HEAD_PARAM_DONE. -/
def headParamDoneContent (s : State) (m : Management) (address : Nat) (o : ParamOutcome) : List Field :=
  [.num 1 (numberOf m.entry), .num 1 address, .code (paramOpCode m.op), .num 1 m.parameter,
   .code (paramOutcomeCode o)] ++ optInt 4 (paramValue o) ++ [timeField s.now] ++ optTime s.time.stationTime

/-- R37: the management transaction ends: the state returns to NONE and HEAD_PARAM_DONE is raised. -/
def endManagement (address : Nat) (o : ParamOutcome) (s : State) : State :=
  match s.field.management with
  | some m =>
    raise .headParamDone (headParamDoneContent s m address o) (s.setField { s.field with management := none })
  | none => s

/-- R33: the third NO_REPLY in a row: the entry falls SILENT and its channel or post is told. -/
def fallSilent (before : State) (i : Fin 8) (s : State) : State :=
  match s.field.heads[i].config.kind with
  | .stage => feedChannel i (loseHead s.now) s
  | .post => judgePosts before (setEntry i (fun e => { e with post := none }) s)

/-- R33: the working state after a NO_REPLY. -/
def unanswered (e : HeadEntry) : HeadEntry :=
  { e with
    lastOutcome := some .noReply, noReply := countUp 3 e.noReply
    state := if 2 ≤ e.noReply then .silent else e.state }

/-- R33: a poll ends NO_REPLY. -/
def pollUnanswered (i : Fin 8) (s : State) : State :=
  let counted := scheduleEntry i (setEntry i unanswered s)
  if s.field.heads[i].noReply = 2 then fallSilent s i counted else counted

/-- R31: the reply window has run out. -/
def windowDue (s : State) : Bool := s.field.tx == .replyWindow && reached s.field.window s.now

/-- R31, R33, R37: the window ends unanswered. -/
def windowExpires (s : State) : State :=
  if windowDue s then
    transmitterFree
      (match s.field.transaction with
        | some t =>
          match t.kind with
          | .poll i => pollUnanswered i s
          | .management => endManagement t.frame.destination .noReply s
          | .warn _ => s
        | none => s)
  else s

/-- The two failures of a transaction. -/
inductive LineFailure where
  | deferredOut | excessCollision
  deriving DecidableEq, Repr

def failureCode : LineFailure → Nat
  | .deferredOut => 0 | .excessCollision => 1

def failureOutcome : LineFailure → TxOutcome
  | .deferredOut => .deferredOut | .excessCollision => .excessCollision

def failureParam : LineFailure → ParamOutcome
  | .deferredOut => .deferredOut | .excessCollision => .excessCollision

/-- R34, R37, R39: what a failure does to the poll's entry, the management transaction or the WARN request. -/
def failRequester (x : LineFailure) (t : Transaction) (s : State) : State :=
  match t.kind with
  | .poll i => scheduleEntry i (setEntry i (fun e => { e with lastOutcome := some (failureOutcome x) }) s)
  | .management => endManagement t.frame.destination (failureParam x) s
  | .warn _ => s.setField { s.field with warn := .heldBack }

/-- R43: a transaction ends DEFERRED_OUT or EXCESS_COLLISION: its requester is served, LINE_FAULT is raised, and the
transmitter falls FREE. -/
def failTransaction (x : LineFailure) (t : Transaction) (s : State) : State :=
  let content := lineFaultContent s t (txEntry s t.kind) (failureCode x)
  transmitterFree (raise .lineFault content (failRequester x t s))

/-! ## The transmitter's events (R29, R30, R39, R40) -/

def deferralDue (s : State) : Bool := s.field.tx == .waitingIdle && reached s.field.deferral s.now

/-- R29: the deferral timer expires in WAITING_IDLE. -/
def deferralExpires (s : State) : State :=
  match s.field.transaction with
  | some t => if deferralDue s then failTransaction .deferredOut t s else s
  | none => s

/-- R29: no character has arrived for 2 ms. -/
def lineQuiet (s : State) : Bool :=
  match s.field.lastOctet with
  | some last => decide (last + Config.lineIdle ≤ s.now)
  | none => true

def idleDue (s : State) : Bool := s.field.tx == .waitingIdle && lineQuiet s

/-- R17, R29: the frame goes out, from the own address as it now stands; a frame being received is lost (R18). -/
def lineFallsIdle (s : State) : State :=
  if idleDue s then
    s.setField
      { s.field with
        tx := .sending, deferral := none, gathering := none
        transaction := s.field.transaction.map fun t =>
          { t with frame := { t.frame with source := s.field.settings.ownAddress } } }
  else s

/-- R30: the span of a draw: the smaller of the attempt count and the backoff bits. -/
def backoffSpan (attempts bits : Nat) : Nat := 2 ^ min attempts bits

/-- R17, R30: the backoff wait, under the backoff bits the transaction was chosen with; the number of slots drawn is
left open within its span (log 4). -/
def enterBackoff (t : Transaction) (s : State) : State :=
  let slots := Config.backoffDraw s.freeCount % backoffSpan t.attempts t.backoffBits
  (s.setField
    { s.field with
      tx := .backoff, transaction := some t, backoff := some (s.now + slots * Config.backoffSlot) }).freeTaken

/-- R17, R30: a character read back differs from the one sent; single attempt is as the transaction was chosen with. -/
def collides (s : State) : State :=
  match s.field.tx, s.field.transaction with
  | .sending, some t =>
    let counted := { t with attempts := t.attempts + 1 }
    let stopped := s.setField { s.field with transaction := some counted, lastOctet := some s.now }
    if t.singleAttempt ∨ Config.attempts ≤ counted.attempts then
      failTransaction .excessCollision counted stopped
    else enterBackoff counted stopped
  | _, _ => s

def backoffDue (s : State) : Bool := s.field.tx == .backoff && reached s.field.backoff s.now

/-- R30: the backoff wait ends; the transmitter contends again. -/
def backoffEnds (s : State) : State :=
  if backoffDue s then
    s.setField
      { s.field with tx := .waitingIdle, backoff := none, deferral := some (s.now + Config.deferral) }
  else s

/-- R39, R40: a WARN has been sent. -/
def warnSent (level : Nat) (s : State) : State :=
  judgePosts s
    (s.setField
      { s.field with
        lastSent := some { level := level, runTime := s.now }, refresh := s.now + Config.refresh })

/-- R30, R31, R40: every character of the frame has been read back unchanged. -/
def frameSent (s : State) : State :=
  match s.field.tx, s.field.transaction with
  | .sending, some t =>
    let ended := s.setField { s.field with lastOctet := some s.now }
    match t.kind with
    | .warn level => transmitterFree (warnSent level ended)
    | _ => ended.setField { ended.field with tx := .replyWindow, window := some (s.now + Config.replyWindow) }
  | _, _ => s

def refreshDue (s : State) : Bool := decide (s.field.refresh ≤ s.now)

/-- R39: the refresh timer expires. -/
def refreshExpires (s : State) : State :=
  if refreshDue s then
    let restarted := s.setField { s.field with refresh := s.now + Config.refresh }
    if s.field.warn = .heldBack ∨ 1 ≤ s.warning.level ∨ anyMismatch s = true then requestWarn restarted
    else restarted
  else s

/-- R27, R28: the poll of an entry falls due. -/
def pollFallsDue (entry : Nat) (s : State) : State :=
  match place entry 8 with
  | some i => if pollIsDue s i then arbitrate s else s
  | none => s

/-! ## Delivery (R31, R32, R35) -/

/-- R31: the delivered frame answers the reply window. -/
def answersWindow (s : State) (i : Fin 8) (f : FieldFrame) : Option Transaction :=
  match s.field.tx, s.field.transaction with
  | .replyWindow, some t =>
    match t.kind with
    | .poll e => if e = i ∧ f.kind ≠ kindParamReply then some t else none
    | .management =>
      match s.field.management with
      | some m =>
        if m.entry = i ∧ f.kind = kindParamReply ∧ (octetAt f.payload 0).toNat = m.parameter then some t else none
      | none => none
    | .warn _ => none
  | _, _ => none

/-- R37: the outcome that a PARAM_REPLY brings. -/
def paramOutcomeOf (f : FieldFrame) : ParamOutcome :=
  if fieldFlag (octetAt f.payload 1) then .headRefused else .ok (octetsInt ((f.payload.drop 2).take 4))

/-- R32: a poll ends REPLY. -/
def pollAnswered (i : Fin 8) (f : FieldFrame) (s : State) : State :=
  let alive := setEntry i (fun e => { e with lastOutcome := some .reply }) (signOfLife i s)
  transmitterFree (scheduleEntry i (handContent s i f alive))

/-- R37: a management transaction is answered: a POST_STATE of the frame's own sign of life is raised before
HEAD_PARAM_DONE (log 41). -/
def managementAnswered (address : Nat) (i : Fin 8) (f : FieldFrame) (s : State) : State :=
  transmitterFree (endManagement address (paramOutcomeOf f) (handContent s i f (signOfLife i s)))

/-- R31, R32, R35, R37: a frame is delivered with its entry. -/
def deliver (i : Fin 8) (f : FieldFrame) (s : State) : State :=
  match answersWindow s i f with
  | some t =>
    match t.kind with
    | .poll _ => pollAnswered i f s
    | _ => managementAnswered t.frame.destination i f s
  | none => handContent s i f (signOfLife i s)

/-- R18 to R22: a good frame is judged, offered to the capture queue, and delivered if it passed. -/
def goodFrame (f : FieldFrame) (s : State) : State :=
  let judged := filterFrame s f
  let offered := offerCapture f judged.1 s
  match judged.2 with
  | some i => deliver i f offered
  | none => offered

/-! ## Receiving (R18) -/

/-- R18: the frame that octets after SYNC spell, if any, has arrived whole. The characters that the part itself
sends are not gathered. -/
def frameReceived (octets : List Byte) (s : State) : State :=
  match s.field.tx with
  | .sending => s.setField { s.field with lastOctet := some s.now }
  | _ =>
    let ended := s.setField { s.field with lastOctet := some s.now, gathering := none }
    match fieldFrameOf octets with
    | some f => goodFrame f ended
    | none => ended

/-- R18: a gap of more than 2 ms has fallen since the last character of the frame being gathered. -/
def fieldGapDue (s : State) : Bool :=
  s.field.gathering.isSome &&
    match s.field.lastOctet with
    | some last => decide (last + Config.fieldGap < s.now)
    | none => false

/-- R18: the gap ends the frame being gathered. -/
def fieldGapFalls (s : State) : State :=
  if fieldGapDue s then s.setField { s.field with gathering := none } else s

/-- R18: how many octets after SYNC the frame has, once its length has arrived. -/
def fieldFrameLength (octets : List Byte) : Option Nat := (octets[3]?).map fun n => n.toNat + 6

/-- R18: the length stated is above 48. -/
def fieldTooLong (octets : List Byte) : Bool :=
  match octets[3]? with
  | some n => decide (Config.fieldPayload < n.toNat)
  | none => false

/-- R18, R167: a character joins the frame being gathered, or begins one with SYNC. A length above 48 drops the frame at
that character, and the next SYNC begins one (log 54). -/
def gatherOctet (octet : Byte) (s : State) : State :=
  match s.field.gathering with
  | none =>
    s.setField
      { s.field with lastOctet := some s.now, gathering := if octet = 0x5A then some [] else none }
  | some held =>
    let octets := held ++ [octet]
    if fieldTooLong octets then s.setField { s.field with lastOctet := some s.now, gathering := none }
    else if fieldFrameLength octets = some octets.length then frameReceived octets s
    else s.setField { s.field with lastOctet := some s.now, gathering := some octets }

/-- R18, R30: a character arrives on the line; one read back while SENDING is not gathered. -/
def fieldCharacter (octet : Byte) (s : State) : State :=
  match s.field.tx with
  | .sending => s.setField { s.field with lastOctet := some s.now }
  | _ => gatherOctet octet (fieldGapFalls s)

/-! ## Quiet mode (R27) -/

/-- R27: on entering quiet mode an entry whose quiet interval is 0 is no longer scheduled. -/
def pollsQuieted (s : State) : State :=
  s.setField
    { s.field with
      heads := mapTable (fun e => if e.config.quiet = 0 then { e with nextDue := none } else e) s.field.heads }

/-- R27: an entry's next-due time on leaving quiet mode. -/
def resumedDue (now : Nat) (e : HeadEntry) : Option Nat :=
  if e.config.enable then
    match e.nextDue with
    | none => some now
    | some t => some (min t (now + e.config.normal * 1000))
  else e.nextDue

/-- R27: on leaving quiet mode; a poll that becomes due may be chosen at once. -/
def pollsResumed (s : State) : State :=
  arbitrate
    (s.setField
      { s.field with heads := mapTable (fun e => { e with nextDue := resumedDue s.now e }) s.field.heads })

/-! ## Requests (R17, R24 to R26, R36) -/

def fieldSettingFields (x : FieldSettings) : List Field :=
  [.num 1 x.ownAddress, .flag x.acceptBroadcast, .bits 2 x.groupSet, .flag x.inverseGroups,
   .flag x.passAllGroups, .num 1 x.postGroup, .flag x.capture, .num 1 x.backoffBits, .flag x.singleAttempt]

/-- R17: the settings of a FIELD_SET in range, as held after clamping. -/
def heldField (a : FieldSetArgs) : Option FieldSettings := do
  let accept ← onOff a.acceptBroadcast
  let inverse ← onOff a.inverseGroups
  let pass ← onOff a.passAllGroups
  let capture ← onOff a.capture
  let single ← onOff a.singleAttempt
  if 1 ≤ a.ownAddress ∧ a.ownAddress ≤ 126 ∧ 128 ≤ a.postGroup ∧ a.postGroup ≤ 254 then
    some { ownAddress := a.ownAddress, acceptBroadcast := accept, groupSet := a.groupSet % 65536,
           inverseGroups := inverse, passAllGroups := pass, postGroup := a.postGroup, capture := capture,
           backoffBits := clampNat 1 6 a.backoffBits, singleAttempt := single }
  else none

/-- An enabled entry, other than the one excepted, has this address. -/
def addressTaken (s : State) (except : Option (Fin 8)) (address : Nat) : Bool :=
  (places 8).any fun j =>
    some j != except && s.field.heads[j].config.enable && s.field.heads[j].config.address == address

/-- R17: FIELD_SET, RANGE before BUSY before DUPLICATE (log 16). -/
def takeFieldSet (a : FieldSetArgs) (s : State) : State × Answer :=
  match heldField a with
  | none => (s, .refuse .range)
  | some x =>
    if s.saveRuns then (s, .refuse .busy)
    else if addressTaken s none x.ownAddress then (s, .refuse .duplicate)
    else (s.setField { s.field with settings := x }, .reply (fieldSettingFields x))

/-- R24: the kind and channel of a HEAD_SET in range. -/
def headKindOf (kind : Nat) (channel : Option Nat) : Option (HeadKind × Option Nat) :=
  match kind, channel with
  | 0, some c => if 1 ≤ c ∧ c ≤ 4 then some (.stage, some c) else none
  | 1, _ => some (.post, none)
  | _, _ => none

/-- R24: the configuration of a HEAD_SET in range, as held after clamping. -/
def heldHead (a : HeadSetArgs) : Option HeadConfig := do
  let enable ← onOff a.enable
  let (kind, channel) ← headKindOf a.kind a.channel
  if 1 ≤ a.address ∧ a.address ≤ 126 then
    some { enable := enable, address := a.address, kind := kind, channel := channel,
           normal := clampNat 1 3600 a.normal, quiet := clampNat 0 3600 a.quiet }
  else none

/-- R25: a poll of the entry is in flight, or the management transaction names it. -/
def entryBusy (s : State) (i : Fin 8) : Bool :=
  (match s.field.transaction with
    | some t => t.kind == .poll i
    | none => false)
    || (match s.field.management with
      | some m => m.entry == i
      | none => false)

/-- R25: the channel is named by another enabled STAGE entry. -/
def channelTaken (s : State) (i : Fin 8) (c : HeadConfig) : Bool :=
  c.kind == .stage && (places 8).any fun j =>
    let x := s.field.heads[j].config
    j != i && x.enable && x.kind == .stage && x.channel == c.channel

/-- R25: an entry that starts afresh under a configuration. -/
def freshHead (now : Nat) (c : HeadConfig) : HeadEntry :=
  { config := c, nextDue := if c.enable then some now else none, noReply := 0, state := .answering,
    lastOutcome := none, lastAnswer := none, post := none }

/-- R25: a taken HEAD_SET. -/
def applyHead (i : Fin 8) (c : HeadConfig) (s : State) : State :=
  let placed := s.setHead i (freshHead s.now c)
  arbitrate
    (match s.field.heads[i].config.kind with
      | .post => raisePostState placed
      | .stage => placed)

def headConfigFields (c : HeadConfig) : List Field :=
  [.flag c.enable, .num 1 c.address, .code (headKindCode c.kind)] ++ optNum 1 c.channel
  ++ [.num 2 c.normal, .num 2 c.quiet]

/-- R24, R25: HEAD_SET. -/
def takeHeadSet (a : HeadSetArgs) (s : State) : State × Answer :=
  match place a.entry 8, heldHead a with
  | some i, some c =>
    if s.saveRuns || entryBusy s i then (s, .refuse .busy)
    else if c.enable && (c.address == s.field.settings.ownAddress || addressTaken s (some i) c.address) then
      (s, .refuse .duplicate)
    else if c.enable && channelTaken s i c then (s, .refuse .duplicate)
    else (applyHead i c s, .reply (headConfigFields c))
  | _, _ => (s, .refuse .range)

/-- R26: POLL with its entry number, MANAGEMENT or WARN. -/
def flightFields (t : Transaction) : List Field :=
  match t.kind with
  | .poll i => [.code 0, .num 1 (numberOf i)]
  | .management => [.code 1]
  | .warn _ => [.code 2]

/-- R26: NONE, WAITING, IN_FLIGHT. -/
def managementCode : Option Management → Nat
  | none => 0
  | some m => if m.inFlight then 2 else 1

/-- R26: HEAD_READ. -/
def headReadReply (s : State) (i : Fin 8) : List Field :=
  let e := s.field.heads[i]
  headConfigFields e.config ++ optTime e.nextDue ++ [.num 1 e.noReply, .code (entryStateCode e.state)]
  ++ optField e.lastOutcome (fun o => .code (txOutcomeCode o)) ++ optTime e.lastAnswer
  ++ optFields e.post (fun p => [.num 1 p.displayed, .flag p.siren, .flag p.fault])
  ++ fieldSettingFields s.field.settings ++ [.code (txStateCode s.field.tx)]
  ++ optFields s.field.transaction flightFields
  ++ [.code (managementCode s.field.management), .code (warnCode s.field.warn)]
  ++ optNum 1 (s.field.lastSent.map (·.level)) ++ [.num 1 s.field.captured.length]

def takeHeadRead (entry : Nat) (s : State) : State × Answer :=
  match place entry 8 with
  | none => (s, .refuse .range)
  | some i => (s, .reply (headReadReply s i))

def paramOpOf : Nat → Option ParamOp
  | 0 => some .get
  | 1 => some .set
  | _ => none

/-- R36: the value a management transaction holds: a GET ignores it. -/
def heldValue (op : ParamOp) (value : Option Int) : Option Int :=
  match op with
  | .get => none
  | .set => value

/-- R36: HEAD_PARAM is accepted: the transaction is WAITING, and the arbiter may choose it. -/
def acceptParam (m : Management) (s : State) : State := arbitrate (s.setField { s.field with management := some m })

/-- R36: HEAD_PARAM; between RANGE and LENGTH, RANGE comes first, and between BUSY and STATE, BUSY (log 16). -/
def takeHeadParam (a : HeadParamArgs) (s : State) : State × Answer :=
  match place a.entry 8, paramOpOf a.operation with
  | some i, some op =>
    if 255 < a.parameter then (s, .refuse .range)
    else if op = .set ∧ a.value = none then (s, .refuse .length)
    else if s.field.management.isSome then (s, .refuse .busy)
    else if !s.field.heads[i].config.enable then (s, .refuse .state)
    else
      (acceptParam
          { entry := i, op := op, parameter := a.parameter, value := heldValue op a.value, inFlight := false } s,
        .reply [])
  | _, _ => (s, .refuse .range)

end Sys2Proof.Machine
end

