-- ==== Sys2Proof/Machine/Supervisor.lean ====
section
/-! DEFINITION. The supervisor (chapter 10) apart from the resets: the store and SAVE, quiet running, the wake settings, the cause
record, and RESTART; with the host link's own two requests, LINK_SET and IDENTIFY (R158, R165). -/

namespace Sys2Proof.Machine

/-! ## The store (R170, R171) -/

/-- R171: a copy of every stored setting as now held. -/
def gatherStored (s : State) : Stored :=
  { field := s.field.settings, heads := mapTable (·.config) s.field.heads,
    channels := mapTable (·.settings) s.channels, stage := s.stage.settings,
    rules := mapTable (·.definition) s.warning.rules, warning := s.warning.settings,
    monitor := s.warning.monitorSettings, correction := s.time.correction, carriage := s.cable.settings,
    rating := s.gauging.rating, plan := s.gauging.plan, notices := s.notices.settings,
    wake := s.supervisor.wake, rate := s.link.rateHeld }

/-- R171: SAVE is taken: the copy is made, the store marked INVALID, and writing begins. -/
def beginSave (s : State) : State :=
  s.setSupervisor
    { s.supervisor with storeValid := false, saving := some { copy := gatherStored s, start := s.now } }

/-- R171: SAVE. -/
def takeSave (s : State) : State × Answer := if s.saveRuns then (s, .refuse .busy) else (beginSave s, .reply [])

/-- R171: the content of SAVE_DONE; OK is 0 and FAIL 1. -/
def saveDoneContent (s : State) (holds : Bool) (start : Nat) : List Field :=
  [.code (if holds then 0 else 1), timeField start, timeField s.now] ++ optTime s.time.stationTime

/-- R171: the store after the check of what was written. -/
def storeWritten (holds : Bool) (saving : Saving) (x : Supervisor) : Supervisor :=
  if holds then { x with store := saving.copy, storeValid := true, saving := none }
  else { x with saving := none }

/-- R171: writing ends with the check of what was written. -/
def writeEnds (holds : Bool) (s : State) : State :=
  match s.supervisor.saving with
  | some saving =>
    raise .saveDone (saveDoneContent s holds saving.start)
      (s.setSupervisor (storeWritten holds saving s.supervisor))
  | none => s

/-! ## Quiet running (R172, R173) -/

/-- R172: a motion state in which QUIET is taken. -/
def carriageAtRest (m : Motion) : Bool :=
  match m with
  | .parked | .unreferenced => true
  | _ => false

/-- R172: the entry to quiet mode is handed to the field line, the stage unit and the warning unit. The record timer
keeps its expiry (R72). -/
def enterQuiet (s : State) : State :=
  monitorSuspended
    (pollsQuieted
      (s.setSupervisor { s.supervisor with quiet := .quiet, wakeOutput := false, quietEntry := s.now }))

/-- R172: the stage and rate wake conditions are judged once against the inputs held, the stage first
(log 67). -/
def judgeInputs (s : State) : State :=
  let staged := match s.warning.stageInput with
    | some v => wake (.stage v) s
    | none => s
  match s.warning.rateInput with
  | some v => wake (.rate v) staged
  | none => staged

/-- R172: QUIET. -/
def takeQuiet (s : State) : State × Answer :=
  if runActive s then (s, .refuse .state)
  else if !carriageAtRest s.cable.motion then (s, .refuse .state)
  else if s.field.management.isSome then (s, .refuse .state)
  else if s.saveRuns then (s, .refuse .busy)
  else if s.warning.autonomous then (s, .refuse .state)
  else
    let s' := judgeInputs (enterQuiet s)
    (s', .reply [.code (quietCode s'.supervisor.quiet)])

/-- R160, R172: quiet mode ends, if it is in force. -/
def endQuiet (s : State) : State :=
  if s.quietInForce then
    recordQuietEnds
      (pollsResumed (s.setSupervisor { s.supervisor with quiet := .normal, wakeOutput := false }))
  else s

def wakeSettingFields (w : WakeSettings) : List Field :=
  [.flag w.levelChange, .flag w.stage, .num 3 w.wakeStage, .flag w.rate, .num 3 w.wakeRate, .flag w.levelFive,
   .flag w.postFault]

/-- R173: the settings of a WAKE_SET in range, as held after clamping. -/
def heldWake (a : WakeSetArgs) : Option WakeSettings := do
  let level ← onOff a.levelChange
  let stage ← onOff a.stage
  let rate ← onOff a.rate
  let five ← onOff a.levelFive
  let fault ← onOff a.postFault
  return { levelChange := level, stage := stage, wakeStage := clampInt (-999999) 999999 a.wakeStage,
           rate := rate, wakeRate := clampInt (-99999) 99999 a.wakeRate, levelFive := five, postFault := fault }

/-- R173: WAKE_SET, RANGE before BUSY (log 16). -/
def takeWakeSet (a : WakeSetArgs) (s : State) : State × Answer :=
  match heldWake a with
  | none => (s, .refuse .range)
  | some w =>
    if s.saveRuns then (s, .refuse .busy)
    else (s.setSupervisor { s.supervisor with wake := w }, .reply (wakeSettingFields w))

/-! ## The cause record and RESTART (R168, R169) -/

/-- R168: POWER_ON and BROWNOUT are cold. -/
def isCold : ResetCause → Bool
  | .powerOn | .brownout => true
  | .resetIn | .restartRequest => false

/-- R168: COLD, WARM. -/
def resetKindCode (c : ResetCause) : Nat := if isCold c then 0 else 1

/-- R165, R168: VALID, INVALID. -/
def storeCode (valid : Bool) : Nat := if valid then 0 else 1

/-- R168: CAUSE_READ. -/
def takeCauseRead (s : State) : State × Answer :=
  let x := s.supervisor
  (s, .reply [.bits 1 (causeMask x.causes), .code (resetKindCode x.lastCause), .code (resetCode x.lastCause),
              timeField x.lastReset, .code (storeCode x.storeFound)])

/-- R168: no flag set. -/
def noCauses : CauseFlags := { powerOn := false, brownout := false, resetIn := false, restartRequest := false }

/-- R168: CAUSE_CLEAR. -/
def takeCauseClear (s : State) : State × Answer :=
  (s.setSupervisor { s.supervisor with causes := noCauses }, .reply [.bits 1 (causeMask s.supervisor.causes)])

/-- R169: RESTART; the reset follows when the reply has gone. -/
def takeRestart (s : State) : State × Answer :=
  if s.saveRuns then (s, .refuse .busy) else (s.setLink { s.link with restart := .accepted }, .reply [])

/-! ## LINK_SET and IDENTIFY (R158, R165) -/

/-- R158: the four rates, in baud. -/
def lineRates : List Nat := [9600, 19200, 38400, 57600]

/-- R158: LINK_SET, RANGE before BUSY (log 16). -/
def takeLinkSet (rate : Nat) (s : State) : State × Answer :=
  if !lineRates.contains rate then (s, .refuse .range)
  else if s.saveRuns then (s, .refuse .busy)
  else (s.setLink { s.link with rateHeld := rate }, .reply [.num 2 rate, .num 2 s.link.rateInForce])

/-- R165: "TAVESUND". -/
def vendorText : List Nat := [0x54, 0x41, 0x56, 0x45, 0x53, 0x55, 0x4E, 0x44]

/-- R165: "LURJON 416". -/
def partText : List Nat := [0x4C, 0x55, 0x52, 0x4A, 0x4F, 0x4E, 0x20, 0x34, 0x31, 0x36]

/-- R165: IDENTIFY. No range is stated for the largest payload and the capacities, so each takes the 4 octets of R164. -/
def takeIdentify (s : State) : State × Answer :=
  (s, .reply
    [.text vendorText, .text partText, .num 1 Config.revision, .code (storeCode s.supervisor.storeFound),
     .num 2 s.link.rateHeld, .num 2 s.link.rateInForce, .num 4 Config.hostPayload, .num 4 8, .num 4 4, .num 4 8,
     .num 4 Config.ringSize, .num 4 Config.planSize, .num 4 15, timeField s.now])

end Sys2Proof.Machine
end

