-- ==== Sys2Proof/Machine/HostLink.lean ====
section
/-! DEFINITION. The host link (chapter 9): receiving frames, placing them, taking requests, and sending. -/

namespace Sys2Proof.Machine

/-! ## Taking a request (R161 to R163) -/

/-- R161: a request goes to the block that owns its matter. -/
def answer (q : Request) (s : State) : State × Answer :=
  match q with
  | .identify => takeIdentify s
  | .linkSet rate => takeLinkSet rate s
  | .timeSet value => takeTimeSet value s
  | .timeRead => takeTimeRead s
  | .timeSource source => takeTimeSource source s
  | .trimSet c => takeTrimSet c s
  | .fieldSet a => takeFieldSet a s
  | .headSet a => takeHeadSet a s
  | .headRead entry => takeHeadRead entry s
  | .headParam a => takeHeadParam a s
  | .captureRead => takeCaptureRead s
  | .channelSet a => takeChannelSet a s
  | .channelRead channel => takeChannelRead channel s
  | .stageSet a => takeStageSet a s
  | .stageRead => takeStageRead s
  | .recordRead start count => takeRecordRead start count s
  | .ruleSet a => takeRuleSet askEvent a s
  | .ruleRead rule => takeRuleRead rule s
  | .warningSet a => takeWarningSet a s
  | .warningRead => takeWarningRead s
  | .warningAck => takeWarningAck s
  | .warningFloor floor => takeWarningFloor askEvent floor s
  | .monitorSet enable exponent => takeMonitorSet enable exponent s
  | .carriageSet a => takeCarriageSet a s
  | .carriageHome => takeCarriageHome s
  | .carriageRead => takeCarriageRead s
  | .meterSet a => takeMeterSet a s
  | .planClear exposure limit => takePlanClear exposure limit s
  | .planPut a => takePlanPut a s
  | .planRead index => takePlanRead index s
  | .runStart => takeRunStart s
  | .runSkip => takeRunSkip s
  | .runAbort => takeRunAbort s
  | .runRead => takeRunRead s
  | .resultRead vertical => takeResultRead vertical s
  | .quiet => takeQuiet s
  | .wakeSet a => takeWakeSet a s
  | .causeRead => takeCauseRead s
  | .causeClear => takeCauseClear s
  | .noticeSet master item => takeNoticeSet master item s
  | .noticeDone => takeNoticeDone s
  | .hold units => takeHold units s
  | .save => takeSave s
  | .restart => takeRestart s

/-- R161: a frame is judged: what the host link itself refuses, or the owner's answer. -/
def judgeFrame (f : HostFrame) (s : State) : State × Answer :=
  match f.content with
  | .error r => (s, .refuse r)
  | .ok q => answer q s

/-- R161, R162: the frame of a reply or of a refusal. -/
def replyFrame (f : HostFrame) : Answer → OutFrame
  | .reply payload => { kind := 0x80 + f.kind.toNat, tag := f.tag, payload := payload }
  | .refuse r => { kind := 0xFF, tag := f.tag, payload := [.raw [f.kind], .num 1 (reasonCode r)] }

/-- R161, R163: the answer is placed in the reply holder, a frame is started, and the link becomes ready. -/
def placeReply (f : HostFrame) (p : State × Answer) : State :=
  dispatch
    (startLine (p.1.setLink { p.1.link with reply := some (replyFrame f p.2), unready := false }))

/-- R161: the request of a frame is taken. -/
def takeFrame (f : HostFrame) (s : State) : State :=
  placeReply f
    (judgeFrame f
      (s.setLink { s.link with inHand := some { kind := f.kind, tag := f.tag }, unready := true }))

/-! ## A valid host frame arrives (R160) -/

/-- R160: the arrival is handed to the warning unit and to the supervisor. -/
def frameHeard (s : State) : State := endQuiet (hostHeard (s.setLink { s.link with unready := true }))

/-- R160: the frame is placed: taken at once, made the waiting frame, or discarded. Between the reply to a RESTART
and its reset no request is taken (log 35). -/
def placeFrame (f : HostFrame) (s : State) : State :=
  if s.link.inHand = none ∧ s.link.restart ≠ .due then takeFrame f s
  else
    match s.link.waiting with
    | none => s.setLink { s.link with waiting := some f, unready := false }
    | some _ => s.setLink { s.link with unready := false }

/-- R160: a valid host frame arrives. -/
def frameArrives (f : HostFrame) (s : State) : State := placeFrame f (frameHeard s)

/-- R161: the frame of a request as the host sends it. -/
def requestFrame (tag : Byte) (q : Request) : HostFrame := { kind := requestKind q, tag := tag, content := .ok q }

/-- R160, R161: a frame that carries this request arrives. -/
def requestArrives (tag : Byte) (q : Request) (s : State) : State := frameArrives (requestFrame tag q) s

/-! ## Receiving (R159) -/

/-- R159: the octets after SYNC have arrived; a frame that is not valid leaves no trace. -/
def hostOctetsArrive (octets : List Byte) (s : State) : State :=
  let hunting := s.setLink { s.link with assembling := none }
  match hostFrameOf octets with
  | some f => frameArrives f hunting
  | none => hunting

/-- R159: a gap of more than 50 ms has fallen since the last character of the frame being assembled. -/
def hostGapDue (s : State) : Bool :=
  s.link.assembling.isSome && decide (s.link.lastOctet + Config.hostGap < s.now)

/-- R159: the gap abandons the frame. -/
def hostGapFalls (s : State) : State :=
  if hostGapDue s then s.setLink { s.link with assembling := none } else s

/-- R159: LEN is above 200. -/
def hostTooLong (octets : List Byte) : Bool :=
  match octets with
  | len :: _ => decide (Config.hostPayload < len.toNat)
  | [] => false

/-- R159: LEN, KIND, TAG, the payload and the two CRC octets have all arrived. -/
def hostComplete (octets : List Byte) : Bool :=
  match octets with
  | len :: _ => octets.length == len.toNat + 5
  | [] => false

/-- R159: a character that comes with its stop bit. -/
def assembleOctet (octet : Byte) (s : State) : State :=
  match s.link.assembling with
  | none =>
    if octet = 0xC3 then s.setLink { s.link with assembling := some [], lastOctet := s.now } else s
  | some held =>
    let octets := held ++ [octet]
    if hostTooLong octets then s.setLink { s.link with assembling := none }
    else if hostComplete octets then hostOctetsArrive octets s
    else s.setLink { s.link with assembling := some octets, lastOctet := s.now }

/-- R159: a character arrives on HOST_RXD; one without its stop bit abandons the frame and is discarded. -/
def hostCharacter (octet : Byte) (stopBit : Bool) (s : State) : State :=
  if stopBit then assembleOctet octet (hostGapFalls s) else s.setLink { s.link with assembling := none }

/-! ## Sending (R161, R163, R169) -/

/-- R163: the line falls free; a frame is started and the dispatcher told if the link is ready. -/
def lineFree (s : State) : State := dispatch (startLine (s.setLink { s.link with line := none }))

/-- R161: the reply has gone: the request in hand ends, and a waiting frame's request is taken. -/
def replyGone (s : State) : State :=
  let ended := s.setLink { s.link with inHand := none, reply := none, line := none }
  match s.link.waiting with
  | some f => takeFrame f (ended.setLink { ended.link with waiting := none })
  | none => lineFree ended

/-- R169: the reply to RESTART has gone: the reset is due, and comes before anything else. -/
def restartReplyGone (s : State) : State :=
  s.setLink { s.link with inHand := none, reply := none, line := none, restart := .due }

/-- R163: the last byte of the frame on the line has gone. -/
def hostSent (s : State) : State :=
  match s.link.line with
  | none => s
  | some .notice => lineFree (s.setLink { s.link with notice := none })
  | some .reply => if s.link.restart = .accepted then restartReplyGone s else replyGone s

end Sys2Proof.Machine
end

