-- ==== Sys2Proof/Machine/Reset.lean ====
section
/-! DEFINITION. The resets (R168, R169): what each block keeps and what it loses (R1, R44, R64, R81, R104, R105, R123, R147, R157,
R166, R170), in one order for all four causes. -/

namespace Sys2Proof.Machine

/-! ## The store at a reset (R170, R171) -/

/-- R170: the settings the blocks take: the store's, or the factory defaults. -/
def loadedSettings (s : State) : Stored := if s.supervisor.storeValid then s.supervisor.store else defaultStored

/-! ## Each block's start -/

/-- 1.7: the time base. A warm reset keeps everything but the exposure span; the user correction is loaded at a
cold reset alone (R1). -/
def startTime (cold : Bool) (x : Stored) (t : TimeBase) : TimeBase :=
  if cold then { resetTime with correction := x.correction }
  else { t with activeTrim := Config.factoryTrim, exposureSpan := none }

/-- R166: the host link; it is not ready until the reset ends. -/
def startLink (x : Stored) : HostLink :=
  { rateHeld := x.rate, rateInForce := x.rate, assembling := none, lastOctet := 0, inHand := none,
    waiting := none, reply := none, notice := none, line := none, restart := .none, unready := true }

/-- R157: the dispatcher. -/
def startNotices (x : Stored) : Dispatcher :=
  { settings := x.notices, slots := Vector.replicate 15 none, inService := [], hold := none }

/-- R44: the field line controller. Whether the line is idle goes on from before a warm reset (log 36). -/
def startField (cold : Bool) (now : Nat) (x : Stored) (f : FieldLine) : FieldLine :=
  { settings := x.field, captured := [], overflow := false, heads := mapTable (freshHead now) x.heads,
    tx := .free, transaction := none, deferral := none, backoff := none, window := none, management := none,
    warn := .standing, refresh := now + Config.refresh, lastSent := none, gathering := none,
    lastOctet := if cold then none else f.lastOctet }

/-- R64: the channels. -/
def startChannels (now : Nat) (x : Stored) : Vector Channel 4 :=
  mapTable (fun c => freshChannel now c none) x.channels

/-- R81: every channel item is taken as not VALID, in the state its channel starts in (log 37). -/
def startItems (x : Stored) : Vector ChannelItem 4 :=
  mapTable (fun c => { state := if c.enable then .filling else .off, filtered := none }) x.channels

/-- R81: the station stage unit. -/
def startStage (cold : Bool) (now : Nat) (x : Stored) (u : StageUnit) : StageUnit :=
  { settings := x.stage, items := startItems x, stage := none, spread := none, disagree := false,
    quality := .none, previousQuality := none, chosen := none, ring := if cold then [] else u.ring
    nextSequence := if cold then 0 else u.nextSequence, recordExpiry := now + x.stage.normalInterval * 1000
    waiting := [], rate := none, warmRestart := !cold }

/-- R104, R105: a rule that starts over: IDLE with no timer, BLIND if it is enabled. -/
def startedRule (d : RuleDef) : Rule :=
  { definition := d, state := .idle, blind := d.enable, timer := .none, lastValue := none, judged := false,
    lastChange := none }

/-- R105: a rule at a warm reset: kept, BLIND with its timer paused, when its definition is unchanged and enabled. Its last
value is kept and not shown until it judges again (R84, log 56), and no rule has a last change of state (log 57). -/
def warmRule (now : Nat) (r : Rule) (d : RuleDef) : Rule :=
  if r.definition = d ∧ d.enable = true then
    { r with blind := true, timer := pauseTimer now r.timer, judged := false, lastChange := none }
  else startedRule d

/-- R104, R105: the rules after a reset. -/
def startRules (cold : Bool) (now : Nat) (x : Stored) (rules : Vector Rule 8) : Vector Rule 8 :=
  mapPlaces (fun i d => if cold then startedRule d else warmRule now rules[i] d) x.rules

/-- R98: the monitor started at the run time of the reset. -/
def startMonitor (now : Nat) (m : MonitorSettings) : Monitor :=
  if m.enable then .running (now + monitorInterval m) else .off

/-- R101: the spell record at a warm reset: a spell in progress takes its three values. -/
def warmSpell (s : State) : Option Spell :=
  if s.warning.autonomous then s.warning.spell.map (endedSpell s) else s.warning.spell

/-- R104, R105, R93: the warning unit, before a warm reset computes the level; the beacons stand by the level it leaves. `spell` is the spell record to keep. -/
def startWarning (cold : Bool) (now : Nat) (x : Stored) (spell : Option Spell) (w : WarningUnit) : WarningUnit :=
  { rules := startRules cold now x w.rules, stageInput := none, rateInput := none, settings := x.warning,
    monitorSettings := x.monitor, floor := if cold then 0 else w.floor, level := if cold then 0 else w.level,
    lastChange := if cold then none else w.lastChange, beaconA := !cold && decide (1 ≤ w.level)
    beaconB := !cold && decide (2 ≤ w.level), siren := .off, monitor := startMonitor now x.monitor
    autonomous := false, spell := if cold then none else spell }

/-- R123: the cableway controller; the switches stand where they are. -/
def startCable (x : Stored) (c : Cableway) : Cableway :=
  { resetCable with
    settings := x.carriage, payoutKnown := c.switches.reelTop && x.carriage.reelScale.isSome
    switches := c.switches }

/-- R147: the gauging sequencer. -/
def startGauging (x : Stored) : Gauging := { plan := x.plan, rating := x.rating, run := noRun }

/-- R168: the cause record after a reset. -/
def markCause (cause : ResetCause) (c : CauseFlags) : CauseFlags :=
  match cause with
  | .powerOn => { noCauses with powerOn := true }
  | .brownout => { c with brownout := true }
  | .resetIn => { c with resetIn := true }
  | .restartRequest => { c with restartRequest := true }

/-- R168, R170, R171, 10.4: the supervisor; a running SAVE is abandoned. -/
def startSupervisor (cause : ResetCause) (now : Nat) (x : Stored) (v : Supervisor) : Supervisor :=
  { causes := markCause cause v.causes, lastCause := cause, lastReset := now, store := v.store,
    storeValid := v.storeValid, storeFound := v.storeValid, saving := none, quiet := .normal, quietEntry := 0,
    wake := x.wake, wakeOutput := false }

/-- The blocks' starts, each from its settings and from what it keeps. -/
def startBlocks (cause : ResetCause) (s : State) : State :=
  let cold := isCold cause
  let x := loadedSettings s
  let time := startTime cold x s.time
  let now := time.runTime
  { time := time
    field := startField cold now x s.field
    channels := startChannels now x
    stage := startStage cold now x s.stage
    warning := startWarning cold now x (warmSpell s) s.warning
    cable := startCable x s.cable
    gauging := startGauging x
    notices := startNotices x
    link := startLink x
    supervisor := startSupervisor cause now x s.supervisor
    freeCount := s.freeCount
    pending := s.pending }

/-! ## The whole reset -/

/-- R169: the content of RESTART, taken when it is raised: the next sequence is the one that the reset leaves, one past the
kept number where the reset's own level change has appended its event record (log 72). -/
def restartContent (abandoned : Bool) (s : State) : List Field :=
  let v := s.supervisor
  [.code (resetKindCode v.lastCause), .code (resetCode v.lastCause), .bits 1 (causeMask v.causes),
   .flag (!v.storeFound), .flag abandoned, timeField v.lastReset]
  ++ optTime s.time.stationTime ++ [.num 4 s.stage.nextSequence]

/-- R105: a warm reset computes the level from the floor and the rules as they now stand; `before` are the rules
before the reset. A cold reset makes no level change (R104). -/
def resetLevel (cold : Bool) (before : Vector Rule 8) (s : State) : State :=
  if cold then s else recompute askEvent before none s

/-- R169: the reset ends: the host link is ready, RESTART is raised, last of all (log 72), and the choice is made; the
arbiter chooses. -/
def endReset (abandoned : Bool) (s : State) : State :=
  arbitrate
    (raise .restart (restartContent abandoned s) (s.setLink { s.link with unready := false }))

/-- R168: a reset. The level is computed (R105) before RESTART is raised (R169, log 72). -/
def reset (cause : ResetCause) (s : State) : State :=
  endReset s.saveRuns (resetLevel (isCold cause) s.warning.rules (startBlocks cause s))

/-- R169: the reset that a RESTART has made due. -/
def restartReset (s : State) : State := if s.link.restart = .due then reset .restartRequest s else s

end Sys2Proof.Machine
end

