-- ==== Sys2Proof/Machine/CommandsCableway.lean ====
section
/-! DEFINITION. The events of the cableway, the exposure, the hold and the single characters: one meaning per row of the table. An
event whose timer does not run or has not reached its expiry changes nothing, nor does a switch event that names
the level the switch already has (log 12). -/

namespace Sys2Proof.Machine

/-- TRAVERSE_PULSE: a pulse of the traverse encoder (R106, R110, R113). -/
def execTraversePulse (outward : Bool) (s : State) : Host.Outcome State Fault Refusal :=
  .next (traverseMoves outward s)

/-- REEL_PULSE: a pulse of the reel encoder (R106, R110, R114, R115, R117). -/
def execReelPulse (down : Bool) (s : State) : Host.Outcome State Fault Refusal :=
  .next (reelMoves down s)

/-- HOME_LIMIT_CLOSE (R111, R113, R118, R119). -/
def execHomeLimitClose (s : State) : Host.Outcome State Fault Refusal :=
  .next (homeLimitCloses s)

/-- FAR_LIMIT_CLOSE (R113, R119). -/
def execFarLimitClose (s : State) : Host.Outcome State Fault Refusal :=
  .next (farLimitCloses s)

/-- REEL_TOP_CHANGE (R108, R109, R118). -/
def execReelTopChange (closed : Bool) (s : State) : Host.Outcome State Fault Refusal :=
  .next (reelTopChanges closed s)

/-- SURFACE_CONTACT_CLOSE (R114). -/
def execSurfaceContactClose (s : State) : Host.Outcome State Fault Refusal :=
  .next (surfaceCloses s)

/-- BOTTOM_CONTACT_CHANGE (R114, R115, R117). -/
def execBottomContactChange (closed : Bool) (s : State) : Host.Outcome State Fault Refusal :=
  .next (bottomChanges closed s)

/-- WINCH_OVERLOAD becomes active (R119, R120). -/
def execWinchOverload (s : State) : Host.Outcome State Fault Refusal :=
  .next (overloadTrips s)

/-- STALL_EXPIRY: the driven axis has given no pulse for the stall time (R110). -/
def execStallExpiry (s : State) : Host.Outcome State Fault Refusal :=
  .next (stallExpires s)

/-- HOLD_TIMER_EXPIRY: the bottom contact has held for 1 s (R115). -/
def execHoldTimerExpiry (s : State) : Host.Outcome State Fault Refusal :=
  .next (holdTimerExpires s)

/-- SETTLE_EXPIRY: the settle time is over (R117). -/
def execSettleExpiry (s : State) : Host.Outcome State Fault Refusal :=
  .next (settleExpires s)

/-- METER_CONTACT closes (R132, R133). -/
def execMeterContact (s : State) : Host.Outcome State Fault Refusal :=
  .next (meterCloses s)

/-- EXPOSURE_ENDING: run time reaches t₀ + E (R132). -/
def execExposureEnding (s : State) : Host.Outcome State Fault Refusal :=
  .next (exposureEnds s)

/-- LATE_LIMIT_EXPIRY: 30 s past t₀ + E (R133). -/
def execLateLimitExpiry (s : State) : Host.Outcome State Fault Refusal :=
  .next (lateLimitExpires s)

/-- START_WAIT_EXPIRY: 30 s without a first contact (R133). -/
def execStartWaitExpiry (s : State) : Host.Outcome State Fault Refusal :=
  .next (startWaitExpires s)

/-- HOLD_EXPIRY: the dispatcher's hold (R155, R156). -/
def execHoldExpiry (s : State) : Host.Outcome State Fault Refusal :=
  .next (holdExpires s)

/-- HOST_CHARACTER_RECEIVED: one character on HOST_RXD (R159). -/
def execHostCharacterReceived (octet : Byte) (stopBit : Bool) (s : State) : Host.Outcome State Fault Refusal :=
  .next (hostCharacter octet stopBit s)

/-- FIELD_CHARACTER_RECEIVED: one character on the field line (R18, R29). -/
def execFieldCharacterReceived (octet : Byte) (s : State) : Host.Outcome State Fault Refusal :=
  .next (fieldCharacter octet s)

/-- HOME_LIMIT_OPEN: the input is OPEN again; no rule makes more of it (R106). -/
def execHomeLimitOpen (s : State) : Host.Outcome State Fault Refusal :=
  .next (setSwitches (fun x => { x with homeLimit := false }) s)

/-- FAR_LIMIT_OPEN (R106). -/
def execFarLimitOpen (s : State) : Host.Outcome State Fault Refusal :=
  .next (setSwitches (fun x => { x with farLimit := false }) s)

/-- SURFACE_CONTACT_OPEN (R106). -/
def execSurfaceContactOpen (s : State) : Host.Outcome State Fault Refusal :=
  .next (setSwitches (fun x => { x with surface := false }) s)

/-- WINCH_OVERLOAD_CLEAR (R106). -/
def execWinchOverloadClear (s : State) : Host.Outcome State Fault Refusal :=
  .next (setSwitches (fun x => { x with overload := false }) s)

end Sys2Proof.Machine
end

