-- ==== Sys2Proof/Machine/CommandsCore.lean ====
section
/-! DEFINITION. The commands of the resets, of the crystal and of the host line: one meaning per row of the table. -/

namespace Sys2Proof.Machine

/-- POWER_ON: a cold reset (R168). -/
def execPowerOn (s : State) : Host.Outcome State Fault Refusal :=
  .next (reset .powerOn s)

/-- BROWNOUT: a cold reset that keeps the other cause flags (R168). -/
def execBrownout (s : State) : Host.Outcome State Fault Refusal :=
  .next (reset .brownout s)

/-- RESET_IN: a warm reset (R168). -/
def execResetIn (s : State) : Host.Outcome State Fault Refusal :=
  .next (reset .resetIn s)

/-- RESTART_REQUEST: the warm reset that follows the reply to a RESTART (R169). -/
def execRestartRequest (s : State) : Host.Outcome State Fault Refusal :=
  .next (restartReset s)

/-- CRYSTAL_EDGE: an edge of the crystal (R3, R4). -/
def execCrystalEdge (s : State) : Host.Outcome State Fault Refusal :=
  .next (s.setTime (crystalEdge s.time))

/-- EDGE_GAP_EXPIRY: no edge has come for 4 ms (R4, R6). -/
def execEdgeGapExpiry (s : State) : Host.Outcome State Fault Refusal :=
  .next (edgeGapExpires s)

/-- QUALIFICATION_EXPIRY: the crystal has run for 1 s without a gap (R4, R5). -/
def execQualificationExpiry (s : State) : Host.Outcome State Fault Refusal :=
  .next (qualificationExpires s)

/-- HOST_FRAME_ARRIVAL: a whole host frame has arrived (R159, R160). -/
def execHostFrameArrival (octets : List Byte) (s : State) : Host.Outcome State Fault Refusal :=
  .next (hostOctetsArrive octets s)

/-- HOST_FRAME_GAP_EXPIRY: a gap of more than 50 ms inside a frame (R159). -/
def execHostFrameGapExpiry (s : State) : Host.Outcome State Fault Refusal :=
  .next (hostGapFalls s)

/-- HOST_FRAME_SENT: the last byte of the frame on the line has gone (R161, R163, R169). -/
def execHostFrameSent (s : State) : Host.Outcome State Fault Refusal :=
  .next (hostSent s)

/-- UNKNOWN_KIND: a valid frame whose KIND names no request (R161). -/
def execUnknownKind (kind tag : Byte) (s : State) : Host.Outcome State Fault Refusal :=
  .next (frameArrives { kind := kind, tag := tag, content := .error .unknownKind } s)

end Sys2Proof.Machine
end

