-- ==== Sys2Proof/Machine/CommandsRequests.lean ====
section
/-! DEFINITION. The host's requests: one meaning per row of the table. A row stands for the arrival of a valid host frame that
carries the request (R160, log 2); what the request does is its owner's `take` function. -/

namespace Sys2Proof.Machine

/-- IDENTIFY (R165): the frame that carries it arrives (R160). -/
def execIdentify (tag : Byte) (s : State) : Host.Outcome State Fault Refusal :=
  .next (requestArrives tag .identify s)

/-- LINK_SET (R158): the frame that carries it arrives (R160). -/
def execLinkSet (tag : Byte) (rate : Nat) (s : State) : Host.Outcome State Fault Refusal :=
  .next (requestArrives tag (.linkSet rate) s)

/-- TIME_SET (R10): the frame that carries it arrives (R160). -/
def execTimeSet (tag : Byte) (value : Nat) (s : State) : Host.Outcome State Fault Refusal :=
  .next (requestArrives tag (.timeSet value) s)

/-- TIME_READ (R12): the frame that carries it arrives (R160). -/
def execTimeRead (tag : Byte) (s : State) : Host.Outcome State Fault Refusal :=
  .next (requestArrives tag .timeRead s)

/-- TIME_SOURCE (R7): the frame that carries it arrives (R160). -/
def execTimeSource (tag : Byte) (source : Nat) (s : State) : Host.Outcome State Fault Refusal :=
  .next (requestArrives tag (.timeSource source) s)

/-- TRIM_SET (R2): the frame that carries it arrives (R160). -/
def execTrimSet (tag : Byte) (correction : Int) (s : State) : Host.Outcome State Fault Refusal :=
  .next (requestArrives tag (.trimSet correction) s)

/-- FIELD_SET (R17): the frame that carries it arrives (R160). -/
def execFieldSet (tag : Byte) (args : FieldSetArgs) (s : State) : Host.Outcome State Fault Refusal :=
  .next (requestArrives tag (.fieldSet args) s)

/-- HEAD_SET (R24, R25): the frame that carries it arrives (R160). -/
def execHeadSet (tag : Byte) (args : HeadSetArgs) (s : State) : Host.Outcome State Fault Refusal :=
  .next (requestArrives tag (.headSet args) s)

/-- HEAD_READ (R26): the frame that carries it arrives (R160). -/
def execHeadRead (tag : Byte) (entry : Nat) (s : State) : Host.Outcome State Fault Refusal :=
  .next (requestArrives tag (.headRead entry) s)

/-- HEAD_PARAM (R36): the frame that carries it arrives (R160). -/
def execHeadParam (tag : Byte) (args : HeadParamArgs) (s : State) : Host.Outcome State Fault Refusal :=
  .next (requestArrives tag (.headParam args) s)

/-- CAPTURE_READ (R23): the frame that carries it arrives (R160). -/
def execCaptureRead (tag : Byte) (s : State) : Host.Outcome State Fault Refusal :=
  .next (requestArrives tag .captureRead s)

/-- CHANNEL_SET (R46, R47): the frame that carries it arrives (R160). -/
def execChannelSet (tag : Byte) (args : ChannelSetArgs) (s : State) : Host.Outcome State Fault Refusal :=
  .next (requestArrives tag (.channelSet args) s)

/-- CHANNEL_READ (R63): the frame that carries it arrives (R160). -/
def execChannelRead (tag : Byte) (channel : Nat) (s : State) : Host.Outcome State Fault Refusal :=
  .next (requestArrives tag (.channelRead channel) s)

/-- STAGE_SET (R79): the frame that carries it arrives (R160). -/
def execStageSet (tag : Byte) (args : StageSetArgs) (s : State) : Host.Outcome State Fault Refusal :=
  .next (requestArrives tag (.stageSet args) s)

/-- STAGE_READ (R80): the frame that carries it arrives (R160). -/
def execStageRead (tag : Byte) (s : State) : Host.Outcome State Fault Refusal :=
  .next (requestArrives tag .stageRead s)

/-- RECORD_READ (R78): the frame that carries it arrives (R160). -/
def execRecordRead (tag : Byte) (start count : Nat) (s : State) : Host.Outcome State Fault Refusal :=
  .next (requestArrives tag (.recordRead start count) s)

/-- RULE_SET (R83): the frame that carries it arrives (R160). -/
def execRuleSet (tag : Byte) (args : RuleSetArgs) (s : State) : Host.Outcome State Fault Refusal :=
  .next (requestArrives tag (.ruleSet args) s)

/-- RULE_READ (R84): the frame that carries it arrives (R160). -/
def execRuleRead (tag : Byte) (rule : Nat) (s : State) : Host.Outcome State Fault Refusal :=
  .next (requestArrives tag (.ruleRead rule) s)

/-- WARNING_SET (R97): the frame that carries it arrives (R160). -/
def execWarningSet (tag : Byte) (args : WarningSetArgs) (s : State) : Host.Outcome State Fault Refusal :=
  .next (requestArrives tag (.warningSet args) s)

/-- WARNING_READ (R103): the frame that carries it arrives (R160). -/
def execWarningRead (tag : Byte) (s : State) : Host.Outcome State Fault Refusal :=
  .next (requestArrives tag .warningRead s)

/-- WARNING_ACK (R96): the frame that carries it arrives (R160). -/
def execWarningAck (tag : Byte) (s : State) : Host.Outcome State Fault Refusal :=
  .next (requestArrives tag .warningAck s)

/-- WARNING_FLOOR (R90): the frame that carries it arrives (R160). -/
def execWarningFloor (tag : Byte) (floor : Nat) (s : State) : Host.Outcome State Fault Refusal :=
  .next (requestArrives tag (.warningFloor floor) s)

/-- MONITOR_SET (R99): the frame that carries it arrives (R160). -/
def execMonitorSet (tag : Byte) (enable exponent : Nat) (s : State) : Host.Outcome State Fault Refusal :=
  .next (requestArrives tag (.monitorSet enable exponent) s)

/-- CARRIAGE_SET (R107): the frame that carries it arrives (R160). -/
def execCarriageSet (tag : Byte) (args : CarriageSetArgs) (s : State) : Host.Outcome State Fault Refusal :=
  .next (requestArrives tag (.carriageSet args) s)

/-- CARRIAGE_HOME (R111): the frame that carries it arrives (R160). -/
def execCarriageHome (tag : Byte) (s : State) : Host.Outcome State Fault Refusal :=
  .next (requestArrives tag .carriageHome s)

/-- CARRIAGE_READ (R122): the frame that carries it arrives (R160). -/
def execCarriageRead (tag : Byte) (s : State) : Host.Outcome State Fault Refusal :=
  .next (requestArrives tag .carriageRead s)

/-- METER_SET (R127): the frame that carries it arrives (R160). -/
def execMeterSet (tag : Byte) (args : MeterSetArgs) (s : State) : Host.Outcome State Fault Refusal :=
  .next (requestArrives tag (.meterSet args) s)

/-- PLAN_CLEAR (R126): the frame that carries it arrives (R160). -/
def execPlanClear (tag : Byte) (exposure changeLimit : Nat) (s : State) : Host.Outcome State Fault Refusal :=
  .next (requestArrives tag (.planClear exposure changeLimit) s)

/-- PLAN_PUT (R125): the frame that carries it arrives (R160). -/
def execPlanPut (tag : Byte) (args : PlanPutArgs) (s : State) : Host.Outcome State Fault Refusal :=
  .next (requestArrives tag (.planPut args) s)

/-- PLAN_READ (R126): the frame that carries it arrives (R160). -/
def execPlanRead (tag : Byte) (index : Nat) (s : State) : Host.Outcome State Fault Refusal :=
  .next (requestArrives tag (.planRead index) s)

/-- RUN_START (R128): the frame that carries it arrives (R160). -/
def execRunStart (tag : Byte) (s : State) : Host.Outcome State Fault Refusal :=
  .next (requestArrives tag .runStart s)

/-- RUN_SKIP (R137): the frame that carries it arrives (R160). -/
def execRunSkip (tag : Byte) (s : State) : Host.Outcome State Fault Refusal :=
  .next (requestArrives tag .runSkip s)

/-- RUN_ABORT (R139): the frame that carries it arrives (R160). -/
def execRunAbort (tag : Byte) (s : State) : Host.Outcome State Fault Refusal :=
  .next (requestArrives tag .runAbort s)

/-- RUN_READ (R143): the frame that carries it arrives (R160). -/
def execRunRead (tag : Byte) (s : State) : Host.Outcome State Fault Refusal :=
  .next (requestArrives tag .runRead s)

/-- RESULT_READ (R144): the frame that carries it arrives (R160). -/
def execResultRead (tag : Byte) (vertical : Nat) (s : State) : Host.Outcome State Fault Refusal :=
  .next (requestArrives tag (.resultRead vertical) s)

/-- QUIET (R172): the frame that carries it arrives (R160). -/
def execQuiet (tag : Byte) (s : State) : Host.Outcome State Fault Refusal :=
  .next (requestArrives tag .quiet s)

/-- WAKE_SET (R173): the frame that carries it arrives (R160). -/
def execWakeSet (tag : Byte) (args : WakeSetArgs) (s : State) : Host.Outcome State Fault Refusal :=
  .next (requestArrives tag (.wakeSet args) s)

/-- CAUSE_READ (R168): the frame that carries it arrives (R160). -/
def execCauseRead (tag : Byte) (s : State) : Host.Outcome State Fault Refusal :=
  .next (requestArrives tag .causeRead s)

/-- CAUSE_CLEAR (R168): the frame that carries it arrives (R160). -/
def execCauseClear (tag : Byte) (s : State) : Host.Outcome State Fault Refusal :=
  .next (requestArrives tag .causeClear s)

/-- NOTICE_SET (R149): the frame that carries it arrives (R160). -/
def execNoticeSet (tag : Byte) (master : Nat) (item : Option NoticeItem) (s : State) : Host.Outcome State Fault Refusal :=
  .next (requestArrives tag (.noticeSet master item) s)

/-- NOTICE_DONE (R154): the frame that carries it arrives (R160). -/
def execNoticeDone (tag : Byte) (s : State) : Host.Outcome State Fault Refusal :=
  .next (requestArrives tag .noticeDone s)

/-- HOLD (R155): the frame that carries it arrives (R160). -/
def execHold (tag : Byte) (units : Nat) (s : State) : Host.Outcome State Fault Refusal :=
  .next (requestArrives tag (.hold units) s)

/-- SAVE (R171): the frame that carries it arrives (R160). -/
def execSave (tag : Byte) (s : State) : Host.Outcome State Fault Refusal :=
  .next (requestArrives tag .save s)

/-- RESTART (R169): the frame that carries it arrives (R160). -/
def execRestart (tag : Byte) (s : State) : Host.Outcome State Fault Refusal :=
  .next (requestArrives tag .restart s)

end Sys2Proof.Machine
end

