-- ==== Sys2Proof/Machine/CommandsRiver.lean ====
section
/-! DEFINITION. The events of the store, the field line, the channels, the stage record and the warning unit: one meaning per row
of the table. An event whose timer does not run or has not reached its expiry changes nothing (log 12). -/

namespace Sys2Proof.Machine

/-- SAVE_WRITE_END: the store is written and checked (R171). -/
def execSaveWriteEnd (holds : Bool) (s : State) : Host.Outcome State Fault Refusal :=
  .next (writeEnds holds s)

/-- FIELD_FRAME_RECEIVED: a whole field frame has arrived (R18 to R22, R31 to R37). -/
def execFieldFrameReceived (octets : List Byte) (s : State) : Host.Outcome State Fault Refusal :=
  .next (frameReceived octets s)

/-- FIELD_CHARACTER_GAP: a gap of more than 2 ms inside a frame (R18). -/
def execFieldCharacterGap (s : State) : Host.Outcome State Fault Refusal :=
  .next (fieldGapFalls s)

/-- POLL_DUE: an entry's next-due time is reached (R27, R28). -/
def execPollDue (entry : Nat) (s : State) : Host.Outcome State Fault Refusal :=
  .next (pollFallsDue entry s)

/-- LINE_IDLE: no character for 2 ms while a transaction waits (R29). -/
def execLineIdle (s : State) : Host.Outcome State Fault Refusal :=
  .next (lineFallsIdle s)

/-- DEFERRAL_EXPIRY: 1,500 ms in WAITING_IDLE (R29). -/
def execDeferralExpiry (s : State) : Host.Outcome State Fault Refusal :=
  .next (deferralExpires s)

/-- COLLISION: a character read back differs from the one sent (R30). -/
def execCollision (s : State) : Host.Outcome State Fault Refusal :=
  .next (collides s)

/-- BACKOFF_EXPIRY: the drawn slots are over (R30). -/
def execBackoffExpiry (s : State) : Host.Outcome State Fault Refusal :=
  .next (backoffEnds s)

/-- FIELD_FRAME_SENT: the whole frame has been read back unchanged (R30, R31, R40). -/
def execFieldFrameSent (s : State) : Host.Outcome State Fault Refusal :=
  .next (frameSent s)

/-- REPLY_WINDOW_EXPIRY: 250 ms without an answer (R31, R33). -/
def execReplyWindowExpiry (s : State) : Host.Outcome State Fault Refusal :=
  .next (windowExpires s)

/-- WARN_REFRESH_EXPIRY: the 30 s refresh timer (R39). -/
def execWarnRefreshExpiry (s : State) : Host.Outcome State Fault Refusal :=
  .next (refreshExpires s)

/-- STALE_EXPIRY: a channel's stale timer (R58). -/
def execStaleExpiry (channel : Nat) (s : State) : Host.Outcome State Fault Refusal :=
  .next ((place channel 4).elim s fun i => channelEvent i (goStale s.now) s)

/-- RECORD_TIMER_EXPIRY: the record timer (R72). -/
def execRecordTimerExpiry (s : State) : Host.Outcome State Fault Refusal :=
  .next (recordExpires s)

/-- WAITING_APPEND: a later millisecond for a waiting append (R71). -/
def execWaitingAppend (s : State) : Host.Outcome State Fault Refusal :=
  .next (appendWaiting s)

/-- CONFIRM_TIMER_EXPIRY: a rule's confirm timer (R87). -/
def execConfirmTimerExpiry (rule : Nat) (s : State) : Host.Outcome State Fault Refusal :=
  .next ((place rule 8).elim s fun i => ruleExpires askEvent .confirming .active i s)

/-- CLEAR_TIMER_EXPIRY: a rule's clear timer (R87). -/
def execClearTimerExpiry (rule : Nat) (s : State) : Host.Outcome State Fault Refusal :=
  .next ((place rule 8).elim s fun i => ruleExpires askEvent .clearing .idle i s)

/-- SIREN_RUN_EXPIRY: the siren run timer (R95). -/
def execSirenRunExpiry (s : State) : Host.Outcome State Fault Refusal :=
  .next (sirenExpires s)

/-- REPEAT_EXPIRY: the repeat timer (R95). -/
def execRepeatExpiry (s : State) : Host.Outcome State Fault Refusal :=
  .next (repeatExpires s)

/-- MONITOR_EXPIRY: the host has been silent for the monitor interval (R98, R100). -/
def execMonitorExpiry (s : State) : Host.Outcome State Fault Refusal :=
  .next (monitorExpires s)

end Sys2Proof.Machine
end

