-- ==== Sys2Proof/Machine/Dispatch.lean ====
section
/-! DEFINITION. The dispatch of a command to its meaning: one arm per constructor of `Instr`. -/

namespace Sys2Proof.Machine

/-- The effect of a command on everything but the queue. -/
def exec (i : Instr) (s : State) : Host.Outcome State Fault Refusal :=
  match i with
  | .powerOn => Sys2Proof.Machine.execPowerOn s
  | .brownout => Sys2Proof.Machine.execBrownout s
  | .resetIn => Sys2Proof.Machine.execResetIn s
  | .restartRequest => Sys2Proof.Machine.execRestartRequest s
  | .crystalEdge => Sys2Proof.Machine.execCrystalEdge s
  | .edgeGapExpiry => Sys2Proof.Machine.execEdgeGapExpiry s
  | .qualificationExpiry => Sys2Proof.Machine.execQualificationExpiry s
  | .hostFrameArrival octets => Sys2Proof.Machine.execHostFrameArrival octets s
  | .hostFrameGapExpiry => Sys2Proof.Machine.execHostFrameGapExpiry s
  | .hostFrameSent => Sys2Proof.Machine.execHostFrameSent s
  | .unknownKind kind tag => Sys2Proof.Machine.execUnknownKind kind tag s
  | .identify tag => Sys2Proof.Machine.execIdentify tag s
  | .linkSet tag rate => Sys2Proof.Machine.execLinkSet tag rate s
  | .timeSet tag value => Sys2Proof.Machine.execTimeSet tag value s
  | .timeRead tag => Sys2Proof.Machine.execTimeRead tag s
  | .timeSource tag source => Sys2Proof.Machine.execTimeSource tag source s
  | .trimSet tag correction => Sys2Proof.Machine.execTrimSet tag correction s
  | .fieldSet tag args => Sys2Proof.Machine.execFieldSet tag args s
  | .headSet tag args => Sys2Proof.Machine.execHeadSet tag args s
  | .headRead tag entry => Sys2Proof.Machine.execHeadRead tag entry s
  | .headParam tag args => Sys2Proof.Machine.execHeadParam tag args s
  | .captureRead tag => Sys2Proof.Machine.execCaptureRead tag s
  | .channelSet tag args => Sys2Proof.Machine.execChannelSet tag args s
  | .channelRead tag channel => Sys2Proof.Machine.execChannelRead tag channel s
  | .stageSet tag args => Sys2Proof.Machine.execStageSet tag args s
  | .stageRead tag => Sys2Proof.Machine.execStageRead tag s
  | .recordRead tag start count => Sys2Proof.Machine.execRecordRead tag start count s
  | .ruleSet tag args => Sys2Proof.Machine.execRuleSet tag args s
  | .ruleRead tag rule => Sys2Proof.Machine.execRuleRead tag rule s
  | .warningSet tag args => Sys2Proof.Machine.execWarningSet tag args s
  | .warningRead tag => Sys2Proof.Machine.execWarningRead tag s
  | .warningAck tag => Sys2Proof.Machine.execWarningAck tag s
  | .warningFloor tag floor => Sys2Proof.Machine.execWarningFloor tag floor s
  | .monitorSet tag enable exponent => Sys2Proof.Machine.execMonitorSet tag enable exponent s
  | .carriageSet tag args => Sys2Proof.Machine.execCarriageSet tag args s
  | .carriageHome tag => Sys2Proof.Machine.execCarriageHome tag s
  | .carriageRead tag => Sys2Proof.Machine.execCarriageRead tag s
  | .meterSet tag args => Sys2Proof.Machine.execMeterSet tag args s
  | .planClear tag exposure changeLimit => Sys2Proof.Machine.execPlanClear tag exposure changeLimit s
  | .planPut tag args => Sys2Proof.Machine.execPlanPut tag args s
  | .planRead tag index => Sys2Proof.Machine.execPlanRead tag index s
  | .runStart tag => Sys2Proof.Machine.execRunStart tag s
  | .runSkip tag => Sys2Proof.Machine.execRunSkip tag s
  | .runAbort tag => Sys2Proof.Machine.execRunAbort tag s
  | .runRead tag => Sys2Proof.Machine.execRunRead tag s
  | .resultRead tag vertical => Sys2Proof.Machine.execResultRead tag vertical s
  | .quiet tag => Sys2Proof.Machine.execQuiet tag s
  | .wakeSet tag args => Sys2Proof.Machine.execWakeSet tag args s
  | .causeRead tag => Sys2Proof.Machine.execCauseRead tag s
  | .causeClear tag => Sys2Proof.Machine.execCauseClear tag s
  | .noticeSet tag master item => Sys2Proof.Machine.execNoticeSet tag master item s
  | .noticeDone tag => Sys2Proof.Machine.execNoticeDone tag s
  | .hold tag units => Sys2Proof.Machine.execHold tag units s
  | .save tag => Sys2Proof.Machine.execSave tag s
  | .restart tag => Sys2Proof.Machine.execRestart tag s
  | .saveWriteEnd holds => Sys2Proof.Machine.execSaveWriteEnd holds s
  | .fieldFrameReceived octets => Sys2Proof.Machine.execFieldFrameReceived octets s
  | .fieldCharacterGap => Sys2Proof.Machine.execFieldCharacterGap s
  | .pollDue entry => Sys2Proof.Machine.execPollDue entry s
  | .lineIdle => Sys2Proof.Machine.execLineIdle s
  | .deferralExpiry => Sys2Proof.Machine.execDeferralExpiry s
  | .collision => Sys2Proof.Machine.execCollision s
  | .backoffExpiry => Sys2Proof.Machine.execBackoffExpiry s
  | .fieldFrameSent => Sys2Proof.Machine.execFieldFrameSent s
  | .replyWindowExpiry => Sys2Proof.Machine.execReplyWindowExpiry s
  | .warnRefreshExpiry => Sys2Proof.Machine.execWarnRefreshExpiry s
  | .staleExpiry channel => Sys2Proof.Machine.execStaleExpiry channel s
  | .recordTimerExpiry => Sys2Proof.Machine.execRecordTimerExpiry s
  | .waitingAppend => Sys2Proof.Machine.execWaitingAppend s
  | .confirmTimerExpiry rule => Sys2Proof.Machine.execConfirmTimerExpiry rule s
  | .clearTimerExpiry rule => Sys2Proof.Machine.execClearTimerExpiry rule s
  | .sirenRunExpiry => Sys2Proof.Machine.execSirenRunExpiry s
  | .repeatExpiry => Sys2Proof.Machine.execRepeatExpiry s
  | .monitorExpiry => Sys2Proof.Machine.execMonitorExpiry s
  | .traversePulse outward => Sys2Proof.Machine.execTraversePulse outward s
  | .reelPulse down => Sys2Proof.Machine.execReelPulse down s
  | .homeLimitClose => Sys2Proof.Machine.execHomeLimitClose s
  | .farLimitClose => Sys2Proof.Machine.execFarLimitClose s
  | .reelTopChange closed => Sys2Proof.Machine.execReelTopChange closed s
  | .surfaceContactClose => Sys2Proof.Machine.execSurfaceContactClose s
  | .bottomContactChange closed => Sys2Proof.Machine.execBottomContactChange closed s
  | .winchOverload => Sys2Proof.Machine.execWinchOverload s
  | .stallExpiry => Sys2Proof.Machine.execStallExpiry s
  | .holdTimerExpiry => Sys2Proof.Machine.execHoldTimerExpiry s
  | .settleExpiry => Sys2Proof.Machine.execSettleExpiry s
  | .meterContact => Sys2Proof.Machine.execMeterContact s
  | .exposureEnding => Sys2Proof.Machine.execExposureEnding s
  | .lateLimitExpiry => Sys2Proof.Machine.execLateLimitExpiry s
  | .startWaitExpiry => Sys2Proof.Machine.execStartWaitExpiry s
  | .holdExpiry => Sys2Proof.Machine.execHoldExpiry s
  | .hostCharacterReceived octet stopBit => Sys2Proof.Machine.execHostCharacterReceived octet stopBit s
  | .fieldCharacterReceived octet => Sys2Proof.Machine.execFieldCharacterReceived octet s
  | .homeLimitOpen => Sys2Proof.Machine.execHomeLimitOpen s
  | .farLimitOpen => Sys2Proof.Machine.execFarLimitOpen s
  | .surfaceContactOpen => Sys2Proof.Machine.execSurfaceContactOpen s
  | .winchOverloadClear => Sys2Proof.Machine.execWinchOverloadClear s

end Sys2Proof.Machine
end

