-- ==== Sys2Proof/Machine/Step.lean ====
section
/-! DEFINITION. One step: the command at the front of the queue, or on an empty queue the part's own doing: the first of its
timers and conditions that is due, else one millisecond of its reference (log 1). -/

namespace Sys2Proof.Machine

/-- One row, when its condition holds. -/
def dueIf (condition : Bool) (c : Instr) : List Instr := if condition then [c] else []

/-- R169, R171, R4, R159, R18: what is due at the supervisor, the crystal monitor and the two receivers. A SAVE of
which nothing has been heard ends at 800 ms with a check left open (log 7). -/
def linkEvents (s : State) : List Instr :=
  dueIf (s.link.restart == .due) .restartRequest
  ++ dueIf (edgeGapDue s) .edgeGapExpiry
  ++ dueIf (qualificationDue s) .qualificationExpiry
  ++ dueIf (hostGapDue s) .hostFrameGapExpiry
  ++ dueIf (fieldGapDue s) .fieldCharacterGap
  ++ dueIf (reached (s.supervisor.saving.map fun x => x.start + Config.saveLimit) s.now)
      (.saveWriteEnd (Config.storeCheck s.freeCount))

/-- What is due at the field line controller. A due poll matters only while the transmitter is FREE (R28). -/
def fieldEvents (s : State) : List Instr :=
  ((places 8).map fun i => dueIf (s.field.tx == .free && pollIsDue s i) (.pollDue (numberOf i))).flatten
  ++ dueIf (idleDue s) .lineIdle
  ++ dueIf (deferralDue s) .deferralExpiry
  ++ dueIf (backoffDue s) .backoffExpiry
  ++ dueIf (windowDue s) .replyWindowExpiry
  ++ dueIf (refreshDue s) .warnRefreshExpiry

/-- What is due at the channels and the station stage unit. -/
def stageEvents (s : State) : List Instr :=
  ((places 4).map fun i => dueIf (staleDue s.now s.channels[i]) (.staleExpiry (numberOf i))).flatten
  ++ dueIf (waitingDue s) .waitingAppend
  ++ dueIf (recordDue s) .recordTimerExpiry

/-- What is due at the warning unit. -/
def warningEvents (s : State) : List Instr :=
  ((places 8).map fun i => dueIf (ruleDue .confirming i s) (.confirmTimerExpiry (numberOf i))).flatten
  ++ ((places 8).map fun i => dueIf (ruleDue .clearing i s) (.clearTimerExpiry (numberOf i))).flatten
  ++ dueIf (sirenDue s) .sirenRunExpiry
  ++ dueIf (repeatDue s) .repeatExpiry
  ++ dueIf (monitorDue s) .monitorExpiry

/-- What is due at the cableway, the exposure and the dispatcher. -/
def cablewayEvents (s : State) : List Instr :=
  dueIf (stallDue s) .stallExpiry
  ++ dueIf (holdTimerDue s) .holdTimerExpiry
  ++ dueIf (settleDue s) .settleExpiry
  ++ dueIf (endingDue s) .exposureEnding
  ++ dueIf (lateLimitDue s) .lateLimitExpiry
  ++ dueIf (startWaitDue s) .startWaitExpiry
  ++ dueIf (holdDue s) .holdExpiry

/-- Every event of the part's own that is due, in the order in which an empty queue takes them (log 1). -/
def dueEvents (s : State) : List Instr :=
  linkEvents s ++ fieldEvents s ++ stageEvents s ++ warningEvents s ++ cablewayEvents s

/-- A step on an empty queue: the first due event, each with a fresh free value, or a millisecond. -/
def idle (s : State) : Host.Outcome State Fault Refusal :=
  match dueEvents s with
  | c :: _ => exec c s.freeTaken
  | [] => .next (s.setTime (tickTime s.time))

/-- One step: the command at the front of the queue, on the state with the queue's rest. -/
def step (s : State) : Host.Outcome State Fault Refusal :=
  match s.pending with
  | c :: rest => exec c (s.setPending rest)
  | [] => idle s

/-- The state with the command that a word spells at the front of its queue; unchanged where it spells none. -/
def State.withFetchWord (s : State) (nbits w : Nat) : State :=
  match decodeTableWord nbits w with
  | some c => s.setPending (c :: s.pending)
  | none => s

end Sys2Proof.Machine
end

