-- ==== Sys2Proof/Safety.lean ====
section
/-! DEFINITION. The whole-machine promises of the manual, as properties of a state: the level (R89), the stage record ring (R71)
and the drive (R109); and what statements about one command are made of: a part that is calm, what an answer looks like, and
what stays as it was. -/

namespace Sys2Proof.Machine

/-- R89: the station warning level is the greatest of the floor and of the levels of the rules in ACTIVE or CLEARING. -/
def State.LevelHeld (s : State) : Prop := s.warning.level = computedLevel s.warning

/-- R71: neighbours in the ring: consecutive sequence numbers, strictly increasing stamps. -/
def recordFollows (a b : StageRecord) : Prop :=
  b.sequence = (a.sequence + 1) % Config.sequences ∧ a.runTime < b.runTime

/-- R71: the sequence number that the newest record of a ring leaves next. -/
def nextAfter (ring : List StageRecord) (next : Nat) : Prop :=
  match ring.getLast? with
  | some r => next = (r.sequence + 1) % Config.sequences
  | none => True

/-- R71: at most 256 records, numbered consecutively up to the next sequence number, stamps strictly increasing. -/
def State.RingHeld (s : State) : Prop :=
  s.stage.ring.length ≤ Config.ringSize ∧ s.stage.ring.IsChain recordFollows
    ∧ nextAfter s.stage.ring s.stage.nextSequence

/-- R109: HOMING, TRAVELLING or RETRACTING. -/
def traverseMotion (m : Motion) : Bool :=
  match m with
  | .homing | .travelling _ | .retracting => true
  | _ => false

/-- R109: a traverse output is driven only in HOMING, TRAVELLING and RETRACTING, and only with REEL_TOP closed. -/
def State.DriveHeld (s : State) : Prop :=
  drivesTraverse s.cable.drive = true → traverseMotion s.cable.motion = true ∧ s.cable.switches.reelTop = true

/-- R93: BEACON_A is lit at level 1 or more and BEACON_B at level 2 or more. -/
def State.BeaconsHeld (s : State) : Prop :=
  (s.warning.beaconA = true ↔ 1 ≤ s.warning.level) ∧ (s.warning.beaconB = true ↔ 2 ≤ s.warning.level)

/-! ## Terms of statements about one command -/

/-- No request is in hand, no RESTART is due, and neither quiet mode nor AUTONOMOUS is in force. -/
def State.Calm (s : State) : Prop :=
  s.link.inHand = none ∧ s.link.restart ≠ .due ∧ s.supervisor.quiet = .normal ∧ s.warning.autonomous = false

/-- The command of a request: its row of the table. -/
def requestCommand (tag : Byte) (q : Request) : Instr :=
  match q with
  | .identify => .identify tag
  | .linkSet rate => .linkSet tag rate
  | .timeSet value => .timeSet tag value
  | .timeRead => .timeRead tag
  | .timeSource source => .timeSource tag source
  | .trimSet correction => .trimSet tag correction
  | .fieldSet args => .fieldSet tag args
  | .headSet args => .headSet tag args
  | .headRead entry => .headRead tag entry
  | .headParam args => .headParam tag args
  | .captureRead => .captureRead tag
  | .channelSet args => .channelSet tag args
  | .channelRead channel => .channelRead tag channel
  | .stageSet args => .stageSet tag args
  | .stageRead => .stageRead tag
  | .recordRead start count => .recordRead tag start count
  | .ruleSet args => .ruleSet tag args
  | .ruleRead rule => .ruleRead tag rule
  | .warningSet args => .warningSet tag args
  | .warningRead => .warningRead tag
  | .warningAck => .warningAck tag
  | .warningFloor floor => .warningFloor tag floor
  | .monitorSet enable exponent => .monitorSet tag enable exponent
  | .carriageSet args => .carriageSet tag args
  | .carriageHome => .carriageHome tag
  | .carriageRead => .carriageRead tag
  | .meterSet args => .meterSet tag args
  | .planClear exposure changeLimit => .planClear tag exposure changeLimit
  | .planPut args => .planPut tag args
  | .planRead index => .planRead tag index
  | .runStart => .runStart tag
  | .runSkip => .runSkip tag
  | .runAbort => .runAbort tag
  | .runRead => .runRead tag
  | .resultRead vertical => .resultRead tag vertical
  | .quiet => .quiet tag
  | .wakeSet args => .wakeSet tag args
  | .causeRead => .causeRead tag
  | .causeClear => .causeClear tag
  | .noticeSet master item => .noticeSet tag master item
  | .noticeDone => .noticeDone tag
  | .hold units => .hold tag units
  | .save => .save tag
  | .restart => .restart tag

/-- R161: the request of this KIND and TAG is in hand, and its reply is in the reply holder. -/
def State.Answered (t : State) (kind tag : Byte) (payload : List Field) : Prop :=
  t.link.inHand = some { kind := kind, tag := tag }
    ∧ t.link.reply = some { kind := 0x80 + kind.toNat, tag := tag, payload := payload }

/-- R161, R162: the request is in hand, and a refusal for this reason code is in the reply holder. -/
def State.RefusedFor (t : State) (kind tag : Byte) (reason : Nat) : Prop :=
  t.link.inHand = some { kind := kind, tag := tag }
    ∧ t.link.reply = some { kind := 0xFF, tag := tag, payload := [.raw [kind], .num 1 reason] }

/-- The warning unit, but for its monitor, which every valid host frame restarts (R98). -/
def sameBut (a b : WarningUnit) : Prop := { a with monitor := b.monitor } = b

/-- Every block is as it was. Of the dispatcher and the host link this takes in what a raised notice and a reply do
not change: the notice settings and the hold, the rates, the receiver and the RESTART in progress. -/
def State.Keeps (s t : State) : Prop :=
  t.time = s.time ∧ t.field = s.field ∧ t.channels = s.channels ∧ t.stage = s.stage
    ∧ sameBut s.warning t.warning ∧ t.cable = s.cable ∧ t.gauging = s.gauging ∧ t.supervisor = s.supervisor
    ∧ t.notices.settings = s.notices.settings ∧ t.notices.hold = s.notices.hold
    ∧ t.link.rateHeld = s.link.rateHeld ∧ t.link.rateInForce = s.link.rateInForce
    ∧ t.link.assembling = s.link.assembling ∧ t.link.restart = s.link.restart
    ∧ t.freeCount = s.freeCount ∧ t.pending = s.pending

/-- R76: the rate of a record with stage `x` at run time `now` under a window of `window` s, over the records held before it,
oldest first: from the oldest of them in the window with a stage, where it lies at least half the window back, truncated
toward zero and clamped; where there is none, the record itself is the oldest and there is no rate. -/
def rateFormed (held : List StageRecord) (window now : Nat) (x : Int) (rate : Option Int) : Prop :=
  ((∀ j ∈ held, j.stage = none ∨ j.runTime + window * 1000 < now) → rate = none)
    ∧ ∀ older k newer y span, held = older ++ k :: newer → k.stage = some y → now ≤ k.runTime + window * 1000 →
      (∀ j ∈ older, j.stage = none ∨ j.runTime + window * 1000 < now) → span = now - k.runTime →
      (span < window * 500 → rate = none)
        ∧ (window * 500 ≤ span → rate = some (max (-99999) (min 99999 (((x - y) * 3600000).tdiv span))))

/-- R71: what the ring holds once there is room for one more. -/
def State.heldRecords (s : State) : List StageRecord :=
  if s.stage.ring.length < 256 then s.stage.ring else s.stage.ring.drop 1

/-- R71, R74 to R76: the record appended now. -/
def State.Records (s : State) (event : Bool) (r : StageRecord) : Prop :=
  r.sequence = s.stage.nextSequence ∧ r.runTime = s.now ∧ r.stationTime = s.time.stationTime
    ∧ r.stage = s.stage.stage ∧ r.quality = s.stage.quality ∧ r.level = s.warning.level
    ∧ r.channels = ((places 4).filter fun i => s.stage.items[i].state == .valid).map (fun i => i.val + 1)
    ∧ r.flags = { timingRC := s.time.recordMark, timeStepped := s.time.stepPending, event := event
                  runActive := s.run.state == .active, autonomous := s.warning.autonomous
                  warmRestart := s.stage.warmRestart }
    ∧ (s.stage.stage = none → r.rate = none)
    ∧ ∀ x, s.stage.stage = some x → 0 < s.stage.settings.rateWindow →
        rateFormed s.heldRecords s.stage.settings.rateWindow s.now x r.rate

/-- R71: an event record asked for now waits: an append waits already, or no later millisecond than the newest record's has
come. -/
def State.AppendWaits (s : State) : Prop :=
  s.stage.waiting ≠ [] ∨ ∃ r, s.stage.ring.getLast? = some r ∧ s.now ≤ r.runTime

/-- R91 to R94, R100, R139: from `s` the level has changed to `new` for `cause`. What stands in `t`: the level, the last change
and the beacons; the siren judged against the change; the spell; a WARN request, a siren start or stop of the change having
raised one before it (log 20); WARNING, where no notice can be handed over; the event record, appended or waiting; and an
ACTIVE run, withdrawn or as it was. -/
def State.LevelChanged (s t : State) (cause : LevelCause) (new : Nat) : Prop :=
  ∃ (starts stops : Bool) (old : Nat) (x : WarningSettings), old = s.warning.level ∧ x = s.warning.settings
    ∧ (starts = true ↔ old < new ∧ x.sirenLevel ≤ new ∧ ∀ e, s.warning.siren ≠ .sounding e)
    ∧ (stops = true ↔ new < x.sirenLevel ∧ ∃ e, s.warning.siren = .sounding e)
    ∧ t.warning.level = new
    ∧ t.warning.lastChange = some { oldLevel := old, newLevel := new, cause := cause, runTime := s.now }
    ∧ t.warning.beaconA = decide (1 ≤ new) ∧ t.warning.beaconB = decide (2 ≤ new)
    ∧ t.warning.siren = (if new < x.sirenLevel then .off
        else if old < new then .sounding (s.now + x.sirenRun * 1000) else s.warning.siren)
    ∧ t.warning.spell = (if s.warning.autonomous = true then s.warning.spell.map fun p =>
          { p with
            highest := max p.highest new
            sirenStarts := if starts = true ∧ p.sirenStarts < 255 then p.sirenStarts + 1 else p.sirenStarts }
        else s.warning.spell)
    ∧ (s.field.tx ≠ .free → t.field = { s.field with warn := .standing })
    ∧ (s.field.tx = .free → t.field.tx = .waitingIdle ∧ t.field.deferral = some (s.now + 1500)
        ∧ t.field.heads = s.field.heads ∧ t.field.management = s.field.management
        ∧ t.field.warn = (if starts = true ∨ stops = true then .standing else .none)
        ∧ t.field.transaction = some
            { kind := .warn new, attempts := 0, backoffBits := s.field.settings.backoffBits
              singleAttempt := s.field.settings.singleAttempt
              frame := { destination := s.field.settings.postGroup, source := s.field.settings.ownAddress, kind := 0x20
                         payload := [BitVec.ofNat 8 new, if sirenSounds t = true then 1 else 0,
                                     if s.warning.autonomous = true then 1 else 0] } })
    ∧ (s.link.notice ≠ none ∨ s.warning.autonomous = true → ∃ y told rest,
        t.notices.slots[sourcePlace .warning] = some y ∧ y.content = told :: rest
          ∧ (s.notices.slots[sourcePlace .warning] = none → told = .num 1 old)
          ∧ (∀ z first more, s.notices.slots[sourcePlace .warning] = some z → z.content = first :: more → told = first)
          ∧ rest = [.num 1 new]
            ++ (match cause with
              | .floor => [.code 1, .absent, .absent]
              | .rule i => [.code 0, .num 1 (i.val + 1), .present, .code (ruleKindCode t.warning.rules[i].definition.kind)]
                ++ optInt 3 t.warning.rules[i].lastValue)
            ++ [.num 1 t.warning.floor]
            ++ listFields ((places 8).filter fun i =>
                t.warning.rules[i].state == .active || t.warning.rules[i].state == .clearing) (fun i =>
                [.num 1 (i.val + 1), .num 1 t.warning.rules[i].definition.level,
                 .code (ruleStateCode t.warning.rules[i].state)])
            ++ optInt 3 s.warning.stageInput ++ optInt 3 s.warning.rateInput
            ++ [.code (sirenCode t.warning.siren), .flag s.warning.autonomous, .num 6 s.now]
            ++ optTime s.time.stationTime)
    ∧ (s.AppendWaits → t.stage = { s.stage with waiting := s.stage.waiting ++ [.event] })
    ∧ (¬ s.AppendWaits → ∃ r, t.stage.ring = s.heldRecords ++ [r]
        ∧ (s.setWarning { s.warning with level := new }).Records true r ∧ t.stage.waiting = []
        ∧ t.stage.nextSequence = (s.stage.nextSequence + 1) % 2 ^ 32)
    ∧ (s.run.state = .active → x.withdrawLevel ≤ new →
        t.run.state = .aborted ∧ t.run.reason = some .withdraw ∧ t.run.phase = none ∧ t.run.exposure = none)
    ∧ (s.run.state ≠ .active ∨ new < x.withdrawLevel → t.gauging = s.gauging ∧ t.cable = s.cable)
    ∧ (s.supervisor.quiet = .normal → t.supervisor = s.supervisor)

/-! ## Notices, votes and faults as statements name them -/

/-- R150: the merge count that a raise leaves in a slot. -/
def mergedNext (slot : Option Slot) : Nat :=
  match slot with
  | none => 0
  | some held => if held.merged < 255 then held.merged + 1 else held.merged

/-- R150: a notice of this source is raised once with this content, as the slot shows it while the notice holder is
occupied and so nothing can be handed over. -/
def State.Told (s t : State) (src : NoticeSource) (content : List Field) : Prop :=
  s.link.notice ≠ none → t.notices.slots[sourcePlace src] = some
    { content := content, merged := mergedNext s.notices.slots[sourcePlace src] }

/-- R150: no notice of this source is raised. -/
def State.Untold (s t : State) (src : NoticeSource) : Prop :=
  s.link.notice ≠ none → t.notices.slots[sourcePlace src] = s.notices.slots[sourcePlace src]

/-- R61: the snapshot of all four channels that a CHANNEL_STATE of channel `i` carries; its presence octets rest on log 62. -/
def State.channelSnapshot (t : State) (i : Fin 4) : List Field :=
  [.num 1 (i.val + 1), .num 6 t.now] ++ optTime t.time.stationTime
    ++ ([0, 1, 2, 3] : List (Fin 4)).flatMap fun j =>
      [.num 1 (j.val + 1), .flag t.channels[j].settings.enable, .code (channelStateCode t.channels[j].state)]
      ++ optInt 3 (if t.channels[j].state = .valid then middleValue t.channels[j].window else none)
      ++ [.num 1 t.channels[j].window.length, .num 1 t.channels[j].settings.window, .num 1 t.channels[j].rejections]
      ++ (match t.channels[j].lastChange with
        | none => [.absent, .absent]
        | some x => [.present, .code (channelCauseCode x.cause), .present, .num 6 x.runTime])

/-- R42: the snapshot of all posts that a POST_STATE carries; its presence octets rest on log 62, the octets of its count of
posts in mismatch on log 68. -/
def State.postSnapshot (t : State) : List Field :=
  optNum 1 (t.field.lastSent.map (·.level)) ++ optTime (t.field.lastSent.map (·.runTime))
    ++ [.num 4 ((places 8).filter fun j => enabledPost t j && mismatch t j).length]
    ++ listFields ((places 8).filter (enabledPost t)) (fun j =>
      [.num 1 (j.val + 1), .num 1 t.field.heads[j].config.address, .code (entryStateCode t.field.heads[j].state)]
      ++ (match t.field.heads[j].post with
        | none => [.absent, .absent, .absent]
        | some q => [.present, .num 1 q.displayed, .present, .flag q.siren, .present, .flag q.fault])
      ++ [.flag (mismatch t j)])

/-- R70: the content of a STAGE_QUALITY, its cause QUALITY where the quality has changed and BLIND otherwise. -/
def State.qualitySnapshot (t : State) (changed : Bool) : List Field :=
  [.code (if changed = true then 0 else 1), .code (qualityCode t.stage.quality)]
    ++ optField t.stage.previousQuality (fun q => .code (qualityCode q)) ++ optInt 3 t.stage.stage
    ++ optNum 4 t.stage.spread
    ++ [.flag t.stage.disagree,
        .bits 1 (numberMask (((places 4).filter fun i => t.stage.items[i].state == .valid).map fun i => i.val + 1)),
        .num 1 t.stage.settings.required]
    ++ optInt 3 t.stage.rate
    ++ listFields ((places 8).filter fun i => t.warning.rules[i].blind) (fun i => [.num 1 (i.val + 1)])
    ++ [.num 6 t.now] ++ optTime t.time.stationTime

/-- R69, R70, R88: STAGE_QUALITY is raised, by an event that goes from `s` to `t`, when the quality or the BLIND flag of a
rule has changed, and only then; what stands in the slot is told last, with cause QUALITY when the quality changed. -/
def State.QualityTold (s t : State) : Prop :=
  s.link.notice ≠ none →
    (t.stage.quality ≠ s.stage.quality ∨ (∃ i : Fin 8, t.warning.rules[i].blind ≠ s.warning.rules[i].blind) →
      ∃ x, t.notices.slots[sourcePlace .stageQuality] = some x
        ∧ x.content = t.qualitySnapshot (t.stage.quality != s.stage.quality))
    ∧ (t.stage.quality = s.stage.quality → (∀ i : Fin 8, t.warning.rules[i].blind = s.warning.rules[i].blind) →
      t.notices.slots[sourcePlace .stageQuality] = s.notices.slots[sourcePlace .stageQuality])

/-- R65, R69, R77, R85, R89, R173: an event that goes from `s` to `t` has run the vote over the channel items and the
settings of `u`, under the ranks held, and handed on what changed. A changed station stage is the new stage input, every
enabled STAGE rule has judged it, an enabled RATE rule the rate of the event record where one was appended (log 34), the
level is held, and a met stage wake condition has woken the part. -/
def State.Voted (s t : State) (u : StageUnit) : Prop :=
  ∃ v : StageUnit, v = voted (fun i => t.channels[i].settings.rank) u
    ∧ t.stage.items = u.items ∧ t.stage.settings = u.settings ∧ t.stage.stage = v.stage ∧ t.stage.spread = v.spread
    ∧ t.stage.disagree = v.disagree ∧ t.stage.quality = v.quality ∧ t.stage.previousQuality = v.previousQuality
    ∧ t.stage.chosen = v.chosen
    ∧ (v.stage = s.stage.stage → sameBut s.warning t.warning ∧ t.stage.ring = s.stage.ring
        ∧ t.stage.waiting = s.stage.waiting ∧ t.supervisor = s.supervisor)
    ∧ (v.stage ≠ s.stage.stage → t.warning.stageInput = v.stage ∧ t.LevelHeld
        ∧ (∀ i : Fin 8, t.warning.rules[i] =
            if s.warning.rules[i].definition.enable = false then s.warning.rules[i]
            else if s.warning.rules[i].definition.kind = .stage then handRule s.now v.stage s.warning.rules[i]
            else if t.stage.nextSequence = s.stage.nextSequence then s.warning.rules[i]
            else handRule s.now t.stage.rate s.warning.rules[i])
        ∧ (∀ x, v.stage = some x → s.supervisor.quiet = .quiet → s.supervisor.wake.stage = true →
            s.supervisor.wake.wakeStage ≤ x → t.supervisor.quiet = .woken ∧ t.supervisor.wakeOutput = true))
    ∧ s.QualityTold t

/-- R60, R61: an event at channel `i` that goes from `s` to `t`: a changed state or filtered value is handed over and voted,
and one that is neither leaves the station stage unit and the rules as they were; CHANNEL_STATE is raised when the state
changed, and only then. -/
def State.ChannelHanded (s t : State) (i : Fin 4) : Prop :=
  (t.channels[i].state ≠ s.channels[i].state ∨ filteredValue t.channels[i] ≠ filteredValue s.channels[i] →
      s.Voted t { s.stage with
        items := s.stage.items.set i { state := t.channels[i].state, filtered := filteredValue t.channels[i] } })
  ∧ (t.channels[i].state = s.channels[i].state → filteredValue t.channels[i] = filteredValue s.channels[i] →
      t.stage = s.stage ∧ sameBut s.warning t.warning ∧ t.supervisor = s.supervisor ∧ s.Untold t .stageQuality)
  ∧ (t.channels[i].state ≠ s.channels[i].state → s.Told t .channelState (t.channelSnapshot i))
  ∧ (t.channels[i].state = s.channels[i].state → s.Untold t .channelState)

/-- R27, R72, R172: from `s` a valid host frame has ended quiet mode, where it was in force: NORMAL with WAKE low; the polls
and the record timer brought forward to their normal intervals, and an enabled entry whose next-due time was absent due at
once. Outside quiet mode none of them is touched. -/
def State.QuietEnded (s t : State) : Prop :=
  t.supervisor = (if s.supervisor.quiet = .normal then s.supervisor
    else { s.supervisor with quiet := .normal, wakeOutput := false })
  ∧ t.stage = (if s.supervisor.quiet = .normal then s.stage
    else { s.stage with recordExpiry := min s.stage.recordExpiry (s.now + s.stage.settings.normalInterval * 1000) })
  ∧ ∀ i : Fin 8, t.field.heads[i] =
      if s.supervisor.quiet = .normal ∨ s.field.heads[i].config.enable = false then s.field.heads[i]
      else { s.field.heads[i] with nextDue := some (match s.field.heads[i].nextDue with
        | none => s.now
        | some d => min d (s.now + s.field.heads[i].config.normal * 1000)) }

/-- R145: the content of the RUN_PROGRESS of `v`, stored from `s` in this run state. -/
def State.progressOf (s : State) (v : VerticalResult) (runState : RunState) : List Field :=
  [.num 6 ((s.run.start.map (·.runTime)).getD 0 : Nat), .num 1 v.index] ++ optNum 4 v.depth ++ optNum 2 v.mean
    ++ optField v.skip (fun r => .code (skipCode r))
    ++ [.num 1 (s.run.verticals.length + 1 : Nat), .num 1 s.gauging.plan.entries.length,
        .code (runStateCode runState), .num 6 s.now]
    ++ optTime s.time.stationTime

/-- R146: the content of the RUN_END of a run, its return outcome numbered as log 59 says. -/
def endOf (r : Run) : List Field :=
  [.code (if r.state = .complete then 0 else 1)] ++ optField r.reason (fun x => .code (abortCode x))
    ++ [.code (if r.outcome = some .faulted then 1 else 0), .num 6 ((r.start.map (·.runTime)).getD 0 : Nat),
        .num 6 ((r.finish.map (·.runTime)).getD 0 : Nat)]
    ++ optTime (r.start.bind (·.stationTime)) ++ optTime (r.finish.bind (·.stationTime))
    ++ [.num 1 r.verticals.length, .num 1 (r.verticals.filter fun v => v.skip.isNone).length,
        .num 1 (r.verticals.length - (r.verticals.filter fun v => v.skip.isNone).length)]
    ++ optNum 4 r.results.discharge ++ optNum 4 r.results.area ++ optNum 4 r.results.mean
    ++ optInt 3 (r.start.bind (·.stage)) ++ optInt 3 (r.finish.bind (·.stage)) ++ optInt 4 r.results.gaugeHeight
    ++ [.bits 1 (flagMask [r.tooFew, r.stageChanging, r.verticals.any fun v => v.points.any (·.flags.timingRC)])]

/-- R119 to R121, R136, R138, R140: from `s`, as the event itself left it, the controller takes a fault of this cause: every
output removed, every timer cancelled, FAULTED with the fault record of this moment, MOTION_FAULT (with the vertical in
hand of an ACTIVE run, log 42). An ACTIVE run is aborted MOTION_FAULT with its return FAULTED, its vertical past TRAVEL
stored SKIPPED with RUN_PROGRESS, and RUN_END; a RETURNING one is COMPLETE and the return of an ABORTED one ends, each
with return outcome FAULTED and RUN_END. Any other run is not touched. -/
def State.Faults (s t : State) (cause : FaultCause) : Prop :=
  (((s.setGauging t.gauging).setCable t.cable).setTime t.time).Keeps t
  ∧ t.cable = { s.cable with
      motion := .faulted, drive := none, stall := none, hold := none, settle := none
      fault := some
        { cause := cause, motion := s.cable.motion, reelTop := s.cable.switches.reelTop, outputs := s.cable.drive
          position := positionMm s.cable, payout := payoutMm s.cable, depth := depthMm s.cable, runTime := s.now
          stationTime := s.time.stationTime } }
  ∧ s.Told t .motionFault
      ([.code (faultCode cause), .code (motionCode s.cable.motion)]
        ++ optField (phaseCode s.cable.motion s.cable.switches.reelTop) .code
        ++ (match s.cable.drive with
          | none => [.count 0]
          | some d => [.count 1, .code (driveCode d)])
        ++ optInt 4 (positionMm s.cable) ++ optInt 4 (payoutMm s.cable) ++ optInt 4 (depthMm s.cable)
        ++ optNum 1 (if s.run.state = .active then some s.run.vertical.index else none)
        ++ [.num 6 s.now] ++ optTime s.time.stationTime)
  ∧ (s.run.state = .active → t.gauging.plan = s.gauging.plan ∧ t.run.state = .aborted
      ∧ t.run.reason = some .motionFault ∧ t.run.outcome = some .faulted ∧ t.run.phase = none
      ∧ t.run.exposure = none ∧ t.run.start = s.run.start
      ∧ t.run.finish = some { runTime := s.now, stationTime := s.time.stationTime, stage := s.stage.stage
                              quality := s.stage.quality }
      ∧ t.time = (if s.run.exposure = none then s.time else { s.time with exposureSpan := none })
      ∧ (s.run.phase = none ∨ s.run.phase = some .travel →
          t.run.verticals = s.run.verticals ∧ s.Untold t .runProgress)
      ∧ (∀ p, s.run.phase = some p → p ≠ .travel → ∃ v : VerticalResult, t.run.verticals = s.run.verticals ++ [v]
          ∧ v.index = s.run.vertical.index ∧ v.depth = s.run.vertical.depth ∧ v.points = s.run.vertical.points
          ∧ v.mean = none ∧ v.skip = some (s.run.vertical.marked.getD .motionFault)
          ∧ s.Told t .runProgress (s.progressOf v .aborted))
      ∧ s.Told t .runEnd (endOf t.run))
  ∧ (s.run.state = .returning → t.time = s.time ∧ t.run.state = .complete ∧ t.run.outcome = some .faulted
      ∧ t.run.verticals = s.run.verticals
      ∧ t.run.finish = some { runTime := s.now, stationTime := s.time.stationTime, stage := s.stage.stage
                              quality := s.stage.quality }
      ∧ s.Told t .runEnd (endOf t.run))
  ∧ (s.run.state = .aborted → s.run.outcome = some .inProgress → t.time = s.time
      ∧ t.gauging = { s.gauging with run := { s.run with outcome := some .faulted } }
      ∧ s.Told t .runEnd (endOf t.run))
  ∧ (s.run.state = .idle ∨ s.run.state = .complete
      ∨ (s.run.state = .aborted ∧ s.run.outcome ≠ some .inProgress) →
      t.gauging = s.gauging ∧ t.time = s.time ∧ s.Untold t .runEnd)

/-- R129, R135, R145: the vertical in hand is stored as `v` with RUN_PROGRESS, and an ACTIVE run has the carriage travel out
to the next entry. -/
def State.GoesOn (s t : State) (v : VerticalResult) : Prop :=
  t.gauging.plan = s.gauging.plan ∧ t.run.state = .active ∧ t.run.phase = some .travel
    ∧ t.run.vertical = freshVertical (s.run.vertical.index + 1) ∧ t.run.verticals = s.run.verticals ++ [v]
    ∧ t.cable.motion = .travelling (planEntry s (s.run.vertical.index + 1)).distance
    ∧ t.cable.drive = some .traverseOut ∧ t.cable.stall = some (s.now + s.cable.settings.stallTime * 1000)
    ∧ s.Told t .runProgress (s.progressOf v .active)

/-- R135, R136, R145: the vertical in hand is stored as `v` with RUN_PROGRESS, the last of the run, which has the carriage
retract to home. -/
def State.Returns (s t : State) (v : VerticalResult) : Prop :=
  t.gauging.plan = s.gauging.plan ∧ t.run.state = .returning ∧ t.run.outcome = some .inProgress ∧ t.run.phase = none
    ∧ t.run.vertical = noVertical ∧ t.run.verticals = s.run.verticals ++ [v] ∧ t.cable.motion = .retracting
    ∧ t.cable.drive = some .traverseIn ∧ t.cable.stall = some (s.now + s.cable.settings.stallTime * 1000)
    ∧ s.Told t .runProgress (s.progressOf v .active)

end Sys2Proof.Machine
end

