-- ==== Sys2Proof/WellFormed.lean ====
section
/-! DEFINITION. Well-formed commands: every operand of a request fits the octets that R164 gives its field, an event names an
entry, channel or rule that exists, and a run of octets is no longer than a frame. Meanings are total all the same. -/

namespace Sys2Proof

/-- A whole number without a sign that so many octets hold. -/
def natFits (octets n : Nat) : Bool := decide (n < 256 ^ octets)

/-- A whole number that so many octets hold in two's complement. -/
def intFits (octets : Nat) (v : Int) : Bool :=
  decide (-(256 ^ octets : Int) ≤ 2 * v ∧ 2 * v < (256 ^ octets : Int))

/-- An optional operand that is absent or fits. -/
def optFits (octets : Nat) (x : Option Nat) : Bool := x.all (natFits octets)

/-- Every one of a list of operands fits one octet. -/
def octetsFit (xs : List Nat) : Bool := xs.all (natFits 1)

/-- Every one of a list of operands fits two octets. -/
def pairsFit (xs : List Nat) : Bool := xs.all (natFits 2)

def FieldSetArgs.fits (a : FieldSetArgs) : Bool :=
  octetsFit [a.ownAddress, a.acceptBroadcast, a.inverseGroups, a.passAllGroups, a.postGroup, a.capture,
             a.backoffBits, a.singleAttempt] && natFits 2 a.groupSet

def HeadSetArgs.fits (a : HeadSetArgs) : Bool :=
  octetsFit [a.entry, a.enable, a.address, a.kind] && optFits 1 a.channel && pairsFit [a.normal, a.quiet]

def HeadParamArgs.fits (a : HeadParamArgs) : Bool :=
  octetsFit [a.entry, a.operation, a.parameter] && a.value.all (intFits 4)

def ChannelSetArgs.fits (a : ChannelSetArgs) : Bool :=
  octetsFit [a.channel, a.enable, a.sense, a.window, a.rank] && natFits 3 a.gain && intFits 3 a.offset
    && intFits 3 a.minimum && intFits 3 a.maximum && pairsFit [a.stepLimit, a.staleTime]

def StageSetArgs.fits (a : StageSetArgs) : Bool :=
  octetsFit [a.method, a.required] && pairsFit [a.agreement, a.normalInterval, a.quietInterval, a.rateWindow]

def RuleSetArgs.fits (a : RuleSetArgs) : Bool :=
  octetsFit [a.rule, a.enable, a.kind, a.level] && intFits 3 a.setThreshold && intFits 3 a.clearThreshold
    && pairsFit [a.confirmTime, a.clearDelay]

def WarningSetArgs.fits (a : WarningSetArgs) : Bool :=
  octetsFit [a.sirenLevel, a.withdrawLevel] && pairsFit [a.sirenRun, a.repeatInterval]

def CarriageSetArgs.fits (a : CarriageSetArgs) : Bool :=
  pairsFit [a.traverseScale, a.reelScale, a.weightOffset, a.maxDepth] && natFits 3 a.span
    && octetsFit [a.tolerance, a.stallTime, a.settleTime]

def Segment.fits (g : Segment) : Bool := natFits 3 g.lower && intFits 2 g.intercept && natFits 3 g.pitch

/-- METER_SET: the segments' count is one octet, and the whole payload is at most 200 octets. -/
def MeterSetArgs.fits (a : MeterSetArgs) : Bool :=
  octetsFit [a.ratio, a.startRate] && decide (a.segments.length ≤ 24) && a.segments.all Segment.fits

def PlanPutArgs.fits (a : PlanPutArgs) : Bool :=
  octetsFit [a.index, a.method] && natFits 3 a.distance && optFits 2 a.depth && optFits 2 a.coefficient
    && optFits 1 a.exposure

def WakeSetArgs.fits (a : WakeSetArgs) : Bool :=
  octetsFit [a.levelChange, a.stage, a.rate, a.levelFive, a.postFault] && intFits 3 a.wakeStage
    && intFits 3 a.wakeRate

def NoticeItem.fits (x : NoticeItem) : Bool := octetsFit [x.source, x.enable, x.level]

/-- Every operand of a request fits its field. -/
def Request.wellFormed : Request → Bool
  | .linkSet rate => natFits 2 rate
  | .timeSet value => natFits 6 value
  | .timeSource source => natFits 1 source
  | .trimSet correction => intFits 2 correction
  | .fieldSet a => a.fits
  | .headSet a => a.fits
  | .headRead entry => natFits 1 entry
  | .headParam a => a.fits
  | .channelSet a => a.fits
  | .channelRead channel => natFits 1 channel
  | .stageSet a => a.fits
  | .recordRead start count => natFits 4 start && natFits 1 count
  | .ruleSet a => a.fits
  | .ruleRead rule => natFits 1 rule
  | .warningSet a => a.fits
  | .warningFloor floor => natFits 1 floor
  | .monitorSet enable exponent => octetsFit [enable, exponent]
  | .carriageSet a => a.fits
  | .meterSet a => a.fits
  | .planClear exposure changeLimit => natFits 1 exposure && natFits 2 changeLimit
  | .planPut a => a.fits
  | .planRead index => natFits 1 index
  | .resultRead vertical => natFits 1 vertical
  | .wakeSet a => a.fits
  | .noticeSet master item => natFits 1 master && item.all NoticeItem.fits
  | .hold units => natFits 2 units
  | .identify | .timeRead | .captureRead | .stageRead | .warningRead | .warningAck | .carriageHome
  | .carriageRead | .runStart | .runSkip | .runAbort | .runRead | .quiet | .causeRead | .causeClear
  | .noticeDone | .save | .restart => true

/-- A number from 1 to the size of a table. -/
def numbers (size n : Nat) : Bool := decide (1 ≤ n ∧ n ≤ size)

/-- The operands of a command are ones the part can meet. -/
def Instr.wellFormed : Instr → Bool
  | .powerOn => true
  | .brownout => true
  | .resetIn => true
  | .restartRequest => true
  | .crystalEdge => true
  | .edgeGapExpiry => true
  | .qualificationExpiry => true
  | .hostFrameArrival octets => decide (octets.length ≤ 205)
  | .hostFrameGapExpiry => true
  | .hostFrameSent => true
  | .unknownKind kind _ => (Machine.requestReader kind.toNat).isNone
  | .identify _ => true
  | .linkSet _ rate => (Request.linkSet rate).wellFormed
  | .timeSet _ value => (Request.timeSet value).wellFormed
  | .timeRead _ => true
  | .timeSource _ source => (Request.timeSource source).wellFormed
  | .trimSet _ correction => (Request.trimSet correction).wellFormed
  | .fieldSet _ args => (Request.fieldSet args).wellFormed
  | .headSet _ args => (Request.headSet args).wellFormed
  | .headRead _ entry => (Request.headRead entry).wellFormed
  | .headParam _ args => (Request.headParam args).wellFormed
  | .captureRead _ => true
  | .channelSet _ args => (Request.channelSet args).wellFormed
  | .channelRead _ channel => (Request.channelRead channel).wellFormed
  | .stageSet _ args => (Request.stageSet args).wellFormed
  | .stageRead _ => true
  | .recordRead _ start count => (Request.recordRead start count).wellFormed
  | .ruleSet _ args => (Request.ruleSet args).wellFormed
  | .ruleRead _ rule => (Request.ruleRead rule).wellFormed
  | .warningSet _ args => (Request.warningSet args).wellFormed
  | .warningRead _ => true
  | .warningAck _ => true
  | .warningFloor _ floor => (Request.warningFloor floor).wellFormed
  | .monitorSet _ enable exponent => (Request.monitorSet enable exponent).wellFormed
  | .carriageSet _ args => (Request.carriageSet args).wellFormed
  | .carriageHome _ => true
  | .carriageRead _ => true
  | .meterSet _ args => (Request.meterSet args).wellFormed
  | .planClear _ exposure changeLimit => (Request.planClear exposure changeLimit).wellFormed
  | .planPut _ args => (Request.planPut args).wellFormed
  | .planRead _ index => (Request.planRead index).wellFormed
  | .runStart _ => true
  | .runSkip _ => true
  | .runAbort _ => true
  | .runRead _ => true
  | .resultRead _ vertical => (Request.resultRead vertical).wellFormed
  | .quiet _ => true
  | .wakeSet _ args => (Request.wakeSet args).wellFormed
  | .causeRead _ => true
  | .causeClear _ => true
  | .noticeSet _ master item => (Request.noticeSet master item).wellFormed
  | .noticeDone _ => true
  | .hold _ units => (Request.hold units).wellFormed
  | .save _ => true
  | .restart _ => true
  | .saveWriteEnd _ => true
  | .fieldFrameReceived octets => decide (octets.length ≤ 54)
  | .fieldCharacterGap => true
  | .pollDue entry => numbers 8 entry
  | .lineIdle => true
  | .deferralExpiry => true
  | .collision => true
  | .backoffExpiry => true
  | .fieldFrameSent => true
  | .replyWindowExpiry => true
  | .warnRefreshExpiry => true
  | .staleExpiry channel => numbers 4 channel
  | .recordTimerExpiry => true
  | .waitingAppend => true
  | .confirmTimerExpiry rule => numbers 8 rule
  | .clearTimerExpiry rule => numbers 8 rule
  | .sirenRunExpiry => true
  | .repeatExpiry => true
  | .monitorExpiry => true
  | .traversePulse _ => true
  | .reelPulse _ => true
  | .homeLimitClose => true
  | .farLimitClose => true
  | .reelTopChange _ => true
  | .surfaceContactClose => true
  | .bottomContactChange _ => true
  | .winchOverload => true
  | .stallExpiry => true
  | .holdTimerExpiry => true
  | .settleExpiry => true
  | .meterContact => true
  | .exposureEnding => true
  | .lateLimitExpiry => true
  | .startWaitExpiry => true
  | .holdExpiry => true
  | .hostCharacterReceived _ _ => true
  | .fieldCharacterReceived _ => true
  | .homeLimitOpen => true
  | .farLimitOpen => true
  | .surfaceContactOpen => true
  | .winchOverloadClear => true

end Sys2Proof
end

