-- ==== Sys2Proof/Certificates/Slice0/Obligations.lean ====
section
/-! DEFINITION. The statements for the provers, each over all states and operands that meet its premises. A statement about a
request speaks of it with no request in hand (`State.Calm`); `State.Keeps` says what stays as it was. -/

open Sys2Proof Sys2Proof.Machine

/-- The model's own queue (log 1, the model's choice) is first in, first out: a step with `c` in front is `exec c` with
the queue's rest. -/
def Obligations.StepTakesTheFrontCommand : Prop :=
  ∀ (c : Instr) (s : State), step (s.setPending (c :: s.pending)) = exec c s

/-- Every command has a next state, and none but the step itself touches the queue. On an empty queue a step is the first
due event of the part's own, else one millisecond of the reference. This is the model's choice (log 1). -/
def Obligations.QueueStandsAndIdleStep : Prop :=
  (∀ (c : Instr) (s : State), ∃ t, exec c s = .next t ∧ t.pending = s.pending)
  ∧ (∀ s : State, s.pending = [] →
      (dueEvents s = [] → step s = .next (s.setTime (tickTime s.time)))
        ∧ ∀ c rest, dueEvents s = c :: rest → step s = exec c s.freeTaken)

/-- Sanity: POWER_ON on the machine as it stands after POWER_ON gives that machine, and its four invariants hold. -/
def Obligations.ResetState : Prop :=
  exec .powerOn State.reset = .next State.reset ∧ State.reset.LevelHeld ∧ State.reset.RingHeld ∧ State.reset.DriveHeld
    ∧ State.reset.BeaconsHeld

/-- R168, R104, R123, R147, R81, 1.7: what every cold reset leaves, whatever stood before; POWER_ON clears the other cause
flags and BROWNOUT keeps them. That the store is found as it was left is read from the spec (log 43). R166, R168 to
R170: every reset loads every stored setting, from a VALID store, else the factory defaults (R17, 2.4, R45, R79, R82,
R97, R99, R107, R124, R127, R148, R158, R173); the user correction at a cold reset alone (R1). The store is kept and
the notice on its way is RESTART, raised last: its next sequence is the one the reset leaves (log 72). -/
def Obligations.ColdReset : Prop :=
  (∀ (s : State) (c : Instr), c = .powerOn ∨ c = .brownout → ∃ t, exec c s = .next t
      ∧ t.time.runTime = 0 ∧ t.time.stationTime = none ∧ t.time.source = .rc ∧ t.time.arm = true
      ∧ t.time.crystal = .starting ∧ t.time.stepPending = false ∧ t.time.recordMark = true
      ∧ t.stage.ring = [] ∧ t.stage.nextSequence = 0 ∧ t.stage.stage = none ∧ t.stage.warmRestart = false
      ∧ t.warning.level = 0 ∧ t.warning.floor = 0 ∧ t.warning.spell = none ∧ t.warning.siren = .off
      ∧ t.warning.autonomous = false ∧ t.warning.lastChange = none
      ∧ (∀ i : Fin 8, t.warning.rules[i].state = .idle ∧ t.warning.rules[i].timer = .none
          ∧ t.warning.rules[i].blind = t.warning.rules[i].definition.enable)
      ∧ t.cable.motion = .unreferenced ∧ t.cable.drive = none ∧ t.cable.positionKnown = false
      ∧ t.cable.fault = none ∧ t.gauging.run = noRun ∧ t.field.lastSent = none ∧ t.field.captured = []
      ∧ t.field.management = none ∧ t.supervisor.quiet = .normal ∧ t.supervisor.saving = none
      ∧ t.supervisor.wakeOutput = false ∧ t.notices.hold = none ∧ t.link.inHand = none ∧ t.link.reply = none
      ∧ t.supervisor.storeFound = s.supervisor.storeValid
      ∧ t.supervisor.causes = (if c = .powerOn then { noCauses with powerOn := true }
          else { s.supervisor.causes with brownout := true }))
  ∧ (∀ (s : State) (c : Instr) (cold : Bool) (cause : Nat) (x : Stored),
      (c = .powerOn ∧ cold = true ∧ cause = 0) ∨ (c = .brownout ∧ cold = true ∧ cause = 1)
        ∨ (c = .resetIn ∧ cold = false ∧ cause = 2)
        ∨ (c = .restartRequest ∧ s.link.restart = .due ∧ cold = false ∧ cause = 3) →
      x = (if s.supervisor.storeValid = true then s.supervisor.store else
        { field := { ownAddress := 16, acceptBroadcast := true, groupSet := 0, inverseGroups := false
                     passAllGroups := false, postGroup := 128, capture := false, backoffBits := 6
                     singleAttempt := false }
          heads := Vector.replicate 8 { enable := false, address := 1, kind := .stage, channel := some 1, normal := 60
                                        quiet := 300 }
          channels := Vector.ofFn fun i =>
            { enable := false, gain := 1000000, offset := 0, sense := .direct, minimum := -999999, maximum := 999999
              stepLimit := 0, window := 5, staleTime := 300, rank := i.val + 1 }
          stage := { method := .middle, agreement := 0, required := 2, normalInterval := 60, quietInterval := 300
                     rateWindow := 900 }
          rules := Vector.replicate 8 { enable := false, kind := .stage, level := 1, setThreshold := 999999
                                        clearThreshold := 999999, confirmTime := 0, clearDelay := 0 }
          warning := { sirenLevel := 2, sirenRun := 120, repeatInterval := 900, withdrawLevel := 2 }
          monitor := { enable := true, exponent := 3 }, correction := 0
          carriage := { traverseScale := none, reelScale := none, span := none, tolerance := 50, stallTime := 5
                        weightOffset := 150, maxDepth := none, settleTime := 10 }
          rating := none, plan := { entries := [], defaultExposure := 60, changeLimit := 50 }
          notices := { master := true
                       sources := #v[5, 5, 5, 3, 3, 4, 2, 2, 2, 2, 1, 1, 1, 1, 1].map fun n =>
                         { enable := true, level := n } }
          wake := { levelChange := true, stage := false, wakeStage := 999999, rate := false, wakeRate := 99999
                    levelFive := true, postFault := true }
          rate := 38400 }) →
      ∃ t, exec c s = .next t
        ∧ t.field.settings = x.field ∧ (∀ i : Fin 8, t.field.heads[i].config = x.heads[i])
        ∧ (∀ i : Fin 4, t.channels[i].settings = x.channels[i]) ∧ t.stage.settings = x.stage
        ∧ (∀ i : Fin 8, t.warning.rules[i].definition = x.rules[i]) ∧ t.warning.settings = x.warning
        ∧ t.warning.monitorSettings = x.monitor
        ∧ t.time.correction = (if cold = true then x.correction else s.time.correction)
        ∧ t.cable.settings = x.carriage ∧ t.gauging.rating = x.rating ∧ t.gauging.plan = x.plan
        ∧ t.notices.settings = x.notices ∧ t.supervisor.wake = x.wake
        ∧ t.link.rateHeld = x.rate ∧ t.link.rateInForce = x.rate
        ∧ t.supervisor.store = s.supervisor.store ∧ t.supervisor.storeValid = s.supervisor.storeValid
        ∧ t.supervisor.storeFound = s.supervisor.storeValid ∧ t.link.line = some .notice
        ∧ t.link.notice = some
            { kind := 0xC1, tag := 0
              payload := [.num 1 0, .code (if cold = true then 0 else 1), .code cause,
                  .bits 1 (causeMask t.supervisor.causes), .flag (!s.supervisor.storeValid),
                  .flag s.supervisor.saving.isSome, .num 6 t.now] ++ optTime t.time.stationTime
                ++ [.num 4 t.stage.nextSequence] })

/-- R168, R169, R1, R5, R105, R81: what a warm reset keeps, and what it loses, when no rule holds the level above the
floor; RESTART_REQUEST does it when a RESTART has made it due. R105, R91, R73, R81: a warm reset judges no rule: one
whose stored definition is the held one and enabled keeps its state, its last value and its timer, paused, and is
BLIND; any other starts over. The level is computed; where a rule that started over held it, the level change is
recorded, and the event record carries EVENT and WARM_RESTART; it waits while no later ms has come. -/
def Obligations.WarmReset : Prop :=
  (∀ (s : State) (c : Instr), c = .resetIn ∨ (c = .restartRequest ∧ s.link.restart = .due) →
      s.LevelHeld → s.warning.level = s.warning.floor → ∃ t, exec c s = .next t
      ∧ t.time = { s.time with activeTrim := Config.factoryTrim, exposureSpan := none }
      ∧ t.stage.ring = s.stage.ring ∧ t.stage.nextSequence = s.stage.nextSequence ∧ t.stage.warmRestart = true
      ∧ t.stage.stage = none ∧ t.stage.quality = .none ∧ t.stage.waiting = []
      ∧ t.warning.level = s.warning.level ∧ t.warning.floor = s.warning.floor
      ∧ t.warning.lastChange = s.warning.lastChange ∧ t.warning.siren = .off ∧ t.warning.autonomous = false
      ∧ t.cable.motion = .unreferenced ∧ t.cable.drive = none ∧ t.gauging.run = noRun
      ∧ t.supervisor.quiet = .normal ∧ t.supervisor.saving = none ∧ t.link.inHand = none ∧ t.link.waiting = none
      ∧ t.supervisor.causes = (if c = .resetIn then { s.supervisor.causes with resetIn := true }
          else { s.supervisor.causes with restartRequest := true }))
  ∧ (∀ (s : State) (c : Instr), c = .resetIn ∨ (c = .restartRequest ∧ s.link.restart = .due) → s.LevelHeld →
      ∃ t, exec c s = .next t ∧ t.LevelHeld ∧ t.warning.level ≤ s.warning.level ∧ t.warning.floor = s.warning.floor
      ∧ t.warning.siren = .off
      ∧ (∀ (i : Fin 8) (d : RuleDef),
          d = (if s.supervisor.storeValid = true then s.supervisor.store else defaultStored).rules[i] →
          t.warning.rules[i].definition = d ∧ t.warning.rules[i].blind = d.enable
          ∧ (s.warning.rules[i].definition = d → d.enable = true →
              t.warning.rules[i].state = s.warning.rules[i].state
                ∧ t.warning.rules[i].lastValue = s.warning.rules[i].lastValue
                ∧ t.warning.rules[i].timer = (match s.warning.rules[i].timer with
                    | .running e => .paused (e - s.now)
                    | x => x))
          ∧ (s.warning.rules[i].definition ≠ d ∨ d.enable = false →
              t.warning.rules[i].state = .idle ∧ t.warning.rules[i].timer = .none
                ∧ t.warning.rules[i].lastValue = none))
      ∧ (t.warning.level = s.warning.level → t.stage.ring = s.stage.ring ∧ t.stage.waiting = []
          ∧ t.warning.lastChange = s.warning.lastChange ∧ t.stage.warmRestart = true)
      ∧ (t.warning.level < s.warning.level →
          (∃ i : Fin 8, t.warning.lastChange = some
              { oldLevel := s.warning.level, newLevel := t.warning.level, cause := .rule i, runTime := s.now }
            ∧ s.warning.rules[i].definition.level = s.warning.level
            ∧ (s.warning.rules[i].state = .active ∨ s.warning.rules[i].state = .clearing)
            ∧ t.warning.rules[i].state = .idle)
          ∧ (t.warning.beaconA = true ↔ 1 ≤ t.warning.level) ∧ (t.warning.beaconB = true ↔ 2 ≤ t.warning.level)
          ∧ ((∀ r, s.stage.ring.getLast? = some r → r.runTime < s.now) →
              ∃ r, t.stage.ring = (if s.stage.ring.length < 256 then s.stage.ring else s.stage.ring.drop 1) ++ [r]
                ∧ r.sequence = s.stage.nextSequence ∧ r.runTime = s.now ∧ r.stage = none ∧ r.quality = .none
                ∧ r.rate = none ∧ r.level = t.warning.level ∧ r.flags.event = true ∧ r.flags.warmRestart = true
                ∧ r.flags.runActive = false ∧ r.flags.autonomous = false ∧ t.stage.warmRestart = false)
          ∧ ((∃ r, s.stage.ring.getLast? = some r ∧ s.now ≤ r.runTime) →
              t.stage.ring = s.stage.ring ∧ t.stage.waiting = [.event] ∧ t.stage.warmRestart = true)))

/-- R4: an edge of the crystal at the monitor; under RC it does nothing else, and no other block sees it. R4 to R6, R8,
R9, R11, R13: the two expiries of the crystal monitor, outside quiet mode, with the TIME_SOURCE notice each raises. At
a fallback run time and station time count the ms since the last edge, or since XTAL was chosen where that is later
(log 50, the model's choice), so that none is lost and none counted twice. The cause octets of TIME_SOURCE, 1 for
CRYSTAL_STOPPED and 2 for CRYSTAL_RETURNED, follow R8's table: R8 has two orders, and log 51 is the model's choice. -/
def Obligations.CrystalMonitor : Prop :=
  (∀ s : State, ∃ t, exec .crystalEdge s = .next t ∧ t = s.setTime t.time
      ∧ t.time.edgeGap = some (s.time.reference + 4)
      ∧ (s.time.crystal = .stopped →
          t.time.crystal = .starting ∧ t.time.qualification = some (s.time.reference + 1000))
      ∧ (s.time.crystal ≠ .stopped →
          t.time.crystal = s.time.crystal ∧ t.time.qualification = s.time.qualification)
      ∧ t.time.source = s.time.source ∧ t.time.reference = s.time.reference ∧ t.time.arm = s.time.arm
      ∧ (s.time.source = .xtal → t.time.edgeless = 0)
      ∧ (s.time.source = .rc → t.time.runTime = s.time.runTime ∧ t.time.stationTime = s.time.stationTime
          ∧ t.time.groupCycles = s.time.groupCycles ∧ t.time.edgeless = s.time.edgeless))
  ∧ ((∀ s : State, s.supervisor.quiet ≠ .quiet → s.time.crystal ≠ .stopped →
        reached s.time.edgeGap s.time.reference = true →
        ∃ t, exec .edgeGapExpiry s = .next t ∧ (s.setTime t.time).Keeps t
          ∧ t.time.crystal = .stopped ∧ t.time.qualification = none
          ∧ (s.time.crystal = .running → s.time.source = .xtal →
              t.time.source = .rc ∧ t.time.recordMark = true
                ∧ t.time.exposureSpan = (s.time.exposureSpan.map fun _ => true)
                ∧ (s.time.runTime + s.time.edgeless ≤ Config.lastRunTime →
                    t.time.runTime = s.time.runTime + s.time.edgeless)
                ∧ ((∀ v, s.time.stationTime = some v → v ≤ Config.lastStationTime) →
                    t.time.stationTime
                      = s.time.stationTime.map fun v => min (v + s.time.edgeless) Config.lastStationTime))
          ∧ (s.time.crystal = .starting ∨ s.time.source = .rc →
              t.time.runTime = s.time.runTime ∧ t.time.stationTime = s.time.stationTime
                ∧ t.time.source = s.time.source ∧ t.time.recordMark = s.time.recordMark)
          ∧ (s.time.crystal = .starting → t = s.setTime t.time)
          ∧ (s.time.crystal = .running → s.link.notice ≠ none →
              ∃ x, t.notices.slots[sourcePlace .timeSource] = some x
                ∧ x.content = [.code 1, .code 1, .code 2, .code (if t.time.stationTime = none then 0 else 2),
                    .num 6 t.now] ++ optTime t.time.stationTime))
    ∧ (∀ s : State, s.supervisor.quiet ≠ .quiet → s.time.crystal = .starting →
        reached s.time.qualification s.time.reference = true →
        ∃ t, exec .qualificationExpiry s = .next t ∧ t.time.crystal = .running ∧ t.time.arm = false
          ∧ t.time.runTime = s.time.runTime ∧ t.time.recordMark = s.time.recordMark
          ∧ t.time.stationTime = s.time.stationTime ∧ t.time.exposureSpan = s.time.exposureSpan
          ∧ (s.time.arm = true → s.time.source = .rc →
              t.time.source = .xtal ∧ t.time.edgeless = 0 ∧ (s.setTime t.time).freeTaken.Keeps t)
          ∧ (s.time.arm = false ∨ s.time.source = .xtal →
              t.time = { s.time with crystal := .running, qualification := none, arm := false }
                ∧ (s.setTime t.time).Keeps t)
          ∧ (s.link.notice ≠ none → ∃ x source, t.notices.slots[sourcePlace .timeSource] = some x
              ∧ source = (if s.time.arm = true then .xtal else s.time.source)
              ∧ x.content = [.code (if s.time.arm = true then 0 else 2), .code (if source = .xtal then 0 else 1), .code 1,
                  .code (if s.time.stationTime = none then 0 else if source = .xtal then 1 else 2), .num 6 s.now]
                ++ optTime s.time.stationTime)))

/-- R3, R9: under XTAL a whole group of 4,096 crystal cycles advances run time, and station time with it, by 125 ms. One
edge is one cycle (log 11). R3: in a block under RC run time has advanced by nothing at its beginning and by 1,000,000
+ c ms at its end, and it advances by at most 2 ms at each factory-trimmed millisecond. R3, R9: under RC the reference
ticks on: a factory-trimmed ms gives by the formula of its block 0, 1 or 2 ms of run time, and station time goes on
with it; the last ms it gives is counted at its end and one before that within it (log 9). At the j-th tick of a block
run time has advanced by the formula's value exactly. Under XTAL such a tick counts the reference and the ms without
an edge, and run time and station time stand still until an edge or a switch to RC (log 50, the model's choice). R3: run
time stays within 0..2⁴⁸−1 at every tick and edge and over any ms counted; which of its values follows 2⁴⁸−1 is left
free (log 6). -/
def Obligations.RunTimeAdvance : Prop :=
  (∀ t : TimeBase, t.source = .xtal → t.completing = none → t.groupCycles = 0 →
      t.runTime + 125 ≤ Config.lastRunTime →
      (crystalEdge^[4096] t).runTime = t.runTime + 125 ∧ (crystalEdge^[4096] t).groupCycles = 0
        ∧ (crystalEdge^[4096] t).stationTime = t.stationTime.map fun v => min (v + 125) Config.lastStationTime)
  ∧ (∀ (c : Int), -2000 ≤ c → c ≤ 2000 →
      blockAdvance c 0 = 0 ∧ (blockAdvance c 1000000 : Int) = 1000000 + c
        ∧ ∀ j, blockAdvance c j ≤ blockAdvance c (j + 1) ∧ blockAdvance c (j + 1) ≤ blockAdvance c j + 2)
  ∧ ((∀ (t : TimeBase) (n : Nat), t.source = .rc → t.completing = none → t.early = 0 →
      n = blockAdvance t.correction (t.blockCount + 1) - blockAdvance t.correction t.blockCount →
      t.runTime + n ≤ Config.lastRunTime → (∀ v, t.stationTime = some v → v ≤ Config.lastStationTime) →
      tickTime^[max 1 n] t = { t with
          reference := t.reference + 1, blockCount := (t.blockCount + 1) % 1000000, runTime := t.runTime + n
          stationTime := t.stationTime.map fun v => min (v + n) Config.lastStationTime }
        ∧ (n = 2 → tickTime t = { t with
            early := 1, runTime := t.runTime + 1
            stationTime := t.stationTime.map fun v => min (v + 1) Config.lastStationTime }))
    ∧ (∀ (t : TimeBase) (j : Nat), t.source = .rc → t.completing = none → t.early = 0 → t.blockCount = 0 →
      j ≤ 1000000 → t.runTime + blockAdvance t.correction j ≤ Config.lastRunTime →
      -2000 ≤ t.correction → t.correction ≤ 2000 →
      ∃ m, (tickTime^[m] t).runTime = t.runTime + blockAdvance t.correction j
        ∧ (tickTime^[m] t).reference = t.reference + j ∧ (tickTime^[m] t).blockCount = j % 1000000
        ∧ (tickTime^[m] t).early = 0)
    ∧ (∀ t : TimeBase, t.source = .xtal → tickTime t = { t with reference := t.reference + 1, edgeless := t.edgeless + 1 })
    ∧ (∀ s : State, exec .crystalEdge s = .next (s.setTime (crystalEdge s.time))))
  ∧ (∀ (t : TimeBase) (n : Nat), t.runTime ≤ Config.lastRunTime →
      (tickTime t).runTime ≤ Config.lastRunTime ∧ (crystalEdge t).runTime ≤ Config.lastRunTime
        ∧ (countMilliseconds n t).runTime ≤ Config.lastRunTime)

/-- R159, R161, R164, R167: the frame that the encodings give a request is read back as that request, with every operand
at every value its field holds; its arrival is the request's own command. The widths of the operands (log 21) and that
a request's row stands for the arrival of its frame (log 2) are read from the spec by inference. -/
def Obligations.RequestFrameRoundTrip : Prop :=
  ∀ (tag : Byte) (q : Request), q.wellFormed = true →
    hostFrameOf (requestOctets tag q) = some { kind := requestKind q, tag := tag, content := .ok q }
      ∧ ∀ s : State, exec (.hostFrameArrival (requestOctets tag q)) s
          = exec (requestCommand tag q) (s.setLink { s.link with assembling := none })

/-- R159: what the host receiver does with a frame that does not check, with a gap, and with each character. That a gap
not yet due changes nothing (log 12) and that the last character acts as the row of its frame (log 29) are read by
inference. -/
def Obligations.HostReceiver : Prop :=
  (∀ (octets : List Byte) (s : State), hostFrameOf octets = none →
      exec (.hostFrameArrival octets) s = .next (s.setLink { s.link with assembling := none }))
  ∧ (∀ (octets : List Byte) (f : HostFrame) (r : Reason) (s : State), hostFrameOf octets = some f →
      f.content = .error r → s.Calm → ∃ t, exec (.hostFrameArrival octets) s = .next t
        ∧ (s.setLink { s.link with assembling := none }).Keeps t ∧ t.RefusedFor f.kind f.tag (reasonCode r))
  ∧ (∀ (octets : List Byte) (tag : Byte) (s : State),
      hostFrameOf octets = some { kind := 0x36, tag := tag, content := .ok .causeRead } → s.Calm →
      ∃ t, exec (.hostFrameArrival octets) s = .next t ∧ (s.setLink { s.link with assembling := none }).Keeps t
        ∧ t.Answered 0x36 tag
            [.bits 1 (causeMask s.supervisor.causes), .code (if isCold s.supervisor.lastCause then 0 else 1),
             .code (resetCode s.supervisor.lastCause), .num 6 s.supervisor.lastReset,
             .code (if s.supervisor.storeFound then 0 else 1)])
  ∧ (∀ (s : State) (held : List Byte), s.link.assembling = some held →
      (s.link.lastOctet + 50 < s.now →
        exec .hostFrameGapExpiry s = .next (s.setLink { s.link with assembling := none }))
      ∧ (s.now ≤ s.link.lastOctet + 50 → exec .hostFrameGapExpiry s = .next s))
  ∧ (∀ (s : State) (b : Byte),
      exec (.hostCharacterReceived b false) s = .next (s.setLink { s.link with assembling := none }))
  ∧ (∀ (s : State) (b : Byte), s.link.assembling = none →
      exec (.hostCharacterReceived b true) s
        = .next (if b = 0xC3 then s.setLink { s.link with assembling := some [], lastOctet := s.now } else s))
  ∧ (∀ (s : State) (held : List Byte) (b len : Byte) (rest : List Byte), s.link.assembling = some held →
      s.now ≤ s.link.lastOctet + 50 → held ++ [b] = len :: rest →
      (200 < len.toNat →
        exec (.hostCharacterReceived b true) s = .next (s.setLink { s.link with assembling := none }))
      ∧ (len.toNat ≤ 200 → rest.length < len.toNat + 4 →
        exec (.hostCharacterReceived b true) s
          = .next (s.setLink { s.link with assembling := some (len :: rest), lastOctet := s.now }))
      ∧ (len.toNat ≤ 200 → rest.length = len.toNat + 4 →
        exec (.hostCharacterReceived b true) s = exec (.hostFrameArrival (len :: rest)) s))

/-- R161, R163, R169: the last byte of the frame on the line has gone. That the event changes nothing with no frame on the
line is read by inference (log 12). -/
def Obligations.FrameGone : Prop :=
  (∀ s : State, s.link.line = none → exec .hostFrameSent s = .next s)
  ∧ (∀ s : State, s.link.line = some .notice → ∃ t, exec .hostFrameSent s = .next t ∧ s.Keeps t
      ∧ t.link.reply = s.link.reply ∧ t.link.inHand = s.link.inHand ∧ t.link.waiting = s.link.waiting
      ∧ (bestSource s = none → t.link.notice = none)
      ∧ (s.link.reply.isSome = true → t.link.line = some .reply))
  ∧ (∀ s : State, s.link.line = some .reply → s.link.restart ≠ .accepted → s.link.waiting = none →
      ∃ t, exec .hostFrameSent s = .next t ∧ s.Keeps t ∧ t.link.inHand = none ∧ t.link.reply = none
        ∧ t.link.waiting = none ∧ (s.link.notice.isSome = true → t.link.line = some .notice))
  ∧ (∀ (s : State) (f : HostFrame), s.link.line = some .reply → s.link.restart ≠ .accepted →
      s.link.waiting = some f → ∃ t, exec .hostFrameSent s = .next t
        ∧ t.link.inHand = some { kind := f.kind, tag := f.tag } ∧ t.link.waiting = none
        ∧ t.link.reply.map (·.tag) = some f.tag ∧ t.link.line = some .reply)
  ∧ (∀ s : State, s.link.line = some .reply → s.link.restart = .accepted →
      exec .hostFrameSent s
        = .next (s.setLink { s.link with inHand := none, reply := none, line := none, restart := .due }))

/-- R161, R162: a KIND that names no request is refused UNKNOWN_KIND, and no block changes. R98, R101, R102, R160, R172:
the arrival of any valid host frame, of a known or an unknown KIND, restarts an enabled monitor and ends AUTONOMOUS
and quiet mode, even where its request is then refused, waits or is discarded; the requests MONITOR_SET and QUIET then
set the monitor, and QUIET quiet mode, anew. The end of AUTONOMOUS closes the spell, stops a repeat, raises a WARN
request, empties the level set and raises LINK. R160: with a request in hand the frame of a further request, of a
known or an unknown KIND, waits, and a third is discarded. R160: a request that arrives in AUTONOMOUS or in quiet mode
is taken by a part that has left both: as it would be in the state that the frame's arrival leaves. R27, R72: at the end of
quiet mode an enabled entry without a next-due time is due at once, one due later than its normal interval from now is
brought forward to that, and so is the record timer; outside quiet mode they stay. That a request's row stands for the
arrival of its frame is read by inference (log 2). -/
def Obligations.FrameArrival : Prop :=
  (∀ (s : State) (kind tag : Byte), s.Calm → ∃ t, exec (.unknownKind kind tag) s = .next t
      ∧ t.RefusedFor kind tag 0x02 ∧ s.Keeps t)
  ∧ (∀ (s : State) (c : Instr), (∃ kind tag, c = .unknownKind kind tag) ∨ (∃ tag q, c = requestCommand tag q) →
      ∃ t, exec c s = .next t ∧ t.warning.autonomous = false
      ∧ ((∀ tag, c ≠ .quiet tag) → t.supervisor.quiet = .normal
          ∧ ((∀ tag e n, c ≠ .monitorSet tag e n) → s.warning.monitorSettings.enable = true →
              t.warning.monitor = .running (s.now + 15000 * 2 ^ s.warning.monitorSettings.exponent))
          ∧ ((∀ tag e n, c ≠ .monitorSet tag e n) → s.warning.monitorSettings.enable = false →
              t.warning.monitor = s.warning.monitor))
      ∧ (s.warning.autonomous = true →
          t.warning.spell = (s.warning.spell.map fun p =>
            { p with leftRunTime := some s.now, leftStation := s.time.stationTime,
                     atDeparture := some s.warning.level })
          ∧ (∀ e, t.warning.siren ≠ .repeatWait e)
          ∧ (s.field.tx ≠ .free → t.field.warn = .standing)
          ∧ (s.field.tx = .free → ∃ x, t.field.transaction = some x ∧ x.kind = .warn s.warning.level
              ∧ x.frame = { destination := s.field.settings.postGroup, source := s.field.settings.ownAddress, kind := 0x20
                            payload := [BitVec.ofNat 8 s.warning.level, if sirenSounds s = true then 1 else 0, 0] })
          ∧ (t.notices.inService = [] ∨ s.link.notice = none ∧ ∃ l, t.notices.inService = [l])
          ∧ (s.link.notice ≠ none → ∀ p, s.warning.spell = some p → ∃ y, t.notices.slots[sourcePlace .link] = some y
              ∧ y.content = [.num 6 p.enteredRunTime] ++ optTime p.enteredStation ++ [.num 6 s.now]
                ++ optTime s.time.stationTime ++ [.num 1 p.highest, .num 1 s.warning.level, .num 1 p.sirenStarts])))
  ∧ (∀ (s : State) (c : Instr) (f : HostFrame), (∃ kind tag, c = .unknownKind kind tag
          ∧ f = { kind := kind, tag := tag, content := .error .unknownKind })
        ∨ (∃ tag q, c = requestCommand tag q ∧ f = { kind := requestKind q, tag := tag, content := .ok q }) →
      s.link.inHand ≠ none → s.supervisor.quiet = .normal → s.warning.autonomous = false →
      ∃ t, exec c s = .next t ∧ s.Keeps t ∧ t.link.inHand = s.link.inHand ∧ t.link.reply = s.link.reply
        ∧ t.link.waiting
            = (match s.link.waiting with
              | none => some f
              | some g => some g))
  ∧ (∀ (s : State) (tag : Byte) (q : Request), ∃ u : State,
      exec (requestCommand tag q) s = exec (requestCommand tag q) u
        ∧ u.warning.autonomous = false ∧ u.supervisor.quiet = .normal ∧ u.link.inHand = s.link.inHand
        ∧ (s.warning.monitorSettings.enable = true →
            u.warning.monitor = .running (s.now + 15000 * 2 ^ s.warning.monitorSettings.exponent))
        ∧ u.link.restart = s.link.restart ∧ u.time = s.time ∧ u.channels = s.channels ∧ u.cable = s.cable
        ∧ u.gauging = s.gauging ∧ u.stage.ring = s.stage.ring ∧ u.stage.stage = s.stage.stage
        ∧ u.warning.rules = s.warning.rules ∧ u.warning.level = s.warning.level
        ∧ u.warning.floor = s.warning.floor ∧ s.QuietEnded u)
  ∧ (∀ (s : State) (kind tag : Byte), s.supervisor.quiet ≠ .normal →
      ∃ t, exec (.unknownKind kind tag) s = .next t ∧ s.QuietEnded t)

/-- R12, R80, R103, R122, R143, R165, R168: the requests that read are taken in every state, change no block, and carry
the part as it stands, field by field as the tables of the spec list them. The widths of whole numbers and the numbers
of enumerations rest on log 21, ARMED, LIT and ACTIVE as flags on log 52, the absent run time of no waiting append on
log 55, the octets of the last step on log 70, the
presence octets of the ring, of starts and ends and of what is absent as a whole on log 62, the layout of
CARRIAGE_READ's settings, sounding record and fault record on log 63, that of an exposure on log 58. That STAGE_READ
names the newest record as rate record also after a warm reset, while the current rate is absent, is log 22; that it
gives as next record due the expiry already passed while an interval append waits is log 23. -/
def Obligations.PlainReads : Prop :=
  ∀ (s : State) (tag : Byte), s.Calm →
    (∃ t, exec (.timeRead tag) s = .next t ∧ s.Keeps t
      ∧ t.Answered 0x09 tag
          ([.num 6 s.now] ++ optTime s.time.stationTime
            ++ [.code (timeQualityCode s.timeQuality), .code (sourceCode s.time.source),
                .code (crystalCode s.time.crystal), .flag s.time.arm, .num 2 s.time.correction]
            ++ optInt 6 s.time.lastStep ++ optTime s.time.lastStepRunTime ++ [.flag s.time.stepPending]))
    ∧ (∃ t, exec (.identify tag) s = .next t ∧ s.Keeps t
      ∧ t.Answered 0x01 tag
          [.text vendorText, .text partText, .num 1 3, .code (if s.supervisor.storeFound then 0 else 1),
           .num 2 s.link.rateHeld, .num 2 s.link.rateInForce, .num 4 200, .num 4 8, .num 4 4, .num 4 8,
           .num 4 256, .num 4 40, .num 4 15, .num 6 s.now])
    ∧ (∃ t, exec (.causeRead tag) s = .next t ∧ s.Keeps t
      ∧ t.Answered 0x36 tag
          [.bits 1 (causeMask s.supervisor.causes), .code (if isCold s.supervisor.lastCause then 0 else 1),
           .code (resetCode s.supervisor.lastCause), .num 6 s.supervisor.lastReset,
           .code (if s.supervisor.storeFound then 0 else 1)])
    ∧ (∃ t, exec (.stageRead tag) s = .next t ∧ s.Keeps t ∧ ∃ u, u = s.stage
      ∧ t.Answered 0x1B tag
          ([.code (voteMethodCode u.settings.method), .num 2 u.settings.agreement, .num 1 u.settings.required,
            .num 2 u.settings.normalInterval, .num 2 u.settings.quietInterval, .num 2 u.settings.rateWindow]
            ++ optInt 3 u.stage ++ [.code (qualityCode u.quality), .flag u.disagree] ++ optNum 4 u.spread
            ++ optNum 1 u.chosen
            ++ ((places 4).map fun i => .code (channelStateCode u.items[i].state)
                :: optInt 3 (if u.items[i].state = .valid then u.items[i].filtered else none)
                ++ [.num 1 s.channels[i].settings.rank]).flatten
            ++ optInt 3 u.rate ++ optNum 4 (u.ring.getLast?.map (·.sequence)) ++ [.num 2 u.ring.length]
            ++ optNum 4 (u.ring.head?.map (·.sequence)) ++ optNum 4 (u.ring.getLast?.map (·.sequence))
            ++ [.num 4 u.nextSequence, .num 6 u.recordExpiry, .num 4 u.waiting.length]
            ++ (if u.waiting = [] then [.absent]
                else [.present, .num 6 (max s.now ((u.ring.getLast?.map (·.runTime)).getD 0 + 1) : Nat)])
            ++ [.flag u.warmRestart, .num 6 s.now] ++ optTime s.time.stationTime))
    ∧ (∃ t, exec (.warningRead tag) s = .next t ∧ s.Keeps t ∧ ∃ w, w = t.warning
      ∧ t.Answered 0x23 tag
          ([.num 1 w.settings.sirenLevel, .num 2 w.settings.sirenRun, .num 2 w.settings.repeatInterval,
            .num 1 w.settings.withdrawLevel, .flag w.monitorSettings.enable, .num 1 w.monitorSettings.exponent,
            .num 1 w.floor, .num 1 w.level]
            ++ (match w.lastChange with
              | none => [.absent]
              | some c => [.present, .num 1 c.oldLevel, .num 1 c.newLevel]
                ++ (match c.cause with
                  | .rule i => [.code 0, .num 1 (i.val + 1)]
                  | .floor => [.code 1])
                ++ [.num 6 c.runTime])
            ++ [.flag w.beaconA, .flag w.beaconB]
            ++ (match w.siren with
              | .off => [.code 0, .absent]
              | .sounding e => [.code 1, .present, .num 6 e]
              | .repeatWait e => [.code 2, .present, .num 6 e])
            ++ (match w.monitor with
              | .off => [.code 0, .absent]
              | .running e => [.code 1, .present, .num 6 e]
              | .suspended => [.code 2, .absent]
              | .stopped => [.code 3, .absent])
            ++ (match w.spell with
              | none => [.absent]
              | some p => [.present, .num 6 p.enteredRunTime] ++ optTime p.enteredStation
                ++ [.num 6 (p.leftRunTime.getD 0)] ++ optTime p.leftStation
                ++ [.num 1 p.highest, .num 1 (p.atDeparture.getD 0), .num 1 p.sirenStarts])
            ++ optInt 3 w.stageInput ++ optInt 3 w.rateInput
            ++ ((places 8).map fun i => [.flag w.rules[i].definition.enable,
                .code (ruleKindCode w.rules[i].definition.kind), .num 1 w.rules[i].definition.level,
                .code (ruleStateCode w.rules[i].state), .flag w.rules[i].blind]
                ++ (match w.rules[i].timer with
                  | .none => [.absent]
                  | .running e => [.present, .num 4 (e - s.now : Nat)]
                  | .paused m => [.present, .num 4 m])).flatten
            ++ [.num 6 s.now] ++ optTime s.time.stationTime))
    ∧ (∃ t, exec (.carriageRead tag) s = .next t ∧ s.Keeps t ∧ ∃ c, c = s.cable
      ∧ t.Answered 0x2A tag
          (optNum 2 c.settings.traverseScale ++ optNum 2 c.settings.reelScale ++ optNum 3 c.settings.span
            ++ [.num 1 c.settings.tolerance, .num 1 c.settings.stallTime, .num 2 c.settings.weightOffset]
            ++ optNum 2 c.settings.maxDepth ++ [.num 1 c.settings.settleTime, .code (motionCode c.motion)]
            ++ optField (phaseCode c.motion c.switches.reelTop) .code
            ++ (match c.drive with
              | none => [.count 0]
              | some d => [.count 1, .code (driveCode d)])
            ++ [.flag c.switches.homeLimit, .flag c.switches.farLimit, .flag c.switches.reelTop,
                .flag c.switches.surface, .flag c.switches.bottom, .flag c.switches.overload]
            ++ optInt 4 (if c.positionKnown = true then some (millimetres c.traverseCount) else none)
            ++ optInt 4 (match c.motion with
              | .travelling x => some (x : Int)
              | .toPoint x => some x
              | _ => none)
            ++ optInt 4 c.arrival
            ++ optInt 4 (if c.payoutKnown = true then some (millimetres c.reelCount) else none)
            ++ optInt 4 (c.surfacePoint.map millimetres)
            ++ optInt 4 (c.surfacePoint.map fun p => millimetres (c.reelCount - p))
            ++ optFields c.sounding (fun r => .num 1 r.failed :: optNum 4 r.depth)
            ++ (match c.stall, c.hold, c.settle with
              | some e, _, _ => [.present, .code 0, .num 6 e]
              | none, some e, _ => [.present, .code 1, .num 6 e]
              | none, none, some e => [.present, .code 2, .num 6 e]
              | none, none, none => [.absent])
            ++ optFields c.fault (fun f => [.code (if c.motion = .faulted then 0 else 1), .code (faultCode f.cause),
                .code (motionCode f.motion)] ++ optField (phaseCode f.motion f.reelTop) .code
                ++ (match f.outputs with
                  | none => [.count 0]
                  | some d => [.count 1, .code (driveCode d)])
                ++ optInt 4 f.position ++ optInt 4 f.payout ++ optInt 4 f.depth ++ [.num 6 f.runTime]
                ++ optTime f.stationTime)
            ++ [.num 6 s.now]))
    ∧ (∃ t, exec (.runRead tag) s = .next t ∧ s.Keeps t ∧ ∃ (r : Run) (moment : Moment → List Field), r = s.run
      ∧ moment = (fun m => [.num 6 m.runTime] ++ optTime m.stationTime ++ optInt 3 m.stage ++ [.code (qualityCode m.quality)])
      ∧ t.Answered 0x32 tag
          ([.code (runStateCode r.state)] ++ optField r.reason (fun x => .code (abortCode x))
            ++ optField r.outcome (fun x => .code (returnCode x)) ++ optField r.phase (fun x => .code (runPhaseCode x))
            ++ optNum 1 (if r.state = .active then some r.vertical.index else none) ++ [.flag r.vertical.skipMark]
            ++ optFields (if r.phase = some .place ∨ r.phase = some .expose then r.vertical.point else none)
                (fun p => [.code (fractionTenths p.fraction), .num 4 p.meterDepth])
            ++ optFields r.exposure (fun e => [.code (exposureCode e.state), .num 3 e.length] ++ optTime e.start
                ++ [.num 4 e.contacts] ++ optTime e.lastCounted ++ optTime e.expiry)
            ++ [.num 1 r.verticals.length, .num 1 (r.verticals.filter fun v => v.skip.isNone).length,
                .num 1 (r.verticals.length - (r.verticals.filter fun v => v.skip.isNone).length : Nat)]
            ++ optFields r.start moment ++ optFields r.finish moment
            ++ optNum 4 r.results.discharge ++ optNum 4 r.results.area ++ optNum 4 r.results.mean
            ++ optInt 4 r.results.gaugeHeight ++ [.bits 1 (runFlagMask r)]))

/-- R26, R63, R84, R126, R144, R162: the requests that read one entry, channel, rule, plan entry or result: answered field
by field for a number in range, refused RANGE outside it and NOT_FOUND where no entry or result stands, and no block
changes either way. Widths and numbers rest on log 21, the last value shown only once the rule has judged since the
reset on log 56, the 4 octets of the head value in the last reading on log 66, the presence octets of the plan entry,
of the post status, of the last reading and change and of D and its source on log 62. -/
def Obligations.IndexedReads : Prop :=
  ∀ (s : State) (tag : Byte) (n : Nat), s.Calm →
    (∀ i, place n 8 = some i → ∃ t, exec (.headRead tag n) s = .next t ∧ s.Keeps t
      ∧ ∃ (e : HeadEntry) (x : FieldSettings), e = s.field.heads[i] ∧ x = s.field.settings
      ∧ t.Answered 0x12 tag
          ([.flag e.config.enable, .num 1 e.config.address, .code (headKindCode e.config.kind)]
            ++ optNum 1 e.config.channel ++ [.num 2 e.config.normal, .num 2 e.config.quiet] ++ optTime e.nextDue
            ++ [.num 1 e.noReply, .code (entryStateCode e.state)]
            ++ optField e.lastOutcome (fun o => .code (txOutcomeCode o)) ++ optTime e.lastAnswer
            ++ optFields e.post (fun p => [.num 1 p.displayed, .flag p.siren, .flag p.fault])
            ++ [.num 1 x.ownAddress, .flag x.acceptBroadcast, .bits 2 x.groupSet, .flag x.inverseGroups,
                .flag x.passAllGroups, .num 1 x.postGroup, .flag x.capture, .num 1 x.backoffBits,
                .flag x.singleAttempt, .code (txStateCode s.field.tx)]
            ++ (match s.field.transaction.map (·.kind) with
              | none => [.absent]
              | some (.poll j) => [.present, .code 0, .num 1 (j.val + 1)]
              | some .management => [.present, .code 1]
              | some (.warn _) => [.present, .code 2])
            ++ [.code (match s.field.management with
                | none => 0
                | some m => if m.inFlight = true then 2 else 1), .code (warnCode s.field.warn)]
            ++ optNum 1 (s.field.lastSent.map (·.level)) ++ [.num 1 s.field.captured.length]))
    ∧ (∀ i, place n 4 = some i → ∃ t, exec (.channelRead tag n) s = .next t ∧ s.Keeps t
      ∧ ∃ (c : Channel) (x : ChannelSettings), c = s.channels[i] ∧ x = c.settings
      ∧ t.Answered 0x19 tag
          ([.flag x.enable, .num 3 x.gain, .num 3 x.offset, .code (senseCode x.sense), .num 3 x.minimum,
            .num 3 x.maximum, .num 2 x.stepLimit, .num 1 x.window, .num 2 x.staleTime, .num 1 x.rank]
            ++ optNum 1 (((places 8).find? fun j => s.field.heads[j].config.enable
                && s.field.heads[j].config.kind == .stage
                && s.field.heads[j].config.channel == some (i.val + 1)).map fun j => j.val + 1)
            ++ [.code (channelStateCode c.state), .num 1 ((x.window + 1) / 2 : Nat), .count c.window.length]
            ++ c.window.map (fun v => .num 3 v)
            ++ optInt 3 (if c.state = .valid then middleValue c.window else none)
            ++ [.num 1 c.rejections, .num 1 c.chainLength] ++ optInt 3 c.candidate ++ optTime c.staleExpiry
            ++ optFields c.lastReading (fun r => [.num 4 r.value, .code (if r.fault = true then 1 else 0)]
                ++ optInt 3 r.corrected ++ [.num 6 r.runTime, .code (verdictCode r.verdict)])
            ++ [.num 2 c.counters.accepted, .num 2 c.counters.range, .num 2 c.counters.step,
                .num 2 c.counters.reAnchors, .num 2 c.counters.headFaults]
            ++ (match c.lastChange with
              | none => [.absent, .absent]
              | some x => [.present, .code (channelCauseCode x.cause), .present, .num 6 x.runTime])))
    ∧ (∀ i, place n 8 = some i → ∃ t, exec (.ruleRead tag n) s = .next t ∧ s.Keeps t
      ∧ ∃ (r : Rule) (d : RuleDef), r = s.warning.rules[i] ∧ d = r.definition
      ∧ t.Answered 0x21 tag
          ([.flag d.enable, .code (ruleKindCode d.kind), .num 1 d.level, .num 3 d.setThreshold,
            .num 3 d.clearThreshold, .num 2 d.confirmTime, .num 2 d.clearDelay, .code (ruleStateCode r.state),
            .flag r.blind]
            ++ (match r.timer with
              | .none => [.code 2, .absent, .absent]
              | .running e => [.code (if r.state = .clearing then 1 else 0), .present, .num 4 (e - s.now : Nat),
                  .present, .num 6 e]
              | .paused m => [.code (if r.state = .clearing then 1 else 0), .present, .num 4 m, .absent])
            ++ optInt 3 (if r.judged = true then r.lastValue else none) ++ optTime r.lastChange))
    ∧ (n ≤ 40 → n ≤ s.gauging.plan.entries.length → ∃ t, exec (.planRead tag n) s = .next t ∧ s.Keeps t
      ∧ t.Answered 0x2E tag
          ([.num 1 s.gauging.plan.entries.length, .num 1 s.gauging.plan.defaultExposure,
            .num 2 s.gauging.plan.changeLimit]
            ++ optFields (if n = 0 then none else s.gauging.plan.entries[n - 1]?) (fun e =>
              [.num 3 e.distance, .code (methodCode e.method)] ++ optNum 2 e.depth ++ optNum 2 e.coefficient
                ++ optNum 1 e.exposure)))
    ∧ (∀ v, 1 ≤ n → n ≤ 40 → s.run.verticals.find? (fun v => v.index == n) = some v →
      ∃ t, exec (.resultRead tag n) s = .next t ∧ s.Keeps t ∧ t.Answered 0x33 tag
          ([.num 1 v.index, .code (methodCode v.method), .num 3 v.distance, .num 4 v.arrival] ++ optNum 4 v.depth
            ++ optField v.depthSource (fun x => .code (depthSourceCode x)) ++ optNum 1 v.failed
            ++ [.count v.points.length] ++ (v.points.map fun p =>
                [.code (match p.fraction with
                    | .two => 2
                    | .six => 6
                    | .eight => 8
                    | .surface => 0), .num 4 p.meterDepth, .num 4 p.contacts] ++ optNum 4 p.time ++ optNum 4 p.rate
                ++ [.num 2 p.velocity, .bits 1 (flagMask [p.flags.clamped, p.flags.bedStop, p.flags.short,
                    p.flags.stalled, p.flags.belowStart, p.flags.clampedV, p.flags.timingRC])]).flatten
            ++ optNum 2 v.mean ++ optField v.skip (fun x => .code (skipCode x))
            ++ [.bits 1 (flagMask [v.retried, v.partialPoints])]))
    ∧ (n = 0 ∨ 8 < n → (∃ t, exec (.headRead tag n) s = .next t ∧ s.Keeps t ∧ t.RefusedFor 0x12 tag 0x03)
      ∧ ∃ t, exec (.ruleRead tag n) s = .next t ∧ s.Keeps t ∧ t.RefusedFor 0x21 tag 0x03)
    ∧ (n = 0 ∨ 4 < n → ∃ t, exec (.channelRead tag n) s = .next t ∧ s.Keeps t ∧ t.RefusedFor 0x19 tag 0x03)
    ∧ (n ≤ 40 → s.gauging.plan.entries.length < n →
      ∃ t, exec (.planRead tag n) s = .next t ∧ s.Keeps t ∧ t.RefusedFor 0x2E tag 0x0B)
    ∧ (1 ≤ n → n ≤ 40 → (∀ v ∈ s.run.verticals, v.index ≠ n) →
      ∃ t, exec (.resultRead tag n) s = .next t ∧ s.Keeps t ∧ t.RefusedFor 0x33 tag 0x0B)
    ∧ (40 < n → ∃ t, exec (.planRead tag n) s = .next t ∧ s.Keeps t ∧ t.RefusedFor 0x2E tag 0x03)
    ∧ (n = 0 ∨ 40 < n → ∃ t, exec (.resultRead tag n) s = .next t ∧ s.Keeps t ∧ t.RefusedFor 0x33 tag 0x03)

/-- R78, R164: RECORD_READ: where its records begin, the GAP flag, and the reply's own fields; of at most `count` records
it carries as many as leave its payload within 200 octets (log 21), and nothing is removed. R23, R164: CAPTURE_READ
takes the oldest record, carried field by field (log 21) behind one presence octet (log 62); the overflow flag is cleared
when none is left. -/
def Obligations.RecordAndCaptureReading : Prop :=
  (∀ (s : State) (tag : Byte) (start count : Nat), s.Calm →
      (1 ≤ count → count ≤ 8 → ∃ t items, exec (.recordRead tag start count) s = .next t ∧ s.Keeps t
        ∧ ∃ (gap : Bool) (asked : List StageRecord) (fields : StageRecord → List Field),
          fields = (fun r => [.num 4 r.sequence, .num 6 r.runTime] ++ optTime r.stationTime ++ optInt 3 r.stage
            ++ [.code (qualityCode r.quality)] ++ optInt 3 r.rate
            ++ [.num 1 r.level, .bits 1 (numberMask r.channels),
                .bits 1 (flagMask [r.flags.timingRC, r.flags.timeStepped, r.flags.event, r.flags.runActive,
                  r.flags.autonomous, r.flags.warmRestart])])
          ∧ (gap = true ↔ (let d := (s.stage.nextSequence + 2 ^ 32 - start % 2 ^ 32) % 2 ^ 32
            s.stage.ring.length < d ∧ d < 2147483648))
          ∧ asked = (let d := (s.stage.nextSequence + 2 ^ 32 - start % 2 ^ 32) % 2 ^ 32
              let h := s.stage.ring.length
              if d = 0 ∨ 2147483648 ≤ d then [] else if d ≤ h then s.stage.ring.drop (h - d) else s.stage.ring).take count
          ∧ items = asked.take items.length
          ∧ (payloadOctets ([.flag gap, .num 1 items.length] ++ optNum 4 (s.stage.ring.head?.map (·.sequence))
              ++ [.num 4 s.stage.nextSequence] ++ (items.map fields).flatten)).length ≤ 200
          ∧ (∀ r, asked[items.length]? = some r →
              200 < (payloadOctets ([.flag gap, .num 1 items.length] ++ optNum 4 (s.stage.ring.head?.map (·.sequence))
                ++ [.num 4 s.stage.nextSequence] ++ ((items ++ [r]).map fields).flatten)).length)
          ∧ t.Answered 0x1C tag
            ([.flag gap, .num 1 items.length] ++ optNum 4 (s.stage.ring.head?.map (·.sequence))
              ++ [.num 4 s.stage.nextSequence] ++ (items.map fields).flatten))
      ∧ (count = 0 ∨ 8 < count → ∃ t, exec (.recordRead tag start count) s = .next t ∧ s.Keeps t
        ∧ t.RefusedFor 0x1C tag 0x03))
  ∧ (∀ (s : State) (tag : Byte), s.Calm → ∃ t, exec (.captureRead tag) s = .next t ∧ (s.setField t.field).Keeps t
      ∧ t.field = { s.field with
          captured := s.field.captured.tail
          overflow := if s.field.captured.length = 1 then false else s.field.overflow }
      ∧ t.Answered 0x14 tag
          ((match s.field.captured with
            | [] => [Field.absent]
            | c :: _ => [.present, .num 6 c.runTime, .num 1 c.frame.destination, .num 1 c.frame.source, .num 1 c.frame.kind,
                .num 1 c.frame.payload.length, .raw c.frame.payload, .code (filterCode c.result)])
            ++ [.num 1 (s.field.captured.length - 1 : Nat), .flag s.field.overflow]))

/-- R10, R2, R7, R3: TIME_SET, TRIM_SET and TIME_SOURCE where they are taken, and refused RANGE, BUSY and STATE. Under RC
the ms in progress at a TRIM_SET gives what its block still gives, and a new block begins after it (log 49, the
model's choice). A switch to RC steps nothing: the ms in progress gives one at its end, or where XTAL left several
uncounted gives those (log 50), and a new block begins after it. -/
def Obligations.TimeRequests : Prop :=
  (∀ (s : State) (tag : Byte) (v : Nat), s.Calm → v ≤ 2 ^ 47 - 1 →
    ∃ t, exec (.timeSet tag v) s = .next t ∧ (s.setTime t.time).Keeps t
      ∧ t.time = { s.time with
          stationTime := some v, lastStep := s.time.stationTime.map fun h => (v : Int) - h
          lastStepRunTime := some s.now, stepPending := true }
      ∧ t.Answered 0x08 tag (optTime s.time.stationTime ++ [.num 6 v, .num 6 s.now]))
  ∧ (∀ (s : State) (tag : Byte) (c : Int), s.Calm → s.supervisor.saving = none →
    ∃ t, exec (.trimSet tag c) s = .next t ∧ (s.setTime t.time).Keeps t
      ∧ t.time.correction = max (-2000) (min 2000 c) ∧ t.time.runTime = s.time.runTime
      ∧ t.time.source = s.time.source ∧ t.Answered 0x0B tag [.num 2 (max (-2000) (min 2000 c))]
      ∧ (s.time.source = .xtal → t.time = { s.time with correction := max (-2000) (min 2000 c) })
      ∧ (s.time.source = .rc → ∀ n u, n = leftOfTick s.time → s.time.runTime + n ≤ Config.lastRunTime →
          u = tickTime^[max 1 n] t.time →
          u.runTime = s.time.runTime + n ∧ u.reference = s.time.reference + 1 ∧ u.blockCount = 0
            ∧ u.completing = none ∧ u.early = 0 ∧ u.correction = max (-2000) (min 2000 c)))
  ∧ (∀ (s : State) (tag : Byte), s.Calm → s.time.crystal = .running →
    ∃ t, exec (.timeSource tag 0) s = .next t ∧ t.time.source = .xtal ∧ t.time.arm = false
      ∧ t.time.runTime = s.time.runTime ∧ t.time.stationTime = s.time.stationTime
      ∧ t.time.recordMark = s.time.recordMark ∧ t.time.exposureSpan = s.time.exposureSpan
      ∧ (s.time.source = .rc → t.time.edgeless = 0 ∧ (s.setTime t.time).freeTaken.Keeps t)
      ∧ (s.time.source = .xtal → t.time = { s.time with arm := false } ∧ (s.setTime t.time).Keeps t)
      ∧ t.Answered 0x0A tag [.code 0, .code 1, .code (if s.time.stationTime = none then 0 else 1)])
  ∧ (∀ (s : State) (tag : Byte) (v : Nat), s.Calm → 2 ^ 47 - 1 < v →
    ∃ t, exec (.timeSet tag v) s = .next t ∧ s.Keeps t ∧ t.RefusedFor 0x08 tag 0x03)
  ∧ (∀ (s : State) (tag : Byte) (c : Int), s.Calm → s.supervisor.saving ≠ none →
    ∃ t, exec (.trimSet tag c) s = .next t ∧ s.Keeps t ∧ t.RefusedFor 0x0B tag 0x05)
  ∧ (∀ (s : State) (tag : Byte), s.Calm → s.time.crystal ≠ .running →
    ∃ t, exec (.timeSource tag 0) s = .next t ∧ s.Keeps t ∧ t.RefusedFor 0x0A tag 0x04)
  ∧ (∀ (s : State) (tag : Byte), s.Calm →
    ∃ t, exec (.timeSource tag 1) s = .next t ∧ (s.setTime t.time).Keeps t ∧ t.time.source = .rc
      ∧ t.time.arm = false ∧ t.time.crystal = s.time.crystal
      ∧ (s.time.source = .xtal → t.time.recordMark = true ∧ t.time.reference = s.time.reference
          ∧ t.time.exposureSpan = (s.time.exposureSpan.map fun _ => true)
          ∧ t.time.runTime = s.time.runTime ∧ t.time.stationTime = s.time.stationTime
          ∧ ∀ n u, n = max 1 s.time.edgeless → s.time.runTime + n ≤ Config.lastRunTime → u = tickTime^[n] t.time →
              u.runTime = s.time.runTime + n ∧ u.reference = s.time.reference + 1 ∧ u.source = .rc
                ∧ u.blockCount = 0 ∧ u.completing = none ∧ u.early = 0)
      ∧ (s.time.source = .rc → t.time = { s.time with arm := false })
      ∧ t.Answered 0x0A tag
          [.code 1, .code (crystalCode s.time.crystal), .code (if t.time.stationTime = none then 0 else 2)])
  ∧ (∀ (s : State) (tag : Byte) (n : Nat), s.Calm → 1 < n →
    ∃ t, exec (.timeSource tag n) s = .next t ∧ s.Keeps t ∧ t.RefusedFor 0x0A tag 0x03)

/-- R158, R168, R173, R169: LINK_SET, CAUSE_CLEAR, WAKE_SET and RESTART where they are taken, and their refusals RANGE and
BUSY. The widths of the replies rest on log 21, RANGE before BUSY on log 16. -/
def Obligations.LinkAndCauseRequests : Prop :=
  (∀ (s : State) (tag : Byte) (rate : Nat), s.Calm → s.supervisor.saving = none → rate ∈ [9600, 19200, 38400, 57600] →
    ∃ t, exec (.linkSet tag rate) s = .next t ∧ t.link.rateHeld = rate ∧ t.link.rateInForce = s.link.rateInForce
      ∧ (s.setLink { s.link with rateHeld := rate }).Keeps t
      ∧ t.Answered 0x02 tag [.num 2 rate, .num 2 s.link.rateInForce])
  ∧ (∀ (s : State) (tag : Byte) (rate : Nat), s.Calm → rate ∉ [9600, 19200, 38400, 57600] →
    ∃ t, exec (.linkSet tag rate) s = .next t ∧ s.Keeps t ∧ t.RefusedFor 0x02 tag 0x03)
  ∧ (∀ (s : State) (tag : Byte), s.Calm →
    ∃ t, exec (.causeClear tag) s = .next t ∧ (s.setSupervisor t.supervisor).Keeps t
      ∧ t.supervisor = { s.supervisor with causes := noCauses }
      ∧ t.Answered 0x37 tag [.bits 1 (causeMask s.supervisor.causes)])
  ∧ (∀ (s : State) (tag : Byte) (rate : Nat), s.Calm → s.supervisor.saving ≠ none → rate ∈ [9600, 19200, 38400, 57600] →
    ∃ t, exec (.linkSet tag rate) s = .next t ∧ s.Keeps t ∧ t.RefusedFor 0x02 tag 0x05)
  ∧ (∀ (s : State) (tag : Byte) (a : WakeSetArgs), s.Calm →
    (a.levelChange ≤ 1 → a.stage ≤ 1 → a.rate ≤ 1 → a.levelFive ≤ 1 → a.postFault ≤ 1 →
      (s.supervisor.saving = none → ∃ (t : State) (w : WakeSettings), exec (.wakeSet tag a) s = .next t
        ∧ (s.setSupervisor t.supervisor).Keeps t ∧ t.supervisor = { s.supervisor with wake := w }
        ∧ w = { levelChange := a.levelChange == 1, stage := a.stage == 1
                wakeStage := max (-999999) (min 999999 a.wakeStage), rate := a.rate == 1
                wakeRate := max (-99999) (min 99999 a.wakeRate), levelFive := a.levelFive == 1
                postFault := a.postFault == 1 }
        ∧ t.Answered 0x35 tag [.flag w.levelChange, .flag w.stage, .num 3 w.wakeStage, .flag w.rate,
            .num 3 w.wakeRate, .flag w.levelFive, .flag w.postFault])
      ∧ (s.supervisor.saving ≠ none →
        ∃ t, exec (.wakeSet tag a) s = .next t ∧ s.Keeps t ∧ t.RefusedFor 0x35 tag 0x05))
    ∧ (1 < a.levelChange ∨ 1 < a.stage ∨ 1 < a.rate ∨ 1 < a.levelFive ∨ 1 < a.postFault →
      ∃ t, exec (.wakeSet tag a) s = .next t ∧ s.Keeps t ∧ t.RefusedFor 0x35 tag 0x03))
  ∧ (∀ (s : State) (tag : Byte), s.Calm → s.supervisor.saving = none →
    ∃ t, exec (.restart tag) s = .next t ∧ (s.setLink { s.link with restart := .accepted }).Keeps t
      ∧ t.Answered 0x3C tag [])
  ∧ (∀ (s : State) (tag : Byte), s.Calm → s.supervisor.saving ≠ none →
    ∃ t, exec (.restart tag) s = .next t ∧ s.Keeps t ∧ t.RefusedFor 0x3C tag 0x05)

/-- R17: FIELD_SET where it is taken: every setting at once, and nothing else of the field line; refused RANGE, BUSY or
DUPLICATE otherwise, with no setting changed. R17 gives its refusals no order: RANGE, BUSY, DUPLICATE is log 16. -/
def Obligations.FieldSet : Prop :=
  ∀ (s : State) (tag : Byte) (a : FieldSetArgs), s.Calm →
    (a.acceptBroadcast ≤ 1 → a.inverseGroups ≤ 1 → a.passAllGroups ≤ 1 → a.capture ≤ 1 → a.singleAttempt ≤ 1 →
      1 ≤ a.ownAddress → a.ownAddress ≤ 126 → 128 ≤ a.postGroup → a.postGroup ≤ 254 →
      (s.supervisor.saving = none →
        (∀ i : Fin 8, s.field.heads[i].config.enable = true → s.field.heads[i].config.address ≠ a.ownAddress) →
        ∃ t, exec (.fieldSet tag a) s = .next t ∧ (s.setField t.field).Keeps t
          ∧ t.field = { s.field with
              settings :=
              { ownAddress := a.ownAddress, acceptBroadcast := a.acceptBroadcast == 1
                groupSet := a.groupSet % 2 ^ 16, inverseGroups := a.inverseGroups == 1
                passAllGroups := a.passAllGroups == 1, postGroup := a.postGroup, capture := a.capture == 1
                backoffBits := max 1 (min 6 a.backoffBits), singleAttempt := a.singleAttempt == 1 } }
          ∧ t.Answered 0x10 tag (fieldSettingFields t.field.settings))
      ∧ (s.supervisor.saving ≠ none →
        ∃ t, exec (.fieldSet tag a) s = .next t ∧ s.Keeps t ∧ t.RefusedFor 0x10 tag 0x05)
      ∧ (s.supervisor.saving = none → ∀ i : Fin 8, s.field.heads[i].config.enable = true →
        s.field.heads[i].config.address = a.ownAddress →
        ∃ t, exec (.fieldSet tag a) s = .next t ∧ s.Keeps t ∧ t.RefusedFor 0x10 tag 0x06))
    ∧ (a.ownAddress = 0 ∨ 126 < a.ownAddress ∨ a.postGroup < 128 ∨ 254 < a.postGroup →
      ∃ t, exec (.fieldSet tag a) s = .next t ∧ s.Keeps t ∧ t.RefusedFor 0x10 tag 0x03)

/-- R24, R25: HEAD_SET where it is taken: the entry starts afresh under the clamped configuration, the others stay; and
its refusals RANGE, BUSY and DUPLICATE. -/
def Obligations.HeadSet : Prop :=
  ∀ (s : State) (tag : Byte) (a : HeadSetArgs), s.Calm →
    (∀ (i : Fin 8) (k : HeadKind) (ch : Option Nat), a.entry = i.val + 1 → a.enable ≤ 1 → 1 ≤ a.address →
      a.address ≤ 126 → (a.kind = 0 ∧ k = .stage ∧ ch = a.channel ∧ (∃ n, a.channel = some n ∧ 1 ≤ n ∧ n ≤ 4))
          ∨ (a.kind = 1 ∧ k = .post ∧ ch = none) →
      (s.supervisor.saving = none → (∀ x, s.field.transaction = some x → x.kind ≠ .poll i) →
        (∀ m, s.field.management = some m → m.entry ≠ i) →
        (a.enable = 1 → a.address ≠ s.field.settings.ownAddress
          ∧ ∀ j : Fin 8, j ≠ i → s.field.heads[j].config.enable = true →
            s.field.heads[j].config.address ≠ a.address
              ∧ (k = .stage → s.field.heads[j].config.kind = .stage → s.field.heads[j].config.channel ≠ ch)) →
        ∃ t, exec (.headSet tag a) s = .next t ∧ (s.setField t.field).Keeps t
          ∧ t.field.heads[i] =
              { config := { enable := a.enable == 1, address := a.address, kind := k, channel := ch
                            normal := max 1 (min 3600 a.normal), quiet := min 3600 a.quiet }
                nextDue := if a.enable = 1 then some s.now else none, noReply := 0, state := .answering
                lastOutcome := none, lastAnswer := none, post := none }
          ∧ (∀ j : Fin 8, j ≠ i → t.field.heads[j] = s.field.heads[j])
          ∧ t.field.settings = s.field.settings ∧ t.field.captured = s.field.captured
          ∧ t.field.lastSent = s.field.lastSent
          ∧ (s.field.tx ≠ .free → t.field.tx = s.field.tx ∧ t.field.transaction = s.field.transaction)
          ∧ t.Answered 0x11 tag (headConfigFields t.field.heads[i].config))
      ∧ (s.supervisor.saving ≠ none ∨ (∃ x, s.field.transaction = some x ∧ x.kind = .poll i)
          ∨ (∃ m, s.field.management = some m ∧ m.entry = i) →
        ∃ t, exec (.headSet tag a) s = .next t ∧ s.Keeps t ∧ t.RefusedFor 0x11 tag 0x05)
      ∧ (s.supervisor.saving = none → (∀ x, s.field.transaction = some x → x.kind ≠ .poll i) →
        (∀ m, s.field.management = some m → m.entry ≠ i) → a.enable = 1 →
        a.address = s.field.settings.ownAddress
          ∨ (∃ j : Fin 8, j ≠ i ∧ s.field.heads[j].config.enable = true
              ∧ (s.field.heads[j].config.address = a.address
                ∨ (k = .stage ∧ s.field.heads[j].config.kind = .stage ∧ s.field.heads[j].config.channel = ch))) →
        ∃ t, exec (.headSet tag a) s = .next t ∧ s.Keeps t ∧ t.RefusedFor 0x11 tag 0x06))
    ∧ (a.entry = 0 ∨ 8 < a.entry ∨ a.address = 0 ∨ 126 < a.address ∨ 1 < a.kind
        ∨ (a.kind = 0 ∧ ∃ n, a.channel = some n ∧ (n = 0 ∨ 4 < n)) →
      ∃ t, exec (.headSet tag a) s = .next t ∧ s.Keeps t ∧ t.RefusedFor 0x11 tag 0x03)

/-- R36: HEAD_PARAM where it is accepted: the management transaction waits while the transmitter is busy, and goes out as
a PARAM_GET or PARAM_SET when the arbiter is free for it; and its refusals LENGTH, BUSY and STATE. That BUSY is judged
before STATE is log 16. -/
def Obligations.HeadParam : Prop :=
  ∀ (s : State) (tag : Byte) (a : HeadParamArgs) (i : Fin 8), s.Calm → a.entry = i.val + 1 → a.operation ≤ 1 →
    a.parameter ≤ 255 →
    (s.field.management = none → s.field.heads[i].config.enable = true → (a.operation = 1 → a.value ≠ none) →
      (s.field.tx ≠ .free → ∃ t, exec (.headParam tag a) s = .next t ∧ (s.setField t.field).Keeps t
        ∧ t.field = { s.field with
            management := some
              { entry := i, op := if a.operation = 0 then .get else .set, parameter := a.parameter
                value := if a.operation = 0 then none else a.value, inFlight := false } }
        ∧ t.Answered 0x13 tag [])
      ∧ (s.field.tx = .free → s.field.warn ≠ .standing →
        ∃ t, exec (.headParam tag a) s = .next t ∧ (s.setField t.field).Keeps t
          ∧ t.field.management = some
              { entry := i, op := if a.operation = 0 then .get else .set, parameter := a.parameter
                value := if a.operation = 0 then none else a.value, inFlight := true }
          ∧ t.field.tx = .waitingIdle ∧ t.field.deferral = some (s.now + 1500)
          ∧ t.field.transaction = some
              { kind := .management, attempts := 0, backoffBits := s.field.settings.backoffBits
                singleAttempt := s.field.settings.singleAttempt
                frame := { destination := s.field.heads[i].config.address, source := s.field.settings.ownAddress
                           kind := if a.operation = 0 then 0x12 else 0x13
                           payload := BitVec.ofNat 8 a.parameter
                             :: if a.operation = 0 then [] else numberOctets 4 (a.value.getD 0) } }
          ∧ t.field.heads = s.field.heads ∧ t.field.settings = s.field.settings
          ∧ t.field.captured = s.field.captured ∧ t.Answered 0x13 tag []))
    ∧ (a.operation = 1 → a.value = none →
      ∃ t, exec (.headParam tag a) s = .next t ∧ s.Keeps t ∧ t.RefusedFor 0x13 tag 0x01)
    ∧ ((a.operation = 1 → a.value ≠ none) → s.field.management ≠ none →
      ∃ t, exec (.headParam tag a) s = .next t ∧ s.Keeps t ∧ t.RefusedFor 0x13 tag 0x05)
    ∧ ((a.operation = 1 → a.value ≠ none) → s.field.management = none → s.field.heads[i].config.enable = false →
      ∃ t, exec (.headParam tag a) s = .next t ∧ s.Keeps t ∧ t.RefusedFor 0x13 tag 0x04)

/-- R45 to R47, R61, R65, R69: CHANNEL_SET where it is taken: the channel starts afresh under the clamped and adjusted
settings, hands its absent value to the station stage unit, which votes over it and hands on what changed, CHANNEL_STATE
is raised, and no other channel changes; and its refusals. -/
def Obligations.ChannelSet : Prop :=
  ∀ (s : State) (tag : Byte) (a : ChannelSetArgs) (i : Fin 4), s.Calm → a.channel = i.val + 1 → a.enable ≤ 1 →
    a.sense ≤ 1 → 1 ≤ a.rank → a.rank ≤ 4 →
    (max (-999999) (min 999999 a.minimum) < max (-999999) (min 999999 a.maximum) →
      (s.supervisor.saving = none →
        (a.enable = 1 → ∀ j : Fin 4, j ≠ i → s.channels[j].settings.enable = true →
          s.channels[j].settings.rank ≠ a.rank) →
        ∃ t, exec (.channelSet tag a) s = .next t
          ∧ t.channels[i] =
              { settings :=
                  { enable := a.enable == 1, gain := max 950000 (min 1050000 a.gain)
                    offset := max (-99999) (min 99999 a.offset), sense := if a.sense = 0 then .direct else .inverted
                    minimum := max (-999999) (min 999999 a.minimum)
                    maximum := max (-999999) (min 999999 a.maximum), stepLimit := min 5000 a.stepLimit
                    window := if a.window = 0 then 1 else if 15 ≤ a.window then 15
                      else if a.window % 2 = 0 then a.window + 1 else a.window
                    staleTime := max 10 (min 3600 a.staleTime), rank := a.rank }
                state := if a.enable = 1 then .filling else .off, window := [], rejections := 0
                chainLength := 0, candidate := none
                staleExpiry := if a.enable = 1 then some (s.now + max 10 (min 3600 a.staleTime) * 1000) else none
                lastReading := none
                lastChange := some
                  { cause := if a.enable = 1 ∧ s.channels[i].settings.enable = false then .enabled
                      else if a.enable = 0 ∧ s.channels[i].settings.enable = true then .disabled else .settings
                    runTime := s.now }
                counters := { accepted := 0, range := 0, step := 0, reAnchors := 0, headFaults := 0 } }
          ∧ (∀ j : Fin 4, j ≠ i → t.channels[j] = s.channels[j])
          ∧ s.Voted t { s.stage with
              items := s.stage.items.set i { state := if a.enable = 1 then .filling else .off, filtered := none } }
          ∧ s.Told t .channelState (t.channelSnapshot i) ∧ t.supervisor = s.supervisor
          ∧ t.field.heads = s.field.heads ∧ t.time.runTime = s.time.runTime
          ∧ t.Answered 0x18 tag (.num 1 a.channel :: channelSettingFields t.channels[i].settings))
      ∧ (s.supervisor.saving ≠ none →
        ∃ t, exec (.channelSet tag a) s = .next t ∧ s.Keeps t ∧ t.RefusedFor 0x18 tag 0x05)
      ∧ (s.supervisor.saving = none → a.enable = 1 → (∃ j : Fin 4, j ≠ i ∧ s.channels[j].settings.enable = true
          ∧ s.channels[j].settings.rank = a.rank) →
        ∃ t, exec (.channelSet tag a) s = .next t ∧ s.Keeps t ∧ t.RefusedFor 0x18 tag 0x06))
    ∧ (max (-999999) (min 999999 a.maximum) ≤ max (-999999) (min 999999 a.minimum) →
      ∃ t, exec (.channelSet tag a) s = .next t ∧ s.Keeps t ∧ t.RefusedFor 0x18 tag 0x03)

/-- R65, R69, R70, R72, R76, R79, R85: STAGE_SET where it is taken: the clamped settings, the vote under them over the
channels' items as they were, whose changes are handed on, and a record timer brought forward to the new interval at the
latest; refused BUSY and RANGE. That RANGE is judged before BUSY is log 16. -/
def Obligations.StageSet : Prop :=
  ∀ (s : State) (tag : Byte) (a : StageSetArgs), s.Calm →
    (a.method ≤ 1 → s.supervisor.saving = none → ∃ t, exec (.stageSet tag a) s = .next t
      ∧ t.stage.settings =
          { method := if a.method = 0 then .ranked else .middle, agreement := min 2000 a.agreement
            required := max 1 (min 4 a.required), normalInterval := max 10 (min 900 a.normalInterval)
            quietInterval := max 60 (min 3600 a.quietInterval)
            rateWindow := max 300 (min 3600 (a.rateWindow - a.rateWindow % 60)) }
      ∧ t.stage.recordExpiry = min s.stage.recordExpiry (s.now + max 10 (min 900 a.normalInterval) * 1000)
      ∧ s.Voted t { s.stage with settings := t.stage.settings }
      ∧ t.channels = s.channels ∧ t.supervisor = s.supervisor
      ∧ t.time.runTime = s.time.runTime ∧ t.field.heads = s.field.heads
      ∧ t.Answered 0x1A tag (stageSettingFields t.stage.settings))
    ∧ (a.method ≤ 1 → s.supervisor.saving ≠ none →
      ∃ t, exec (.stageSet tag a) s = .next t ∧ s.Keeps t ∧ t.RefusedFor 0x1A tag 0x05)
    ∧ (1 < a.method → ∃ t, exec (.stageSet tag a) s = .next t ∧ s.Keeps t ∧ t.RefusedFor 0x1A tag 0x03)

/-- R82, R83, R86, R88, R89: RULE_SET where it is taken: the definition as held, the other definitions as they were, the
level computed; a disabled rule stands IDLE with nothing else, an enabled rule is judged at once against the input of its
kind, or BLIND without one. STAGE_QUALITY is raised where a BLIND flag has changed. Where the level change appends its
event record at once, the new rate is handed to an enabled RATE rule there (log 34). -/
def Obligations.RuleSet : Prop :=
  ∀ (s : State) (tag : Byte) (a : RuleSetArgs) (i : Fin 8), s.Calm → a.rule = i.val + 1 → a.enable ≤ 1 → a.kind ≤ 1 →
    1 ≤ a.level → a.level ≤ 3 →
    (s.supervisor.saving = none →
      ∃ (t : State) (d : RuleDef), exec (.ruleSet tag a) s = .next t ∧ t.warning.rules[i].definition = d
        ∧ d.enable = (a.enable == 1) ∧ d.kind = (if a.kind = 0 then .stage else .rate) ∧ d.level = a.level
        ∧ (let bound : Int := if a.kind = 0 then 999999 else 99999
          d.setThreshold = max (-bound) (min bound a.setThreshold)
            ∧ d.clearThreshold = min d.setThreshold (max (-bound) (min bound a.clearThreshold)))
        ∧ d.confirmTime = min 3600 a.confirmTime ∧ d.clearDelay = min 21600 a.clearDelay
        ∧ (∀ j : Fin 8, j ≠ i → t.warning.rules[j].definition = s.warning.rules[j].definition)
        ∧ t.LevelHeld ∧ t.warning.floor = s.warning.floor ∧ t.supervisor = s.supervisor
        ∧ t.channels = s.channels ∧ t.time.runTime = s.time.runTime
        ∧ (a.enable = 0 → t.warning.rules[i].state = .idle ∧ t.warning.rules[i].timer = .none
            ∧ t.warning.rules[i].blind = false ∧ t.warning.rules[i].lastValue = none)
        ∧ (a.enable = 1 → a.kind = 0 → s.warning.stageInput = none →
            t.warning.rules[i].state = .idle ∧ t.warning.rules[i].timer = .none ∧ t.warning.rules[i].blind = true)
        ∧ (a.enable = 1 → a.kind = 0 → ∀ v, s.warning.stageInput = some v →
            t.warning.rules[i].blind = false ∧ t.warning.rules[i].lastValue = some v
            ∧ (v < d.setThreshold → t.warning.rules[i].state = .idle ∧ t.warning.rules[i].timer = .none)
            ∧ (d.setThreshold ≤ v → d.confirmTime = 0 →
                t.warning.rules[i].state = .active ∧ t.warning.rules[i].timer = .none)
            ∧ (d.setThreshold ≤ v → 0 < d.confirmTime →
                t.warning.rules[i].state = .confirming
                  ∧ t.warning.rules[i].timer = .running (s.now + d.confirmTime * 1000)))
        ∧ (a.enable = 1 → a.kind = 1 → ∃ r : Rule, r.definition = d
            ∧ (s.warning.rateInput = none → r.state = .idle ∧ r.timer = .none ∧ r.blind = true ∧ r.lastValue = none)
            ∧ (∀ v, s.warning.rateInput = some v → r.blind = false ∧ r.lastValue = some v
              ∧ (v < d.setThreshold → r.state = .idle ∧ r.timer = .none)
              ∧ (d.setThreshold ≤ v → d.confirmTime = 0 → r.state = .active ∧ r.timer = .none)
              ∧ (d.setThreshold ≤ v → 0 < d.confirmTime →
                  r.state = .confirming ∧ r.timer = .running (s.now + d.confirmTime * 1000)))
            ∧ t.warning.rules[i] = (if t.stage.nextSequence ≠ s.stage.nextSequence
                then handRule s.now t.stage.rate r else r)
            ∧ (s.link.notice ≠ none → r.blind ≠ s.warning.rules[i].blind →
                ∃ x, t.notices.slots[sourcePlace .stageQuality] = some x ∧ x.content = t.qualitySnapshot false))
        ∧ (a.kind = 0 ∨ a.enable = 0 ∨ t.stage.nextSequence = s.stage.nextSequence → s.QualityTold t)
        ∧ t.Answered 0x20 tag
            [.flag d.enable, .code a.kind, .num 1 a.level, .num 3 d.setThreshold, .num 3 d.clearThreshold,
             .num 2 d.confirmTime, .num 2 d.clearDelay, .code (ruleStateCode t.warning.rules[i].state),
             .flag t.warning.rules[i].blind])
    ∧ (s.supervisor.saving ≠ none →
      ∃ t, exec (.ruleSet tag a) s = .next t ∧ s.Keeps t ∧ t.RefusedFor 0x20 tag 0x05)

/-- R73, R89 to R94, R139: WARNING_FLOOR 0 to 3: the floor is replaced and the level computed; where the level stands,
nothing else changes, and where it changes all that a level change brings about follows, with cause FLOOR, unless the
rate of its own event record can change it again (log 34): where that record waits, or no enabled rule is a RATE rule.
That a siren start or stop sends a WARN of its own from a FREE transmitter is log 20. Another value is refused RANGE. -/
def Obligations.WarningFloor : Prop :=
  ∀ (s : State) (tag : Byte) (floor : Nat), s.Calm →
    (floor ≤ 3 → ∃ t, exec (.warningFloor tag floor) s = .next t ∧ t.warning.floor = floor ∧ t.LevelHeld
      ∧ (∀ i : Fin 8, t.warning.rules[i].definition = s.warning.rules[i].definition)
      ∧ t.supervisor = s.supervisor ∧ t.channels = s.channels ∧ t.time.runTime = s.time.runTime
      ∧ t.Answered 0x25 tag [.num 1 floor, .num 1 t.warning.level]
      ∧ (max floor (rulesLevel s.warning.rules) = s.warning.level →
          (s.setWarning { s.warning with floor := floor }).Keeps t)
      ∧ (max floor (rulesLevel s.warning.rules) ≠ s.warning.level →
          t.warning.lastChange.map (·.runTime) = some s.now
          ∧ (s.AppendWaits ∨ (∀ j : Fin 8, s.warning.rules[j].definition.enable = true →
                s.warning.rules[j].definition.kind = .stage) →
              s.LevelChanged t .floor (max floor (rulesLevel s.warning.rules))
                ∧ (∀ j : Fin 8, t.warning.rules[j] = s.warning.rules[j]))))
    ∧ (3 < floor → ∃ t, exec (.warningFloor tag floor) s = .next t ∧ s.Keeps t ∧ t.RefusedFor 0x25 tag 0x03)

/-- R94, R96: WARNING_ACK stops a SOUNDING siren and leaves any other as it is. R94, R95, R100: the siren run timer ends a
sounding siren, into REPEAT_WAIT while AUTONOMOUS where a repeat applies; the repeat timer starts it again and counts
a start of the spell; each raises a WARN request. That a command whose event does not hold changes nothing is read
from the spec by inference (log 12). -/
def Obligations.Siren : Prop :=
  (∀ (s : State) (tag : Byte), s.Calm →
      (∀ e, s.warning.siren = .sounding e → ∃ t, exec (.warningAck tag) s = .next t
        ∧ ((s.setWarning { s.warning with siren := .off }).setField t.field).Keeps t
        ∧ t.field.heads = s.field.heads ∧ t.field.settings = s.field.settings
        ∧ (s.field.tx ≠ .free → t.field = { s.field with warn := .standing })
        ∧ (s.field.tx = .free → t.field.warn = .none ∧ t.field.tx = .waitingIdle
            ∧ t.field.transaction = some
                { kind := .warn s.warning.level, attempts := 0, backoffBits := s.field.settings.backoffBits
                  singleAttempt := s.field.settings.singleAttempt
                  frame := { destination := s.field.settings.postGroup, source := s.field.settings.ownAddress
                             kind := 0x20, payload := [BitVec.ofNat 8 s.warning.level, 0, 0] } })
        ∧ t.Answered 0x24 tag [.code 1, .code 0, .num 1 s.warning.level])
      ∧ ((∀ e, s.warning.siren ≠ .sounding e) → ∃ t, exec (.warningAck tag) s = .next t ∧ s.Keeps t
        ∧ t.Answered 0x24 tag
            [.code (sirenCode s.warning.siren), .code (sirenCode s.warning.siren), .num 1 s.warning.level]))
  ∧ ((∀ (s : State) (e : Nat), s.warning.siren = .sounding e →
      (e ≤ s.now → ∃ t, exec .sirenRunExpiry s = .next t
        ∧ t = (s.setWarning { s.warning with siren := t.warning.siren }).setField t.field
        ∧ t.warning.siren = (if s.warning.autonomous = true ∧ s.warning.settings.repeatInterval ≠ 0
              ∧ s.warning.settings.sirenLevel ≤ s.warning.level
            then .repeatWait (s.now + s.warning.settings.repeatInterval * 1000) else .off)
        ∧ t.field.heads = s.field.heads ∧ (s.field.tx ≠ .free → t.field = { s.field with warn := .standing }))
      ∧ (s.now < e → exec .sirenRunExpiry s = .next s))
    ∧ (∀ (s : State) (e : Nat), s.warning.siren = .repeatWait e →
      (e ≤ s.now → ∃ t, exec .repeatExpiry s = .next t
        ∧ t = (s.setWarning { s.warning with siren := t.warning.siren, spell := t.warning.spell }).setField t.field
        ∧ t.warning.siren = .sounding (s.now + s.warning.settings.sirenRun * 1000)
        ∧ t.warning.spell = (if s.warning.autonomous = true
            then s.warning.spell.map fun p => { p with sirenStarts := if p.sirenStarts < 255 then p.sirenStarts + 1
                else p.sirenStarts }
            else s.warning.spell)
        ∧ t.field.heads = s.field.heads ∧ (s.field.tx ≠ .free → t.field = { s.field with warn := .standing }))
      ∧ (s.now < e → exec .repeatExpiry s = .next s))
    ∧ (∀ s : State, (∀ e, s.warning.siren ≠ .sounding e) → exec .sirenRunExpiry s = .next s)
    ∧ (∀ s : State, (∀ e, s.warning.siren ≠ .repeatWait e) → exec .repeatExpiry s = .next s))

/-- R97: WARNING_SET where it is taken with no run ACTIVE: the settings as held; a siren that sounds below the new siren
level stops, any other stands; refused RANGE and BUSY. With a run ACTIVE whose withdraw level is reached the run is
aborted WITHDRAW (R139). That RANGE is judged before BUSY is log 16. -/
def Obligations.WarningSet : Prop :=
  ∀ (s : State) (tag : Byte) (a : WarningSetArgs), s.Calm →
    (1 ≤ a.sirenLevel → a.sirenLevel ≤ 3 → 1 ≤ a.withdrawLevel → a.withdrawLevel ≤ 3 →
      (s.supervisor.saving = none → ∃ t, exec (.warningSet tag a) s = .next t
        ∧ t.warning.settings =
            { sirenLevel := a.sirenLevel, sirenRun := max 10 (min 600 a.sirenRun)
              repeatInterval := min 3600 a.repeatInterval, withdrawLevel := a.withdrawLevel }
        ∧ t.warning.siren = (match s.warning.siren with
            | .sounding e => if s.warning.level < a.sirenLevel then .off else .sounding e
            | x => x)
        ∧ t.warning.level = s.warning.level ∧ t.warning.rules = s.warning.rules
        ∧ t.supervisor = s.supervisor ∧ t.channels = s.channels ∧ t.stage = s.stage
        ∧ (s.run.state ≠ .active ∨ s.warning.level < a.withdrawLevel →
            ((s.setWarning t.warning).setField t.field).Keeps t)
        ∧ (s.run.state = .active → a.withdrawLevel ≤ s.warning.level →
            t.run.state = .aborted ∧ t.run.reason = some .withdraw)
        ∧ t.Answered 0x22 tag (warningSettingFields t.warning.settings))
      ∧ (s.supervisor.saving ≠ none →
        ∃ t, exec (.warningSet tag a) s = .next t ∧ s.Keeps t ∧ t.RefusedFor 0x22 tag 0x05))
    ∧ (a.sirenLevel = 0 ∨ 3 < a.sirenLevel ∨ a.withdrawLevel = 0 ∨ 3 < a.withdrawLevel →
      ∃ t, exec (.warningSet tag a) s = .next t ∧ s.Keeps t ∧ t.RefusedFor 0x22 tag 0x03)

/-- R98, R99: MONITOR_SET where it is taken: the exponent clamped, the monitor RUNNING for a fresh interval of 15 s × 2ⁿ,
or OFF; refused BUSY. R98, R100: the expiry of the monitor: AUTONOMOUS with a new spell record and the monitor
STOPPED, a silent siren taken up again where a repeat applies, and an ACTIVE run aborted LINK_SILENT; before it
nothing. That a command whose event does not hold changes nothing is read from the spec by inference (log 12). -/
def Obligations.HostSilence : Prop :=
  (∀ (s : State) (tag : Byte) (enable n : Nat), s.Calm → enable ≤ 1 →
      (s.supervisor.saving = none → ∃ t, exec (.monitorSet tag enable n) s = .next t
        ∧ (s.setWarning t.warning).Keeps t
        ∧ t.warning = { s.warning with
            monitorSettings := { enable := enable == 1, exponent := min n 7 }
            monitor := if enable = 1 then .running (s.now + 15000 * 2 ^ min n 7) else .off }
        ∧ t.Answered 0x26 tag
            ([.flag (enable == 1), .num 1 (min n 7), .num 2 (15 * 2 ^ min n 7)]
              ++ optTime (if enable = 1 then some (s.now + 15000 * 2 ^ min n 7) else none)))
      ∧ (s.supervisor.saving ≠ none →
        ∃ t, exec (.monitorSet tag enable n) s = .next t ∧ s.Keeps t ∧ t.RefusedFor 0x26 tag 0x05))
  ∧ ((∀ (s : State) (e : Nat), s.warning.monitor = .running e →
      (e ≤ s.now → ∃ t, exec .monitorExpiry s = .next t ∧ t.warning.autonomous = true ∧ t.warning.monitor = .stopped
        ∧ t.warning.spell = some
            { enteredRunTime := s.now, enteredStation := s.time.stationTime, leftRunTime := none
              leftStation := none, highest := s.warning.level, atDeparture := none, sirenStarts := 0 }
        ∧ t.warning.siren = (if s.warning.siren = .off ∧ s.warning.settings.repeatInterval ≠ 0
              ∧ s.warning.settings.sirenLevel ≤ s.warning.level
            then .repeatWait (s.now + s.warning.settings.repeatInterval * 1000) else s.warning.siren)
        ∧ t.warning.level = s.warning.level ∧ t.warning.rules = s.warning.rules ∧ t.stage = s.stage
        ∧ t.channels = s.channels ∧ t.supervisor = s.supervisor ∧ t.field.heads = s.field.heads
        ∧ (s.run.state ≠ .active → t.gauging = s.gauging ∧ t.cable = s.cable ∧ t.time = s.time)
        ∧ (s.run.state = .active → t.run.state = .aborted ∧ t.run.reason = some .linkSilent))
      ∧ (s.now < e → exec .monitorExpiry s = .next s))
    ∧ (∀ s : State, (∀ e, s.warning.monitor ≠ .running e) → exec .monitorExpiry s = .next s))

/-- R107, R108: CARRIAGE_SET where it is taken: the eight settings clamped; a changed scale loses the position, and PARKED
with it; a reel scale that becomes present with REEL_TOP closed makes the payout present. Refused STATE and BUSY. That
BUSY is judged before STATE is log 16. -/
def Obligations.CarriageSet : Prop :=
  ∀ (s : State) (tag : Byte) (a : CarriageSetArgs), s.Calm →
    (s.supervisor.saving = none → s.run.state ≠ .active → s.cable.motion ≠ .homing → s.cable.motion ≠ .retracting →
      ∃ (t : State) (x : CarriageSettings), exec (.carriageSet tag a) s = .next t ∧ (s.setCable t.cable).Keeps t
        ∧ x = { traverseScale := some (max 100 (min 50000 a.traverseScale))
                reelScale := some (max 100 (min 50000 a.reelScale)), span := some (max 1000 (min 300000 a.span))
                tolerance := max 20 (min 200 a.tolerance), stallTime := max 2 (min 30 a.stallTime)
                weightOffset := max 50 (min 500 a.weightOffset)
                maxDepth := some (max 500 (min 30000 a.maxDepth)), settleTime := max 5 (min 60 a.settleTime) }
        ∧ t.cable.settings = x ∧ t.cable.traverseCount = s.cable.traverseCount
        ∧ t.cable.reelCount = s.cable.reelCount ∧ t.cable.drive = s.cable.drive ∧ t.cable.switches = s.cable.switches
        ∧ (x.traverseScale = s.cable.settings.traverseScale → x.reelScale = s.cable.settings.reelScale →
            t.cable.positionKnown = s.cable.positionKnown ∧ t.cable.motion = s.cable.motion)
        ∧ (x.traverseScale ≠ s.cable.settings.traverseScale ∨ x.reelScale ≠ s.cable.settings.reelScale →
            t.cable.positionKnown = false
              ∧ t.cable.motion = if s.cable.motion = .parked then .unreferenced else s.cable.motion)
        ∧ (t.cable.payoutKnown = true ↔ s.cable.payoutKnown = true
            ∨ (s.cable.settings.reelScale = none ∧ s.cable.switches.reelTop = true))
        ∧ t.Answered 0x28 tag (carriageSetReply t))
    ∧ (s.supervisor.saving = none → s.run.state = .active ∨ s.cable.motion = .homing ∨ s.cable.motion = .retracting →
      ∃ t, exec (.carriageSet tag a) s = .next t ∧ s.Keeps t ∧ t.RefusedFor 0x28 tag 0x04)
    ∧ (s.supervisor.saving ≠ none →
      ∃ t, exec (.carriageSet tag a) s = .next t ∧ s.Keeps t ∧ t.RefusedFor 0x28 tag 0x05)

/-- R109, R111: CARRIAGE_HOME where it is taken: the reel is raised first while REEL_TOP is open, then the carriage driven
in; at home already, it is PARKED at once. Refused STATE while unconfigured or overloaded. R111: CARRIAGE_HOME with a
run ACTIVE is refused STATE, whatever the cableway; without one, on a configured cableway that is not overloaded, BUSY
while HOMING or RETRACTING; in a state that neither takes it nor is named there, STATE (log 33). -/
def Obligations.CarriageHome : Prop :=
  (∀ (s : State) (tag : Byte), s.Calm → s.run.state ≠ .active →
      (s.cable.settings.traverseScale ≠ none → s.cable.settings.reelScale ≠ none → s.cable.settings.span ≠ none →
        s.cable.settings.maxDepth ≠ none → s.cable.switches.overload = false → s.cable.drive = none →
        s.cable.motion = .unreferenced ∨ s.cable.motion = .parked ∨ s.cable.motion = .faulted →
        (s.cable.switches.reelTop = false → ∃ t, exec (.carriageHome tag) s = .next t ∧ (s.setCable t.cable).Keeps t
          ∧ t.cable = { s.cable with motion := .homing, positionKnown := false, drive := some .reelUp
                                     stall := some (s.now + s.cable.settings.stallTime * 1000) }
          ∧ t.Answered 0x29 tag [.code 1])
        ∧ (s.cable.switches.reelTop = true → s.cable.switches.homeLimit = false →
          ∃ t, exec (.carriageHome tag) s = .next t ∧ (s.setCable t.cable).Keeps t
            ∧ t.cable = { s.cable with motion := .homing, positionKnown := false, drive := some .traverseIn
                                       stall := some (s.now + s.cable.settings.stallTime * 1000) }
            ∧ t.Answered 0x29 tag [.code 1])
        ∧ (s.cable.switches.reelTop = true → s.cable.switches.homeLimit = true →
          ∃ t, exec (.carriageHome tag) s = .next t ∧ (s.setCable t.cable).Keeps t
            ∧ t.cable = { s.cable with motion := .parked, positionKnown := true, traverseCount := 0 }
            ∧ t.Answered 0x29 tag [.code 2]))
      ∧ (s.cable.settings.traverseScale = none ∨ s.cable.settings.reelScale = none ∨ s.cable.settings.span = none
          ∨ s.cable.settings.maxDepth = none ∨ s.cable.switches.overload = true →
        ∃ t, exec (.carriageHome tag) s = .next t ∧ s.Keeps t ∧ t.RefusedFor 0x29 tag 0x04))
  ∧ (∀ (s : State) (tag : Byte), s.Calm →
      (s.run.state = .active → ∃ t, exec (.carriageHome tag) s = .next t ∧ s.Keeps t ∧ t.RefusedFor 0x29 tag 0x04)
      ∧ (s.run.state ≠ .active → s.cable.settings.traverseScale ≠ none → s.cable.settings.reelScale ≠ none →
        s.cable.settings.span ≠ none → s.cable.settings.maxDepth ≠ none → s.cable.switches.overload = false →
        (s.cable.motion = .homing ∨ s.cable.motion = .retracting →
          ∃ t, exec (.carriageHome tag) s = .next t ∧ s.Keeps t ∧ t.RefusedFor 0x29 tag 0x05)
        ∧ (s.cable.motion ∉ [.unreferenced, .parked, .faulted, .homing, .retracting] →
          ∃ t, exec (.carriageHome tag) s = .next t ∧ s.Keeps t ∧ t.RefusedFor 0x29 tag 0x04)))

/-- R125, R126: PLAN_CLEAR and PLAN_PUT where they are taken, and PLAN_PUT's refusals in their order. R127: METER_SET
where it is taken: the rating replaced, its start rate, intercepts and pitches clamped; refused RANGE, ORDER and BUSY,
in that order. -/
def Obligations.PlanAndMeter : Prop :=
  ((∀ (s : State) (tag : Byte) (exposure limit : Nat), s.Calm →
      (s.run.state ≠ .active → s.supervisor.saving = none →
        ∃ t, exec (.planClear tag exposure limit) s = .next t ∧ (s.setGauging t.gauging).Keeps t
          ∧ t.gauging = { s.gauging with
              plan :=
              { entries := [], defaultExposure := max 20 (min 180 exposure), changeLimit := min 1000 limit } }
          ∧ t.Answered 0x2C tag [.num 1 (max 20 (min 180 exposure) : Nat), .num 2 (min 1000 limit : Nat)])
      ∧ (s.run.state = .active ∨ s.supervisor.saving ≠ none →
        ∃ t, exec (.planClear tag exposure limit) s = .next t ∧ s.Keeps t ∧ t.RefusedFor 0x2C tag 0x05))
    ∧ (∀ (s : State) (tag : Byte) (a : PlanPutArgs), s.Calm →
      (a.index = 0 ∨ 40 < a.index ∨ 300000 < a.distance ∨ 4 < a.method →
        ∃ t, exec (.planPut tag a) s = .next t ∧ s.Keeps t ∧ t.RefusedFor 0x2D tag 0x03)
      ∧ ∀ m, methodOf a.method = some m → 1 ≤ a.index → a.index ≤ 40 → a.distance ≤ 300000 →
        (m = .surface → a.depth = none →
          ∃ t, exec (.planPut tag a) s = .next t ∧ s.Keeps t ∧ t.RefusedFor 0x2D tag 0x08)
        ∧ ((m = .surface → a.depth ≠ none) → s.gauging.plan.entries.length + 1 < a.index →
          ∃ t, exec (.planPut tag a) s = .next t ∧ s.Keeps t ∧ t.RefusedFor 0x2D tag 0x0B)
        ∧ ((m = .surface → a.depth ≠ none) → a.index ≤ s.gauging.plan.entries.length + 1 →
          (s.run.state = .active ∨ s.supervisor.saving ≠ none →
            ∃ t, exec (.planPut tag a) s = .next t ∧ s.Keeps t ∧ t.RefusedFor 0x2D tag 0x05)
          ∧ (s.run.state ≠ .active → s.supervisor.saving = none →
            ((∃ e ∈ s.gauging.plan.entries.take (a.index - 1), a.distance ≤ e.distance)
                ∨ (∃ e ∈ s.gauging.plan.entries.drop a.index, e.distance ≤ a.distance) →
              ∃ t, exec (.planPut tag a) s = .next t ∧ s.Keeps t ∧ t.RefusedFor 0x2D tag 0x07)
            ∧ ((∀ e ∈ s.gauging.plan.entries.take (a.index - 1), e.distance < a.distance) →
              (∀ e ∈ s.gauging.plan.entries.drop a.index, a.distance < e.distance) →
              ∃ (t : State) (e : PlanEntry), exec (.planPut tag a) s = .next t ∧ (s.setGauging t.gauging).Keeps t
                ∧ e = { distance := a.distance, method := m, depth := a.depth.map fun d => min 30000 d
                        coefficient := if m = .surface then some (max 500 (min 1000 (a.coefficient.getD 850))) else none
                        exposure := a.exposure.map fun x => max 20 (min 180 x) }
                ∧ t.gauging = { s.gauging with
                    plan := { s.gauging.plan with
                      entries := s.gauging.plan.entries.take (a.index - 1) ++ e :: s.gauging.plan.entries.drop a.index } }
                ∧ t.Answered 0x2D tag
                    ([.num 1 a.index, .num 3 e.distance, .code (methodCode e.method)] ++ optNum 2 e.depth
                      ++ optNum 2 e.coefficient ++ optNum 1 e.exposure ++ [.num 1 t.gauging.plan.entries.length]))))))
  ∧ (∀ (s : State) (tag : Byte) (a : MeterSetArgs), s.Calm →
      ((a.ratio ≠ 1 ∧ a.ratio ≠ 2 ∧ a.ratio ≠ 5) ∨ a.segments.length = 0 ∨ 3 < a.segments.length
          ∨ (∃ g ∈ a.segments, 100000 < g.lower) →
        ∃ t, exec (.meterSet tag a) s = .next t ∧ s.Keeps t ∧ t.RefusedFor 0x2B tag 0x03)
      ∧ (a.ratio = 1 ∨ a.ratio = 2 ∨ a.ratio = 5 → a.segments.length ≤ 3 → (∀ g ∈ a.segments, g.lower ≤ 100000) →
        ∀ g rest, a.segments = g :: rest →
        (g.lower = 0 → (a.segments.map (·.lower)).IsChain (· < ·) →
          (s.run.state ≠ .active → s.supervisor.saving = none →
            ∃ (t : State) (r : Rating), exec (.meterSet tag a) s = .next t ∧ (s.setGauging t.gauging).Keeps t
              ∧ r = { ratio := a.ratio, startRate := min 200 a.startRate
                      segments := a.segments.map fun g =>
                        { lower := g.lower, intercept := max (-100) (min 500 g.intercept)
                          pitch := max 50000 (min 1000000 g.pitch) } }
              ∧ t.gauging = { s.gauging with rating := some r }
              ∧ t.Answered 0x2B tag
                  ([.num 1 r.ratio, .num 1 r.startRate]
                    ++ listFields r.segments fun g => [.num 3 g.lower, .num 2 g.intercept, .num 3 g.pitch]))
          ∧ (s.run.state = .active ∨ s.supervisor.saving ≠ none →
            ∃ t, exec (.meterSet tag a) s = .next t ∧ s.Keeps t ∧ t.RefusedFor 0x2B tag 0x05))
        ∧ (g.lower ≠ 0 ∨ ¬ (a.segments.map (·.lower)).IsChain (· < ·) →
          ∃ t, exec (.meterSet tag a) s = .next t ∧ s.Keeps t ∧ t.RefusedFor 0x2B tag 0x07)))

/-- R128, R129, R112: RUN_START from PARKED with a fit plan: the run is ACTIVE in TRAVEL to entry 1, its start recorded
and its record emptied, and the carriage TRAVELLING; with the carriage at home and entry 1 at 0 the edge is stored at
once and entry 2 is in hand. R128: the refusals of RUN_START, in their order: STATE, PLAN, METER, LEVEL. R139: a
RUN_START that waited for the line into AUTONOMOUS leaves no run ACTIVE: the run it starts over a plan with a vertical
that is not EDGE, with SURFACE_CONTACT open, is aborted LINK_SILENT at once (log 46, the model's choice). -/
def Obligations.RunStart : Prop :=
  (∀ (s : State) (tag : Byte) (e1 e2 : PlanEntry) (rest : List PlanEntry), s.Calm → s.run.state ≠ .active →
      s.run.state ≠ .returning → s.cable.motion = .parked → s.cable.positionKnown = true → s.cable.traverseCount = 0 →
      s.cable.switches.farLimit = false → s.cable.drive = none →
      s.gauging.plan.entries = e1 :: e2 :: rest → 1 ≤ rest.length → e1.method = .edge →
      rest.getLast?.map (·.method) = some .edge →
      (∀ e ∈ s.gauging.plan.entries, e.distance ≤ s.cable.settings.span.getD 0) → s.gauging.rating ≠ none →
      s.warning.level < s.warning.settings.withdrawLevel →
      (s.cable.settings.tolerance < e1.distance → ∃ t, exec (.runStart tag) s = .next t
        ∧ ((s.setGauging t.gauging).setCable t.cable).Keeps t
        ∧ t.gauging.plan = s.gauging.plan ∧ t.run.state = .active ∧ t.run.phase = some .travel
        ∧ t.run.vertical = freshVertical 1 ∧ t.run.verticals = [] ∧ t.run.reason = none
        ∧ t.run.start = some { runTime := s.now, stationTime := s.time.stationTime, stage := s.stage.stage
                               quality := s.stage.quality }
        ∧ t.cable.motion = .travelling e1.distance
        ∧ t.cable.drive = some (if s.cable.switches.reelTop = true then .traverseOut else .reelUp)
        ∧ t.cable.stall = some (s.now + s.cable.settings.stallTime * 1000)
        ∧ t.Answered 0x2F tag ([.num 6 s.now, .num 1 s.gauging.plan.entries.length] ++ optInt 3 s.stage.stage))
      ∧ (e1.distance = 0 → s.cable.settings.tolerance < e2.distance → ∃ t, exec (.runStart tag) s = .next t
        ∧ ((s.setGauging t.gauging).setCable t.cable).Keeps t
        ∧ t.run.state = .active ∧ t.run.phase = some .travel ∧ t.run.vertical = freshVertical 2
        ∧ t.run.verticals =
            [{ index := 1, method := .edge, distance := 0, arrival := 0, depth := some (e1.depth.getD 0)
               depthSource := some .edge, failed := none, points := [], mean := some 0, skip := none
               retried := false, partialPoints := false }]
        ∧ t.cable.motion = .travelling e2.distance ∧ t.cable.arrival = some 0
        ∧ t.cable.drive = some (if s.cable.switches.reelTop = true then .traverseOut else .reelUp)))
  ∧ (∀ (s : State) (tag : Byte), s.Calm →
      (s.run.state = .active ∨ s.run.state = .returning ∨ s.cable.motion ≠ .parked →
        ∃ t, exec (.runStart tag) s = .next t ∧ s.Keeps t ∧ t.RefusedFor 0x2F tag 0x04)
      ∧ (s.run.state ≠ .active → s.run.state ≠ .returning → s.cable.motion = .parked →
        (s.gauging.plan.entries.length < 3
            ∨ (∃ e ∈ s.gauging.plan.entries, s.cable.settings.span.getD 0 < e.distance)
            ∨ (∃ e, s.gauging.plan.entries.head? = some e ∧ e.method ≠ .edge)
            ∨ (∃ e, s.gauging.plan.entries.getLast? = some e ∧ e.method ≠ .edge) →
          ∃ t, exec (.runStart tag) s = .next t ∧ s.Keeps t ∧ t.RefusedFor 0x2F tag 0x08)
        ∧ (planUnfit s = false → s.gauging.rating = none →
          ∃ t, exec (.runStart tag) s = .next t ∧ s.Keeps t ∧ t.RefusedFor 0x2F tag 0x09)
        ∧ (planUnfit s = false → s.gauging.rating ≠ none → s.warning.settings.withdrawLevel ≤ s.warning.level →
          ∃ t, exec (.runStart tag) s = .next t ∧ s.Keeps t ∧ t.RefusedFor 0x2F tag 0x0A)))
  ∧ (∀ (s : State) (f : HostFrame), s.warning.autonomous = true → s.run.state ≠ .active → s.link.line = some .reply →
      s.link.restart ≠ .accepted → s.link.waiting = some f → f.content = .ok .runStart →
      ∃ t, exec .hostFrameSent s = .next t ∧ t.run.state ≠ .active
        ∧ (s.run.state ≠ .returning → s.cable.motion = .parked → planUnfit s = false → s.gauging.rating ≠ none →
            (∃ e ∈ s.gauging.plan.entries, e.method ≠ .edge) → s.cable.switches.surface = false →
            s.warning.level < s.warning.settings.withdrawLevel →
            t.run.state = .aborted ∧ (t.cable.motion ≠ .faulted → t.run.reason = some .linkSilent)))

/-- R137: RUN_SKIP: in TRAVEL the skip mark is set and nothing else; in the later phases up to EXPOSE the vertical is
marked BY_REQUEST, an exposure is abandoned and the weight is raised. Refused STATE on an EDGE, in RAISE, or without a
run. R138, R139, R118: RUN_ABORT of an ACTIVE run: ABORTED by request, no phase and no exposure, the end recorded, a
vertical past TRAVEL stored SKIPPED with RUN_PROGRESS (R145), and RETRACT ordered: with the weight down the reel is raised
first; PARKED, the return ends at once, with RUN_END (R146). The return outcome in its reply is numbered as log 59 says,
the model's choice. Refused STATE in any other run state. -/
def Obligations.RunSkipAndAbort : Prop :=
  (∀ (s : State) (tag : Byte), s.Calm →
      (s.run.state = .active → (entryInHand s).method ≠ .edge → s.run.vertical.skipMark = false →
        s.run.vertical.marked = none →
        (s.run.phase = some .travel → ∃ t, exec (.runSkip tag) s = .next t ∧ (s.setGauging t.gauging).Keeps t
          ∧ t.gauging = { s.gauging with run := { s.run with vertical := { s.run.vertical with skipMark := true } } }
          ∧ t.Answered 0x30 tag [.num 1 s.run.vertical.index])
        ∧ (s.run.phase = some .sound ∨ s.run.phase = some .place ∨ s.run.phase = some .expose →
          (∃ x, s.cable.motion = .seekingSurface x) ∨ (∃ x, s.cable.motion = .seekingBottom x)
            ∨ (∃ x, s.cable.motion = .toPoint x) ∨ s.cable.motion = .atPoint →
          s.cable.switches.reelTop = false → ∃ t, exec (.runSkip tag) s = .next t
            ∧ ((((s.setGauging t.gauging).setCable t.cable)).setTime t.time).Keeps t
            ∧ t.run.state = .active ∧ t.run.phase = some .raise ∧ t.run.exposure = none
            ∧ t.run.vertical = { s.run.vertical with marked := some .byRequest }
            ∧ t.run.verticals = s.run.verticals ∧ t.cable.motion = .raising ∧ t.cable.drive = some .reelUp
            ∧ t.cable.hold = none ∧ t.cable.settle = none
            ∧ (s.run.exposure ≠ none → t.time = { s.time with exposureSpan := none })
            ∧ (s.run.exposure = none → t.time = s.time)
            ∧ t.Answered 0x30 tag [.num 1 s.run.vertical.index]))
      ∧ (s.run.state ≠ .active ∨ (entryInHand s).method = .edge ∨ s.run.vertical.skipMark = true
          ∨ s.run.vertical.marked ≠ none ∨ s.run.phase = some .raise →
        ∃ t, exec (.runSkip tag) s = .next t ∧ s.Keeps t ∧ t.RefusedFor 0x30 tag 0x04))
  ∧ (∀ (s : State) (tag : Byte), s.Calm →
      (s.run.state = .active → ∃ t, exec (.runAbort tag) s = .next t
        ∧ ((((s.setGauging t.gauging).setCable t.cable)).setTime t.time).Keeps t
        ∧ t.run.state = .aborted ∧ t.run.reason = some .byRequest ∧ t.run.phase = none ∧ t.run.exposure = none
        ∧ t.run.start = s.run.start
        ∧ t.run.finish = some { runTime := s.now, stationTime := s.time.stationTime, stage := s.stage.stage
                                quality := s.stage.quality }
        ∧ t.gauging.plan = s.gauging.plan ∧ t.gauging.rating = s.gauging.rating
        ∧ (s.run.phase = some .travel → t.run.verticals = s.run.verticals ∧ s.Untold t .runProgress)
        ∧ (s.run.phase = some .sound ∨ s.run.phase = some .place ∨ s.run.phase = some .expose
            ∨ s.run.phase = some .raise → ∃ v, t.run.verticals = s.run.verticals ++ [v]
              ∧ v.index = s.run.vertical.index ∧ v.depth = s.run.vertical.depth ∧ v.points = s.run.vertical.points
              ∧ v.mean = none ∧ v.skip = some (s.run.vertical.marked.getD .byRequest)
              ∧ s.Told t .runProgress (s.progressOf v .aborted))
        ∧ (s.cable.motion ≠ .parked → s.cable.motion ≠ .unreferenced → s.cable.motion ≠ .homing →
            s.cable.motion ≠ .faulted → s.cable.motion ≠ .retracting → s.cable.switches.reelTop = false →
            t.cable.motion = .retracting ∧ t.cable.drive = some .reelUp ∧ t.cable.hold = none ∧ t.cable.settle = none
              ∧ t.run.outcome = some .inProgress
              ∧ t.Answered 0x31 tag [.num 1 s.run.vertical.index, .code 0])
        ∧ (s.cable.motion = .parked → t.cable = s.cable ∧ t.run.outcome = some .parked
            ∧ s.Told t .runEnd (endOf t.run) ∧ t.Answered 0x31 tag [.num 1 s.run.vertical.index, .code 1]))
      ∧ (s.run.state ≠ .active → ∃ t, exec (.runAbort tag) s = .next t ∧ s.Keeps t ∧ t.RefusedFor 0x31 tag 0x04))

/-- R27, R98, R172: QUIET where it is taken with no stage or rate wake condition enabled: quiet mode is entered, polls
with a quiet interval of 0 leave the schedule, an enabled monitor is SUSPENDED, and the record timer keeps its expiry.
With the stage wake condition enabled and met, the part is woken at once and the monitor runs (R173). R172: QUIET is
refused STATE with a run ACTIVE, with the carriage neither PARKED nor UNREFERENCED or with a management transaction,
and otherwise BUSY while a SAVE runs. R173, R98: in QUIET an enabled condition that is met wakes the part: QUIET_WOKEN
with WAKE active, a SUSPENDED monitor RUNNING for a full interval, and QUIET_WAKE with the reason and its value; one
disabled or unmet does nothing, and in another state none does. R91, R150: so a level change by a confirm timer, R41:
a post fault, and R77: a rate. -/
def Obligations.Quiet : Prop :=
  (∀ (s : State) (tag : Byte), s.Calm → s.run.state ≠ .active →
      s.cable.motion = .parked ∨ s.cable.motion = .unreferenced → s.field.management = none →
      s.supervisor.saving = none →
      (s.supervisor.wake.stage = false → s.supervisor.wake.rate = false → ∃ t, exec (.quiet tag) s = .next t
        ∧ (((s.setField t.field).setWarning t.warning).setSupervisor t.supervisor).Keeps t
        ∧ t.supervisor = { s.supervisor with quiet := .quiet, wakeOutput := false, quietEntry := s.now }
        ∧ (∀ i : Fin 8, t.field.heads[i] =
            if s.field.heads[i].config.quiet = 0 then { s.field.heads[i] with nextDue := none } else s.field.heads[i])
        ∧ t.field.settings = s.field.settings ∧ t.field.tx = s.field.tx ∧ t.field.captured = s.field.captured
        ∧ sameBut s.warning t.warning
        ∧ (s.warning.monitorSettings.enable = true → t.warning.monitor = .suspended)
        ∧ t.Answered 0x34 tag [.code 1])
      ∧ (∀ v, s.supervisor.wake.stage = true → s.warning.stageInput = some v → s.supervisor.wake.wakeStage ≤ v →
          s.warning.monitorSettings.enable = true → ∃ t, exec (.quiet tag) s = .next t
            ∧ (((s.setField t.field).setWarning t.warning).setSupervisor t.supervisor).Keeps t
            ∧ t.supervisor = { s.supervisor with quiet := .woken, wakeOutput := true, quietEntry := s.now }
            ∧ sameBut s.warning t.warning
            ∧ t.warning.monitor = .running (s.now + 15000 * 2 ^ s.warning.monitorSettings.exponent)
            ∧ t.Answered 0x34 tag [.code 2]))
  ∧ (∀ (s : State) (tag : Byte), s.Calm →
      (s.run.state = .active ∨ (s.cable.motion ≠ .parked ∧ s.cable.motion ≠ .unreferenced)
          ∨ s.field.management ≠ none →
        ∃ t, exec (.quiet tag) s = .next t ∧ s.Keeps t ∧ t.RefusedFor 0x34 tag 0x04)
      ∧ (s.run.state ≠ .active → s.cable.motion = .parked ∨ s.cable.motion = .unreferenced →
        s.field.management = none → s.supervisor.saving ≠ none →
        ∃ t, exec (.quiet tag) s = .next t ∧ s.Keeps t ∧ t.RefusedFor 0x34 tag 0x05))
  ∧ ((∀ (s : State) (r : WakeReason) (met : Bool) (fields : List Field),
      (∃ l, r = .levelChange l ∧ met = s.supervisor.wake.levelChange ∧ fields = [.code 0, .num 1 l])
        ∨ (∃ v, r = .stage v ∧ met = (s.supervisor.wake.stage && decide (s.supervisor.wake.wakeStage ≤ v))
            ∧ fields = [.code 1, .num 3 v])
        ∨ (∃ v, r = .rate v ∧ met = (s.supervisor.wake.rate && decide (s.supervisor.wake.wakeRate ≤ v))
            ∧ fields = [.code 2, .num 3 v])
        ∨ (∃ n, r = .levelFive n ∧ met = s.supervisor.wake.levelFive ∧ fields = [.code 3, .num 1 n])
        ∨ (∃ n, r = .postFault n ∧ met = s.supervisor.wake.postFault ∧ fields = [.code 4, .num 1 n]) →
      (s.supervisor.quiet ≠ .quiet ∨ met = false → wake r s = s)
      ∧ (s.supervisor.quiet = .quiet → met = true → ∃ t, wake r s = t
          ∧ ((s.setWarning t.warning).setSupervisor t.supervisor).Keeps t
          ∧ t.supervisor = { s.supervisor with quiet := .woken, wakeOutput := true }
          ∧ t.warning = { s.warning with
              monitor := if s.warning.monitor = .suspended
                then .running (s.now + 15000 * 2 ^ s.warning.monitorSettings.exponent) else s.warning.monitor }
          ∧ (s.link.notice ≠ none → ∃ x, t.notices = { s.notices with
                slots := s.notices.slots.set (sourcePlace .quietWake) (some x) }
              ∧ x.content = fields ++ [.num 6 s.supervisor.quietEntry, .num 6 s.now] ++ optTime s.time.stationTime)))
    ∧ (∀ (s : State) (i : Fin 8) (e : Nat), s.supervisor.quiet = .quiet → s.link.notice ≠ none → s.LevelHeld →
      s.warning.rules[i].timer = .running e → e ≤ s.now → s.warning.rules[i].definition.kind = .stage →
      s.warning.rules[i].state = .confirming → s.warning.level < s.warning.rules[i].definition.level →
      (∀ j : Fin 8, s.warning.rules[j].definition.kind = .stage) →
      ∃ t, exec (.confirmTimerExpiry (i.val + 1)) s = .next t
        ∧ t.warning.level = s.warning.rules[i].definition.level
        ∧ (s.supervisor.wake.levelFive = true → s.notices.slots[sourcePlace .warning] = none →
            t.supervisor.quiet = .woken ∧ t.supervisor.wakeOutput = true
            ∧ t.notices.slots[sourcePlace .quietWake].map (·.content) = some
                ([.code 3, .num 1 2, .num 6 s.supervisor.quietEntry, .num 6 s.now] ++ optTime s.time.stationTime))
        ∧ (s.supervisor.wake.levelChange = true → s.supervisor.wake.levelFive = false → s.supervisor.wake.rate = false →
            t.supervisor.quiet = .woken ∧ t.supervisor.wakeOutput = true
            ∧ t.notices.slots[sourcePlace .quietWake].map (·.content) = some
                ([.code 0, .num 1 t.warning.level, .num 6 s.supervisor.quietEntry, .num 6 s.now]
                  ++ optTime s.time.stationTime)))
    ∧ (∀ (s : State) (octets : List Byte) (f : FieldFrame) (i : Fin 8) (a b : Byte), s.supervisor.quiet = .quiet →
      s.supervisor.wake.postFault = true → s.link.notice ≠ none → s.field.tx ≠ .sending →
      fieldFrameOf octets = some f → s.field.settings.capture = false → f.kind = 0x21 → f.payload = [a, b, 1] →
      f.destination = s.field.settings.ownAddress → s.field.heads[i].config.enable = true →
      s.field.heads[i].config.kind = .post → s.field.heads[i].config.address = f.source →
      (∀ j : Fin 8, j ≠ i → s.field.heads[j].config.enable = true → s.field.heads[j].config.address ≠ f.source) →
      (∀ q, s.field.heads[i].post = some q → q.fault = false) →
      ∃ t, exec (.fieldFrameReceived octets) s = .next t ∧ t.supervisor.quiet = .woken
        ∧ t.supervisor.wakeOutput = true
        ∧ t.notices.slots[sourcePlace .quietWake].map (·.content) = some
            ([.code 4, .num 1 (i.val + 1), .num 6 s.supervisor.quietEntry, .num 6 s.now] ++ optTime s.time.stationTime))
    ∧ (∀ s : State, s.supervisor.quiet = .quiet → s.supervisor.wake.rate = true → s.stage.recordExpiry ≤ s.now →
      s.stage.waiting = [] → (∀ r, s.stage.ring.getLast? = some r → r.runTime < s.now) →
      ∃ (t : State) (r : StageRecord), exec .recordTimerExpiry s = .next t ∧ t.stage.rate = r.rate
        ∧ t.stage.ring = (if s.stage.ring.length < 256 then s.stage.ring else s.stage.ring.drop 1) ++ [r]
        ∧ t.stage.recordExpiry = s.now + s.stage.settings.quietInterval * 1000
        ∧ ∀ v, r.rate = some v → s.supervisor.wake.wakeRate ≤ v →
            t.supervisor.quiet = .woken ∧ t.supervisor.wakeOutput = true))

/-- R149, R154 to R156: NOTICE_SET, NOTICE_DONE and HOLD where they are taken, NOTICE_SET refused RANGE and BUSY, and the
hold's expiry. The presence octets of the merge counts rest on log 61, those of a hold in the replies to NOTICE_SET
and HOLD on log 60, the set in the reply to NOTICE_DONE on log 71. -/
def Obligations.NoticeRequests : Prop :=
  (∀ (s : State) (tag : Byte) (master : Nat), s.Calm → master ≤ 1 → s.supervisor.saving = none →
    (∃ t, exec (.noticeSet tag master none) s = .next t ∧ (s.setNotices t.notices).Keeps t
      ∧ t.notices.settings = { s.notices.settings with master := master == 1 }
      ∧ t.notices.hold = s.notices.hold
      ∧ t.Answered 0x38 tag
          ([.flag (master == 1)]
            ++ ((places 15).map fun j => (if j.val < 3 then [Field.flag true, .num 1 5]
                else [.flag s.notices.settings.sources[j].enable, .num 1 s.notices.settings.sources[j].level])
                ++ (match s.notices.slots[j] with
                  | none => [.flag false, .absent]
                  | some x => [.flag true, .present, .num 1 x.merged])).flatten
            ++ [.count s.notices.inService.length] ++ s.notices.inService.map (fun l => .num 1 l)
            ++ (match s.notices.hold with
              | none => [.absent]
              | some e => [.present, .num 2 ((e - s.now) / 10 : Nat), .num 6 e])))
    ∧ ∀ (i : Fin 15) (x : NoticeItem), x.source = i.val + 1 → 4 ≤ x.source → x.enable ≤ 1 →
      ∃ t, exec (.noticeSet tag master (some x)) s = .next t ∧ (s.setNotices t.notices).Keeps t
        ∧ t.notices.settings =
            { master := master == 1
              sources := s.notices.settings.sources.set i
                { enable := x.enable == 1, level := max 1 (min 4 x.level) } }
        ∧ t.notices.hold = s.notices.hold
        ∧ t.Answered 0x38 tag
            ([.flag (master == 1)]
              ++ ((places 15).map fun j => (if j.val < 3 then [Field.flag true, .num 1 5]
                  else if j = i then [.flag (x.enable == 1), .num 1 (max 1 (min 4 x.level) : Nat)]
                  else [.flag s.notices.settings.sources[j].enable, .num 1 s.notices.settings.sources[j].level])
                  ++ (match s.notices.slots[j] with
                    | none => [.flag false, .absent]
                    | some y => [.flag true, .present, .num 1 y.merged])).flatten
              ++ [.count s.notices.inService.length] ++ s.notices.inService.map (fun l => .num 1 l)
              ++ (match s.notices.hold with
                | none => [.absent]
                | some e => [.present, .num 2 ((e - s.now) / 10 : Nat), .num 6 e])))
  ∧ (∀ (s : State) (tag : Byte) (master : Nat) (item : Option NoticeItem), s.Calm → master ≤ 1 →
    s.supervisor.saving ≠ none → (∀ x, item = some x → 4 ≤ x.source ∧ x.source ≤ 15 ∧ x.enable ≤ 1) →
    ∃ t, exec (.noticeSet tag master item) s = .next t ∧ s.Keeps t ∧ t.RefusedFor 0x38 tag 0x05)
  ∧ (∀ (s : State) (tag : Byte) (master : Nat) (x : NoticeItem), s.Calm → master ≤ 1 →
    x.source < 4 ∨ 15 < x.source →
    ∃ t, exec (.noticeSet tag master (some x)) s = .next t ∧ s.Keeps t ∧ t.RefusedFor 0x38 tag 0x03)
  ∧ (∀ (s : State) (tag : Byte) (top : Nat), s.Calm → top ∈ s.notices.inService →
    (∀ l ∈ s.notices.inService, l ≤ top) →
    ∃ t, exec (.noticeDone tag) s = .next t ∧ s.Keeps t
      ∧ (t.notices.inService = s.notices.inService.erase top
          ∨ ∃ l, t.notices.inService = s.notices.inService.erase top ++ [l])
      ∧ t.Answered 0x39 tag (.num 1 top :: listFields (s.notices.inService.erase top) fun l => [.num 1 l]))
  ∧ (∀ (s : State) (tag : Byte), s.Calm → s.notices.inService = [] →
    ∃ t, exec (.noticeDone tag) s = .next t ∧ s.Keeps t ∧ t.RefusedFor 0x39 tag 0x04)
  ∧ (∀ (s : State) (tag : Byte) (units : Nat), s.Calm →
    ∃ t, exec (.hold tag units) s = .next t ∧ (s.setNotices t.notices).Keeps t
      ∧ t.notices.settings = s.notices.settings
      ∧ t.notices.hold = (if units = 0 then none else some (s.now + 10 * units))
      ∧ t.Answered 0x3A tag
          (optNum 2 (s.notices.hold.map fun e => (e - s.now) / 10)
            ++ (if units = 0 then [.absent, .absent]
                else [.present, .num 2 units, .present, .num 6 (s.now + 10 * units : Nat)])))
  ∧ (∀ (s : State) (e : Nat), s.notices.hold = some e → e ≤ s.now →
    ∃ t, exec .holdExpiry s = .next t ∧ (s.setNotices t.notices).Keeps t ∧ t.notices.hold = none
      ∧ t.notices.settings = s.notices.settings
      ∧ (s.link.notice ≠ none ∨ s.warning.autonomous = true →
          t = s.setNotices { s.notices with hold := none }))

/-- R150, R152, R153, R163: raising a notice while nothing can be handed over: an empty slot is filled with merge count 0,
a full one is replaced and its merge count goes up to 255 at most, a WARNING keeping the old level already there. With
the link ready, no hold, the level set empty and every other slot empty, the notice is handed over at once. R148, R151
to R153, R156, R163: the choice among all slots, where the notice on the line has gone and where the hold runs out
with the line free: of the eligible slots the one of the highest level, and among these of the lowest source number,
is handed over; its slot empties and its level joins the set. With none eligible nothing is. -/
def Obligations.NoticeRaised : Prop :=
  (∀ (s : State) (src : NoticeSource) (content : List Field), s.supervisor.quiet ≠ .quiet →
      (s.link.notice ≠ none →
        (s.notices.slots[sourcePlace src] = none →
          (raise src content s).notices = { s.notices with
            slots := s.notices.slots.set (sourcePlace src) (some { content := content, merged := 0 }) })
        ∧ (∀ x, s.notices.slots[sourcePlace src] = some x →
            ∃ y, (raise src content s).notices = { s.notices with
                slots := s.notices.slots.set (sourcePlace src) (some y) }
              ∧ y.merged = (if x.merged < 255 then x.merged + 1 else x.merged)
              ∧ (src ≠ .warning → y.content = content)
              ∧ (∀ old new a b, src = .warning → x.content = old :: a → content = new :: b → y.content = old :: b))
        ∧ (raise src content s).link = s.link)
      ∧ (s.link.notice = none → s.link.waiting = none → s.link.unready = false → s.link.line = none →
        s.link.reply = none → s.warning.autonomous = false → s.notices.hold = none → s.notices.inService = [] →
        s.notices.settings.master = true → (sourceSetting s src).enable = true → 1 ≤ (sourceSetting s src).level →
        (∀ i : Fin 15, s.notices.slots[i] = none) →
        (raise src content s).notices = { s.notices with inService := [(sourceSetting s src).level] }
          ∧ (raise src content s).link = { s.link with
              notice := some { kind := 0xC0 + sourceNumber src, tag := 0, payload := .num 1 0 :: content }
              line := some .notice }))
  ∧ (∀ (s u : State) (c : Instr) (level : NoticeSource → Nat) (ok : NoticeSource → Prop), s.link.reply = none →
      s.link.waiting = none → s.link.unready = false →
      (c = .hostFrameSent ∧ s.link.line = some .notice ∧ u = s.setLink { s.link with notice := none, line := none })
        ∨ (c = .holdExpiry ∧ s.link.line = none ∧ s.link.notice = none ∧ (∃ e, s.notices.hold = some e ∧ e ≤ s.now)
          ∧ u = s.setNotices { s.notices with hold := none }) →
      level = (fun j => if sourceNumber j ≤ 3 then 5 else s.notices.settings.sources[sourcePlace j].level) →
      ok = (fun j => s.notices.slots[sourcePlace j] ≠ none ∧ s.warning.autonomous = false ∧ 0 < level j
        ∧ (∀ l ∈ s.notices.inService, l < level j)
        ∧ (sourceNumber j ≤ 3 ∨ s.notices.settings.sources[sourcePlace j].enable = true)
        ∧ (s.notices.settings.master = true ∨ level j = 5) ∧ (u.notices.hold = none ∨ level j = 5)) →
      (∀ (j : NoticeSource) (x : Slot), ok j → s.notices.slots[sourcePlace j] = some x →
        (∀ k, ok k → level k < level j ∨ (level k = level j ∧ sourceNumber j ≤ sourceNumber k)) →
        exec c s = .next ((u.setNotices
            { u.notices with
              slots := u.notices.slots.set (sourcePlace j) none, inService := u.notices.inService ++ [level j] }).setLink
          { u.link with
            notice := some { kind := 0xC0 + sourceNumber j, tag := 0, payload := .num 1 x.merged :: x.content }
            line := some .notice }))
      ∧ ((∀ j, ¬ ok j) → exec c s = .next u))

/-- R170, R171: SAVE copies every stored setting as held and marks the store INVALID; its end makes the copy the store
when the check holds, and leaves the store INVALID when it fails, with SAVE_DONE either way. That the end of a write
without a SAVE changes nothing rests on logs 7 and 12. -/
def Obligations.Save : Prop :=
  (∀ (s : State) (tag : Byte), s.Calm → s.supervisor.saving = none → ∃ t, exec (.save tag) s = .next t
    ∧ (s.setSupervisor t.supervisor).Keeps t
    ∧ t.supervisor = { s.supervisor with
        storeValid := false, saving := t.supervisor.saving }
    ∧ (∃ x, t.supervisor.saving = some { copy := x, start := s.now }
      ∧ x.field = s.field.settings ∧ (∀ i : Fin 8, x.heads[i] = s.field.heads[i].config)
      ∧ (∀ i : Fin 4, x.channels[i] = s.channels[i].settings) ∧ x.stage = s.stage.settings
      ∧ (∀ i : Fin 8, x.rules[i] = s.warning.rules[i].definition) ∧ x.warning = s.warning.settings
      ∧ x.monitor = s.warning.monitorSettings ∧ x.correction = s.time.correction ∧ x.carriage = s.cable.settings
      ∧ x.rating = s.gauging.rating ∧ x.plan = s.gauging.plan ∧ x.notices = s.notices.settings
      ∧ x.wake = s.supervisor.wake ∧ x.rate = s.link.rateHeld)
    ∧ t.Answered 0x3B tag [])
  ∧ (∀ (s : State) (tag : Byte), s.Calm → s.supervisor.saving ≠ none →
    ∃ t, exec (.save tag) s = .next t ∧ s.Keeps t ∧ t.RefusedFor 0x3B tag 0x05)
  ∧ (∀ (s : State) (x : Saving) (holds : Bool), s.supervisor.saving = some x →
    ∃ t, exec (.saveWriteEnd holds) s = .next t ∧ (s.setSupervisor t.supervisor).Keeps t
      ∧ t.supervisor = (if holds = true
          then { s.supervisor with store := x.copy, storeValid := true, saving := none }
          else { s.supervisor with saving := none })
      ∧ (s.link.notice ≠ none → ∃ y, t.notices = { s.notices with
            slots := s.notices.slots.set (sourcePlace .saveDone) (some y) }
          ∧ y.content = [.code (if holds = true then 0 else 1), .num 6 x.start, .num 6 s.now]
            ++ optTime s.time.stationTime
          ∧ (s.notices.slots[sourcePlace .saveDone] = none → y.merged = 0)))
  ∧ (∀ (s : State) (holds : Bool), s.supervisor.saving = none → exec (.saveWriteEnd holds) s = .next s)

/-- R20: the group test. -/
def Obligations.GroupTest : Prop :=
  (∀ (x : FieldSettings) (g : Nat), x.passAllGroups = false → x.inverseGroups = false →
    (groupPasses x g = true ↔ x.groupSet.testBit (g % 16) = true))
  ∧ (∀ (x : FieldSettings) (g : Nat), x.passAllGroups = false → x.inverseGroups = true →
    (groupPasses x g = true ↔ x.groupSet.testBit (g % 16) = false))
  ∧ (∀ (x : FieldSettings) (g : Nat), x.passAllGroups = true → groupPasses x g = true)
  ∧ (∀ (x : FieldSettings) (g h : Nat), g % 16 = h % 16 → groupPasses x g = groupPasses x h)
  ∧ 130 % 16 = 2 ∧ 146 % 16 = 2 ∧ 242 % 16 = 2
  ∧ (∀ (x : FieldSettings) (g : Nat), 128 ≤ g → g ≤ 254 → x.ownAddress ≤ 126 →
    destinationPasses x g = groupPasses x g)

/-- R18, R22: a frame on the field line: read back while SENDING it is not gathered; one that does not check leaves no
trace; a good one that the filter fails is captured with its result, while there is room, and else sets the overflow
flag. R19 to R21, R167: the filter: the destination check, then the kind with the length of its payload, then the source
check; a frame that passes has its entry. The result octet of a PARAM_REPLY other than 0 and 1 is left open (log 8). R22:
while capture is ON a good frame that passed is captured too, with its result; FIELD_CAPTURE is raised for a record that
joins and for an overflow flag that is set, and for no other. With capture OFF nothing is captured. That what arrives while SENDING is not received is log 38, a gap not yet due log 12, the last character acting
as the row of its frame log 29, the next SYNC after a length above 48 log 54. -/
def Obligations.FieldReceiver : Prop :=
  (∀ (s : State) (octets : List Byte), s.field.tx = .sending →
    exec (.fieldFrameReceived octets) s = .next (s.setField { s.field with lastOctet := some s.now }))
  ∧ (∀ (s : State) (octets : List Byte), s.field.tx ≠ .sending → fieldFrameOf octets = none →
    exec (.fieldFrameReceived octets) s
      = .next (s.setField { s.field with lastOctet := some s.now, gathering := none }))
  ∧ (∀ (s : State) (octets : List Byte) (f : FieldFrame), s.field.tx ≠ .sending → fieldFrameOf octets = some f →
    (filterFrame s f).2 = none → s.field.settings.capture = true →
    (s.field.captured.length < 8 → ∃ t, exec (.fieldFrameReceived octets) s = .next t
      ∧ (s.setField t.field).Keeps t
      ∧ t.field = { s.field with
          lastOctet := some s.now, gathering := none
          captured := s.field.captured ++ [{ runTime := s.now, frame := f, result := (filterFrame s f).1 }] })
    ∧ (8 ≤ s.field.captured.length → ∃ t, exec (.fieldFrameReceived octets) s = .next t
      ∧ (s.setField t.field).Keeps t
      ∧ t.field = { s.field with lastOctet := some s.now, gathering := none, overflow := true }
      ∧ (s.field.overflow = true → t.notices = s.notices)))
  ∧ ((∀ (s : State) (f : FieldFrame) (addressed taken : Prop) (entry : Fin 8 → Prop),
      (addressed ↔ f.destination = s.field.settings.ownAddress
        ∨ (f.destination = 255 ∧ s.field.settings.acceptBroadcast = true)
        ∨ (128 ≤ f.destination ∧ f.destination ≤ 254 ∧ groupPasses s.field.settings f.destination = true)) →
      (taken ↔ (f.kind = 0x11 ∧ f.payload.length = 5) ∨ (f.kind = 0x21 ∧ f.payload.length = 3)
        ∨ (f.kind = 0x14 ∧ ∃ p r rest, f.payload = p :: r :: rest
            ∧ rest.length = if fieldFlag r = true then 0 else 4)) →
      (∀ i, entry i ↔ s.field.heads[i].config.enable = true ∧ s.field.heads[i].config.address = f.source
        ∧ (f.kind = 0x11 → s.field.heads[i].config.kind = .stage)
        ∧ (f.kind = 0x21 → s.field.heads[i].config.kind = .post)) →
      (¬ addressed → filterFrame s f = (.failedDestination, none))
      ∧ (addressed → ¬ taken → filterFrame s f = (.notTaken, none))
      ∧ (addressed → taken → (∀ i, ¬ entry i) → filterFrame s f = (.failedSource, none))
      ∧ (∀ i, addressed → taken → entry i → (∀ j, j ≠ i → ¬ entry j) → filterFrame s f = (.passed, some i)))
    ∧ fieldFlag 0 = false ∧ fieldFlag 1 = true
    ∧ (∀ (s : State) (octets : List Byte) (f : FieldFrame), s.field.tx ≠ .sending → fieldFrameOf octets = some f →
      ∃ t, exec (.fieldFrameReceived octets) s = .next t
        ∧ (s.field.settings.capture = true → s.field.captured.length < 8 →
            t.field.captured = s.field.captured ++ [{ runTime := s.now, frame := f, result := (filterFrame s f).1 }]
            ∧ t.field.overflow = s.field.overflow
            ∧ s.Told t .fieldCapture
              [.num 1 (s.field.captured.length + 1 : Nat), .flag s.field.overflow, .num 6 s.now])
        ∧ (s.field.settings.capture = true → 8 ≤ s.field.captured.length →
            t.field.captured = s.field.captured ∧ t.field.overflow = true
            ∧ (s.field.overflow = true → s.Untold t .fieldCapture)
            ∧ (s.field.overflow = false → ∀ newest, s.field.captured.getLast? = some newest →
              s.Told t .fieldCapture [.num 1 s.field.captured.length, .flag true, .num 6 newest.runTime]))
        ∧ (s.field.settings.capture = false → t.field.captured = s.field.captured
            ∧ t.field.overflow = s.field.overflow ∧ s.Untold t .fieldCapture)))
  ∧ (∀ (s : State) (b : Byte), s.field.tx = .sending →
    exec (.fieldCharacterReceived b) s = .next (s.setField { s.field with lastOctet := some s.now }))
  ∧ (∀ (s : State) (b : Byte), s.field.tx ≠ .sending → s.field.gathering = none →
    exec (.fieldCharacterReceived b) s
      = .next (s.setField
          { s.field with lastOctet := some s.now, gathering := if b = 0x5A then some [] else none }))
  ∧ (∀ (s : State) (b : Byte) (held : List Byte) (last : Nat), s.field.tx ≠ .sending →
    s.field.gathering = some held → s.field.lastOctet = some last → s.now ≤ last + 2 →
    (held.length < 3 → exec (.fieldCharacterReceived b) s
      = .next (s.setField { s.field with lastOctet := some s.now, gathering := some (held ++ [b]) }))
    ∧ (∀ n, (held ++ [b])[3]? = some n →
      (48 < n.toNat → exec (.fieldCharacterReceived b) s
        = .next (s.setField { s.field with lastOctet := some s.now, gathering := none }))
      ∧ (n.toNat ≤ 48 → held.length + 1 < n.toNat + 6 → exec (.fieldCharacterReceived b) s
        = .next (s.setField { s.field with lastOctet := some s.now, gathering := some (held ++ [b]) }))
      ∧ (n.toNat ≤ 48 → held.length + 1 = n.toNat + 6 → exec (.fieldCharacterReceived b) s
        = exec (.fieldFrameReceived (held ++ [b])) s)))
  ∧ (∀ (s : State) (held : List Byte) (last : Nat), s.field.gathering = some held → s.field.lastOctet = some last →
    (last + 2 < s.now → exec .fieldCharacterGap s = .next (s.setField { s.field with gathering := none }))
    ∧ (s.now ≤ last + 2 → exec .fieldCharacterGap s = .next s))

/-- R19, R21, R32, R35: a READING that passes the filter outside the reply window of its entry's poll: a sign of life of
its entry, and the entry's channel judges the value and the head status; another window stays open. R60, R61, R65, R69: in
the window and outside it, what the channel has changed is handed over and voted, and CHANNEL_STATE raised.
R31, R32, R27: a READING of the entry whose poll's reply window is open: the poll ends REPLY, its next time is due an
interval on, and the transmitter is free again. R41, R42, R31, R32, R35: a POST_STATUS with two-valued flags: a sign
of life of its post and its status; inside the window of the post's own poll it ends the poll REPLY, and the next poll
is due an interval on; POST_STATE is raised when the mismatch, the entry state or the fault of the post has changed by
it. The presence octets of its content rest on log 62, the octets of its count of posts in mismatch on log 68. R31,
R35, R37, R38: a PARAM_REPLY of the entry and parameter that the management transaction in flight awaits ends it:
HEAD_PARAM_DONE with OK and the value, or HEAD_REFUSED; a sign of life of the entry, and no other of its fields. One
of another parameter number leaves the transaction in flight. R35: a PARAM_REPLY that no reply window awaits is a sign of
life of its entry and is discarded; it touches neither the management transaction nor the transmitter, and a SILENT post
that it brings back raises POST_STATE (R41, R42). A flag octet is two-valued here (log 8); a displayed
level above 3 is held as it came (log 53, the model's choice). -/
def Obligations.ReadingDelivered : Prop :=
  (∀ (s : State) (octets : List Byte) (f : FieldFrame) (i : Fin 8) (c : Fin 4), s.field.tx ≠ .sending →
      (s.field.tx = .replyWindow → ∀ x, s.field.transaction = some x → x.kind ≠ .poll i) → fieldFrameOf octets = some f →
      f.kind = 0x11 → f.payload.length = 5 → f.destination = s.field.settings.ownAddress → s.field.heads[i].config.enable = true →
      s.field.heads[i].config.kind = .stage → s.field.heads[i].config.address = f.source →
      (∀ j : Fin 8, j ≠ i → s.field.heads[j].config.enable = true → s.field.heads[j].config.address ≠ f.source) →
      s.field.heads[i].config.channel = some (c.val + 1) → ∃ t, exec (.fieldFrameReceived octets) s = .next t
        ∧ t.field.heads[i] = { s.field.heads[i] with noReply := 0, state := .answering, lastAnswer := some s.now }
        ∧ (∀ j : Fin 8, j ≠ i → t.field.heads[j] = s.field.heads[j])
        ∧ t.channels[c] = takeReading s.now (octetsInt (f.payload.take 4)) (fieldFlag (octetAt f.payload 4)) s.channels[c]
        ∧ (∀ j : Fin 4, j ≠ c → t.channels[j] = s.channels[j])
        ∧ t.stage.items[c] = (if t.channels[c].state = s.channels[c].state
                ∧ filteredValue t.channels[c] = filteredValue s.channels[c] then s.stage.items[c]
            else { state := t.channels[c].state, filtered := filteredValue t.channels[c] })
        ∧ s.ChannelHanded t c
        ∧ (s.field.settings.capture = false → t.field.captured = s.field.captured) ∧ t.field.settings = s.field.settings
        ∧ (s.field.tx = .replyWindow → t.field.tx = .replyWindow ∧ t.field.window = s.field.window
            ∧ t.field.transaction = s.field.transaction)
        ∧ t.time.runTime = s.time.runTime)
  ∧ (∀ (s : State) (octets : List Byte) (f : FieldFrame) (i : Fin 8) (c : Fin 4) (x : Transaction),
      s.field.tx = .replyWindow → s.field.transaction = some x → x.kind = .poll i → s.supervisor.quiet = .normal →
      fieldFrameOf octets = some f → f.kind = 0x11 → f.payload.length = 5 →
      f.destination = s.field.settings.ownAddress → s.field.heads[i].config.enable = true →
      s.field.heads[i].config.kind = .stage → s.field.heads[i].config.address = f.source →
      (∀ j : Fin 8, j ≠ i → s.field.heads[j].config.enable = true → s.field.heads[j].config.address ≠ f.source) →
      s.field.heads[i].config.channel = some (c.val + 1) → ∃ t, exec (.fieldFrameReceived octets) s = .next t
        ∧ t.field.heads[i] = { s.field.heads[i] with
            noReply := 0, state := .answering, lastAnswer := some s.now, lastOutcome := some .reply
            nextDue := some (s.now + s.field.heads[i].config.normal * 1000) }
        ∧ (∀ j : Fin 8, j ≠ i → t.field.heads[j] = s.field.heads[j])
        ∧ t.channels[c] = takeReading s.now (octetsInt (f.payload.take 4)) (fieldFlag (octetAt f.payload 4)) s.channels[c]
        ∧ (∀ j : Fin 4, j ≠ c → t.channels[j] = s.channels[j])
        ∧ t.field.window = none
        ∧ (t.field.tx = .free ∨ (t.field.tx = .waitingIdle ∧ t.field.deferral = some (s.now + 1500)))
        ∧ s.ChannelHanded t c
        ∧ (s.field.settings.capture = false → t.field.captured = s.field.captured)
        ∧ t.field.settings = s.field.settings ∧ t.time.runTime = s.time.runTime)
  ∧ (∀ (s : State) (octets : List Byte) (f : FieldFrame) (i : Fin 8) (a b c : Byte) (p : PostStatus) (polled : Bool),
      s.field.tx ≠ .sending → s.supervisor.quiet = .normal → fieldFrameOf octets = some f → f.kind = 0x21 → f.payload = [a, b, c] → b.toNat ≤ 1 → c.toNat ≤ 1 →
      f.destination = s.field.settings.ownAddress → s.field.heads[i].config.enable = true →
      s.field.heads[i].config.kind = .post → s.field.heads[i].config.address = f.source →
      (∀ j : Fin 8, j ≠ i → s.field.heads[j].config.enable = true → s.field.heads[j].config.address ≠ f.source) →
      p = { displayed := a.toNat, siren := b == 1, fault := c == 1 } →
      (polled = true ↔ s.field.tx = .replyWindow ∧ ∃ x, s.field.transaction = some x ∧ x.kind = .poll i) →
      ∃ t, exec (.fieldFrameReceived octets) s = .next t ∧ (s.setField t.field).Keeps t
        ∧ (∀ j : Fin 8, j ≠ i → t.field.heads[j] = s.field.heads[j])
        ∧ (polled = false → t.field.heads[i] = { s.field.heads[i] with
              noReply := 0, state := .answering, lastAnswer := some s.now, post := some p }
            ∧ t.field.tx = s.field.tx ∧ t.field.transaction = s.field.transaction)
        ∧ (polled = true → t.field.heads[i] = { s.field.heads[i] with
              noReply := 0, state := .answering, lastAnswer := some s.now, post := some p
              lastOutcome := some .reply, nextDue := some (s.now + s.field.heads[i].config.normal * 1000) }
            ∧ t.field.window = none
            ∧ (t.field.tx = .free ∨ (t.field.tx = .waitingIdle ∧ t.field.deferral = some (s.now + 1500))))
        ∧ (mismatch t i = true ↔ ∃ l, s.field.lastSent = some l ∧ l.level ≠ a.toNat)
        ∧ (s.link.notice ≠ none →
            (mismatch s i ≠ mismatch t i ∨ s.field.heads[i].state = .silent ∨ postFault s i ≠ p.fault →
              ∃ x, t.notices.slots[sourcePlace .postState] = some x ∧ x.content = t.postSnapshot)
            ∧ (mismatch s i = mismatch t i → s.field.heads[i].state = .answering → postFault s i = p.fault →
              s.Untold t .postState ∧ (s.field.settings.capture = false → t.notices = s.notices))))
  ∧ (∀ (s : State) (octets : List Byte) (f : FieldFrame) (i : Fin 8) (x : Transaction) (m : Management) (p : Byte)
        (value : Option Int),
      s.field.tx = .replyWindow → s.field.transaction = some x → x.kind = .management → s.field.management = some m →
      m.entry = i → fieldFrameOf octets = some f → f.kind = 0x14 →
      (f.payload = [p, 1] ∧ value = none)
        ∨ (∃ v0 v1 v2 v3, f.payload = [p, 0, v0, v1, v2, v3] ∧ value = some (octetsInt [v0, v1, v2, v3])) →
      f.destination = s.field.settings.ownAddress → s.field.heads[i].config.enable = true →
      s.field.heads[i].config.address = f.source →
      (∀ j : Fin 8, j ≠ i → s.field.heads[j].config.enable = true → s.field.heads[j].config.address ≠ f.source) →
      ∃ t, exec (.fieldFrameReceived octets) s = .next t ∧ (s.setField t.field).Keeps t
        ∧ t.field.heads[i] = { s.field.heads[i] with
            noReply := 0, state := .answering, lastAnswer := some s.now }
        ∧ (∀ j : Fin 8, j ≠ i → t.field.heads[j] = s.field.heads[j])
        ∧ (p.toNat = m.parameter → t.field.management = none ∧ t.field.window = none
            ∧ (t.field.tx = .free ∨ (t.field.tx = .waitingIdle ∧ t.field.deferral = some (s.now + 1500)))
            ∧ (s.link.notice ≠ none → ∃ y, t.notices.slots[sourcePlace .headParamDone] = some y
                ∧ y.content = [.num 1 (i.val + 1), .num 1 x.frame.destination, .code (paramOpCode m.op),
                    .num 1 m.parameter, .code (if value = none then 1 else 0)]
                  ++ (match value with
                    | none => [.absent]
                    | some v => [.present, .num 4 v])
                  ++ [.num 6 s.now] ++ optTime s.time.stationTime))
        ∧ (p.toNat ≠ m.parameter → t.field.management = some m ∧ t.field.tx = .replyWindow
            ∧ t.field.window = s.field.window ∧ t.field.transaction = some x))
  ∧ (∀ (s : State) (octets : List Byte) (f : FieldFrame) (i : Fin 8) (p : Byte), s.field.tx ≠ .sending →
      fieldFrameOf octets = some f → f.kind = 0x14 →
      f.payload = [p, 1] ∨ (∃ v0 v1 v2 v3, f.payload = [p, 0, v0, v1, v2, v3]) →
      f.destination = s.field.settings.ownAddress → s.field.heads[i].config.enable = true →
      s.field.heads[i].config.address = f.source →
      (∀ j : Fin 8, j ≠ i → s.field.heads[j].config.enable = true → s.field.heads[j].config.address ≠ f.source) →
      (s.field.tx = .replyWindow → ∀ x m, s.field.transaction = some x → x.kind = .management →
        s.field.management = some m → m.entry = i → p.toNat ≠ m.parameter) →
      ∃ t, exec (.fieldFrameReceived octets) s = .next t ∧ (s.setField t.field).Keeps t
        ∧ t.field.heads[i] = { s.field.heads[i] with noReply := 0, state := .answering, lastAnswer := some s.now }
        ∧ (∀ j : Fin 8, j ≠ i → t.field.heads[j] = s.field.heads[j])
        ∧ t.field.management = s.field.management ∧ t.field.transaction = s.field.transaction
        ∧ t.field.tx = s.field.tx ∧ t.field.window = s.field.window ∧ t.field.deferral = s.field.deferral
        ∧ t.field.backoff = s.field.backoff ∧ t.field.lastSent = s.field.lastSent ∧ t.field.warn = s.field.warn
        ∧ s.Untold t .headParamDone
        ∧ (s.field.heads[i].config.kind = .post → s.field.heads[i].state = .silent → s.link.notice ≠ none →
            ∃ y, t.notices.slots[sourcePlace .postState] = some y ∧ y.content = t.postSnapshot)
        ∧ (s.field.heads[i].config.kind = .stage ∨ s.field.heads[i].state = .answering → s.Untold t .postState))

/-- R48, R49: the corrected value of a head value in range: half the gain's quotient is rounded away from zero, it lies in
−309,999 to +309,999 mm, and it is formed for an OK reading on a channel that is not OFF alone. -/
def Obligations.Correction : Prop :=
  ∀ (now : Nat) (h : Int) (c : Channel), -2000000 ≤ h → h ≤ 2000000 → 950000 ≤ c.settings.gain →
    c.settings.gain ≤ 1050000 → -99999 ≤ c.settings.offset → c.settings.offset ≤ 99999 →
    (h * c.settings.gain).natAbs ≤ 2100000000000
    ∧ (∃ m : Int,
        (2 * (m.natAbs * 10000000) ≤ 2 * (h * c.settings.gain).natAbs + 10000000
          ∧ 2 * (h * c.settings.gain).natAbs < 2 * (m.natAbs * 10000000) + 10000000)
        ∧ (0 < h → 0 ≤ m) ∧ (h < 0 → m ≤ 0)
        ∧ correctedValue c.settings h
            = c.settings.offset + (match c.settings.sense with | .direct => 1 | .inverted => -1) * m)
    ∧ -309999 ≤ correctedValue c.settings h ∧ correctedValue c.settings h ≤ 309999
    ∧ (c.state ≠ .off → ∃ r, (takeReading now h false c).lastReading = some r
        ∧ r.corrected = some (correctedValue c.settings h) ∧ r.value = h ∧ r.runTime = now)
    ∧ (c.state ≠ .off → ∃ r, (takeReading now h true c).lastReading = some r ∧ r.corrected = none)
    ∧ (∀ fault, c.state = .off → takeReading now h fault c = c)

/-- R58, R60, R61, R65, R69: the stale timer of a FILLING or VALID channel makes it STALE with an empty window, handed
over and voted with CHANNEL_STATE; the rejection count stays. R49 to R51, R53, R54, R56, R57: what a reading does to a
channel: a range rejection, of a corrected value or of a head value that is not corrected, which a FAULTED channel counts
up to 8 and no further; an acceptance within the step limit, a head fault, and the loss of the head. R51 to R53: a value in range further than the step limit from the last
accepted one: it begins or lengthens the re-anchor chain with verdict STEP, and is counted; the third that agrees
re-anchors the channel on itself; the eighth rejection in a row faults a channel that is not FAULTED, and the count
stays at 8 in one that is. That a command whose event does not hold changes nothing is read from the spec by inference
(log 12). -/
def Obligations.ChannelStates : Prop :=
  (∀ (s : State) (i : Fin 4) (e : Nat), s.channels[i].staleExpiry = some e →
      (s.channels[i].state = .filling ∨ s.channels[i].state = .valid → e ≤ s.now →
        ∃ t, exec (.staleExpiry (i.val + 1)) s = .next t
          ∧ t.channels[i] = { s.channels[i] with
              state := .stale, window := [], chainLength := 0, candidate := none, staleExpiry := none
              lastChange := some { cause := .staleTime, runTime := s.now } }
          ∧ (∀ j : Fin 4, j ≠ i → t.channels[j] = s.channels[j])
          ∧ t.stage.items = s.stage.items.set i { state := .stale, filtered := none } ∧ s.ChannelHanded t i
          ∧ t.field.heads = s.field.heads ∧ t.time.runTime = s.time.runTime)
      ∧ (s.now < e → exec (.staleExpiry (i.val + 1)) s = .next s))
  ∧ (∀ (now : Nat) (h : Int) (c : Channel), c.state ≠ .off → 1 ≤ c.settings.window →
      (∀ x : Option Int,
        (-2000000 ≤ h ∧ h ≤ 2000000 ∧ x = some (correctedValue c.settings h)
            ∧ (correctedValue c.settings h < c.settings.minimum ∨ c.settings.maximum < correctedValue c.settings h))
          ∨ ((h < -2000000 ∨ 2000000 < h) ∧ x = none) →
        ∃ d, takeReading now h false c = d ∧ d.settings = c.settings
          ∧ d.lastReading = some
              { value := h, fault := false, corrected := x, runTime := now, verdict := .outOfRange }
          ∧ d.chainLength = 0 ∧ d.candidate = none
          ∧ d.counters = { c.counters with
              range := if c.counters.range < 65535 then c.counters.range + 1 else c.counters.range }
          ∧ (c.rejections < 7 → d.window = c.window ∧ d.state = c.state ∧ d.staleExpiry = c.staleExpiry
              ∧ d.lastChange = c.lastChange ∧ d.rejections = c.rejections + 1)
          ∧ (c.rejections = 7 → c.state ≠ .faulted →
              d.state = .faulted ∧ d.window = [] ∧ d.rejections = 0 ∧ d.staleExpiry = none
                ∧ d.lastChange = some { cause := .rejections, runTime := now })
          ∧ (7 ≤ c.rejections → c.rejections ≤ 8 → c.state = .faulted → d.state = .faulted ∧ d.rejections = 8
              ∧ d.window = c.window ∧ d.staleExpiry = c.staleExpiry ∧ d.lastChange = c.lastChange))
      ∧ (-2000000 ≤ h → h ≤ 2000000 →
        (c.settings.minimum ≤ correctedValue c.settings h → correctedValue c.settings h ≤ c.settings.maximum →
          (∀ last, c.window.getLast? = some last → c.settings.stepLimit = 0
              ∨ (correctedValue c.settings h - last).natAbs ≤ c.settings.stepLimit) →
          ∃ d, takeReading now h false c = d ∧ d.lastReading.map (·.verdict) = some .accepted
            ∧ d.window.getLast? = some (correctedValue c.settings h) ∧ d.chainLength = 0 ∧ d.rejections = 0
            ∧ d.staleExpiry = some (now + c.settings.staleTime * 1000)
            ∧ (d.state = .valid ∨ d.state = .filling)
            ∧ (d.state = .valid ↔ (c.settings.window + 1) / 2 ≤ d.window.length)))
      ∧ (∃ d, takeReading now h true c = d ∧ d.lastReading.map (·.verdict) = some .headFault ∧ d.state = .faulted
          ∧ (c.state ≠ .faulted → d.window = [] ∧ d.chainLength = 0 ∧ d.rejections = 0 ∧ d.staleExpiry = none
              ∧ d.lastChange = some { cause := .headFault, runTime := now })
          ∧ (c.state = .faulted → d.window = c.window ∧ d.chainLength = c.chainLength ∧ d.rejections = c.rejections
              ∧ d.lastChange = c.lastChange))
      ∧ (c.state ≠ .faulted → (loseHead now c).state = .faulted ∧ (loseHead now c).window = []
          ∧ (loseHead now c).lastChange = some { cause := .headLost, runTime := now })
      ∧ (c.state = .faulted → loseHead now c = c))
  ∧ (∀ (now : Nat) (h v last : Int) (c : Channel), c.state ≠ .off → -2000000 ≤ h → h ≤ 2000000 →
      v = correctedValue c.settings h → c.settings.minimum ≤ v → v ≤ c.settings.maximum →
      c.window.getLast? = some last → c.settings.stepLimit ≠ 0 → c.settings.stepLimit < (v - last).natAbs →
      ∃ d, takeReading now h false c = d
      ∧ (c.chainLength = 0 ∨ (∀ w, c.candidate = some w → c.settings.stepLimit < (v - w).natAbs) ∨ c.chainLength = 1 →
          d.lastReading.map (·.verdict) = some .step ∧ d.counters.accepted = c.counters.accepted
          ∧ d.counters.step = (if c.counters.step < 65535 then c.counters.step + 1 else c.counters.step)
          ∧ (c.rejections < 7 → d.window = c.window ∧ d.state = c.state ∧ d.staleExpiry = c.staleExpiry
              ∧ d.lastChange = c.lastChange ∧ d.rejections = c.rejections + 1 ∧ d.candidate = some v)
          ∧ (c.rejections = 7 → c.state ≠ .faulted → d.state = .faulted ∧ d.window = [] ∧ d.rejections = 0
              ∧ d.chainLength = 0 ∧ d.candidate = none ∧ d.staleExpiry = none
              ∧ d.lastChange = some { cause := .rejections, runTime := now })
          ∧ (7 ≤ c.rejections → c.rejections ≤ 8 → c.state = .faulted → d.state = .faulted ∧ d.rejections = 8))
      ∧ (c.rejections < 7 → c.chainLength = 0 ∨ (∀ w, c.candidate = some w → c.settings.stepLimit < (v - w).natAbs) →
          d.chainLength = 1)
      ∧ (c.rejections < 7 → c.chainLength = 1 → (∃ w, c.candidate = some w ∧ (v - w).natAbs ≤ c.settings.stepLimit) →
          d.chainLength = 2)
      ∧ (2 ≤ c.chainLength → (∃ w, c.candidate = some w ∧ (v - w).natAbs ≤ c.settings.stepLimit) →
          d.lastReading.map (·.verdict) = some .reAnchor ∧ d.window = [v] ∧ d.chainLength = 0 ∧ d.candidate = none
          ∧ d.rejections = 0 ∧ d.staleExpiry = some (now + c.settings.staleTime * 1000)
          ∧ d.state = (if c.settings.window ≤ 2 then .valid else .filling)
          ∧ d.lastChange = some { cause := .reAnchor, runTime := now }
          ∧ d.counters.accepted = (if c.counters.accepted < 65535 then c.counters.accepted + 1 else c.counters.accepted)
          ∧ d.counters.reAnchors = (if c.counters.reAnchors < 65535 then c.counters.reAnchors + 1 else c.counters.reAnchors)
          ∧ d.counters.step = c.counters.step))

/-- R27 to R31, R40: a poll that falls due on a FREE transmitter is chosen; the idle line lets the frame out; a poll that
has gone opens the reply window, and a WARN that has gone is the level last sent and restarts the refresh timer. R39:
the refresh timer restarts at each expiry, and a WARN request is raised while one is held back, the level is 1 or
more, or an enabled post is in mismatch; otherwise none is. Before its expiry nothing happens. That a command whose
event does not hold changes nothing is read from the spec by inference (log 12). That an absent last character counts
as an idle line is log 36, the model's choice. -/
def Obligations.Transmit : Prop :=
  ((∀ (s : State) (i : Fin 8) (due : Nat), s.field.tx = .free → s.field.warn ≠ .standing →
      (∀ m, s.field.management = some m → m.inFlight = true) → s.field.heads[i].config.enable = true →
      s.field.heads[i].nextDue = some due → due ≤ s.now →
      (∀ j : Fin 8, j ≠ i → s.field.heads[j].config.enable = true → ∀ e, s.field.heads[j].nextDue = some e →
        due < e ∨ (due = e ∧ i < j)) →
      ∃ t, exec (.pollDue (i.val + 1)) s = .next t ∧ t = s.setField t.field
        ∧ t.field = { s.field with
            tx := .waitingIdle, deferral := some (s.now + 1500)
            transaction := some
              { kind := .poll i, attempts := 0, backoffBits := s.field.settings.backoffBits
                singleAttempt := s.field.settings.singleAttempt
                frame := { destination := s.field.heads[i].config.address, source := s.field.settings.ownAddress
                           kind := 0x10, payload := [] } } })
    ∧ (∀ (s : State) (n : Nat), (∀ i : Fin 8, n = i.val + 1 → s.field.heads[i].config.enable = false
        ∨ s.field.heads[i].nextDue = none ∨ ∃ e, s.field.heads[i].nextDue = some e ∧ s.now < e) →
      exec (.pollDue n) s = .next s)
    ∧ (∀ (s : State) (x : Transaction), s.field.tx = .waitingIdle → s.field.transaction = some x →
      (s.field.lastOctet = none ∨ ∃ last, s.field.lastOctet = some last ∧ last + 2 ≤ s.now) →
      ∃ t, exec .lineIdle s = .next t ∧ t = s.setField t.field
        ∧ t.field = { s.field with
            tx := .sending, deferral := none, gathering := none
            transaction := some { x with frame := { x.frame with source := s.field.settings.ownAddress } } })
    ∧ (∀ s : State, s.field.tx ≠ .waitingIdle → exec .lineIdle s = .next s)
    ∧ (∀ (s : State) (x : Transaction), s.field.tx = .sending → s.field.transaction = some x →
      ((∀ level, x.kind ≠ .warn level) → ∃ t, exec .fieldFrameSent s = .next t ∧ t = s.setField t.field
        ∧ t.field = { s.field with lastOctet := some s.now, tx := .replyWindow, window := some (s.now + 250) })
      ∧ (∀ level, x.kind = .warn level → ∃ t, exec .fieldFrameSent s = .next t
        ∧ (s.setField t.field).Keeps t
        ∧ t.field.lastSent = some { level := level, runTime := s.now } ∧ t.field.refresh = s.now + 30000
        ∧ t.field.lastOctet = some s.now ∧ t.field.heads = s.field.heads ∧ t.field.settings = s.field.settings
        ∧ (t.field.tx = .free ∨ t.field.tx = .waitingIdle))))
  ∧ (∀ s : State,
      (s.field.refresh ≤ s.now → s.field.warn = .heldBack ∨ 1 ≤ s.warning.level ∨ anyMismatch s = true →
        ∃ t, exec .warnRefreshExpiry s = .next t ∧ t = s.setField t.field ∧ t.field.refresh = s.now + 30000
          ∧ t.field.heads = s.field.heads
          ∧ (s.field.tx ≠ .free → t.field = { s.field with refresh := s.now + 30000, warn := .standing })
          ∧ (s.field.tx = .free → t.field.warn = .none ∧ t.field.tx = .waitingIdle
              ∧ t.field.transaction.map (·.kind) = some (.warn s.warning.level)
              ∧ t.field.transaction.map (·.frame) = some (warnFrame s)))
      ∧ (s.field.refresh ≤ s.now → s.field.warn ≠ .heldBack → s.warning.level = 0 → anyMismatch s = false →
        exec .warnRefreshExpiry s = .next (s.setField { s.field with refresh := s.now + 30000 }))
      ∧ (s.now < s.field.refresh → exec .warnRefreshExpiry s = .next s))

/-- R17, R30, R32, R34, R37, R39, R43: a collision: the attempt is counted, and the transmitter waits a number of slots of
5 ms that the draw leaves open (log 4) within 2 to the smaller of attempts and the backoff bits the transaction was
chosen under; the eighth attempt, or the first where it was chosen with single attempt ON, ends it EXCESS_COLLISION: a
failed poll is scheduled again, a WARN is HELD_BACK, a management transaction raises HEAD_PARAM_DONE, and LINE_FAULT
tells which it was, with the entry of a poll or of a management transaction. That a WARN ended so is HELD_BACK also
where a new request was raised in flight is log 26. The wait over, the transmitter contends again. That a command
whose event does not hold changes nothing is read from the spec by inference (log 12). -/
def Obligations.Backoff : Prop :=
  (∀ (s : State) (x : Transaction), s.field.tx = .sending → s.field.transaction = some x →
    (x.singleAttempt = false → x.attempts < 7 → ∃ t slots, exec .collision s = .next t
      ∧ t = (s.setField t.field).freeTaken
      ∧ slots < 2 ^ min (x.attempts + 1) x.backoffBits
      ∧ t.field = { s.field with
          tx := .backoff, transaction := some { x with attempts := x.attempts + 1 }
          backoff := some (s.now + slots * 5), lastOctet := some s.now })
    ∧ (∀ i, x.kind = .poll i → x.singleAttempt = true ∨ 7 ≤ x.attempts →
      s.supervisor.quiet = .normal → ∃ t, exec .collision s = .next t ∧ (s.setField t.field).Keeps t
        ∧ t.field.heads[i] = { s.field.heads[i] with
            lastOutcome := some .excessCollision
            nextDue := some (s.now + s.field.heads[i].config.normal * 1000) }
        ∧ (∀ j : Fin 8, j ≠ i → t.field.heads[j] = s.field.heads[j])
        ∧ t.field.settings = s.field.settings ∧ t.field.captured = s.field.captured
        ∧ (t.field.tx = .free ∨ t.field.tx = .waitingIdle))
    ∧ (x.singleAttempt = true ∨ 7 ≤ x.attempts →
      (∀ level, x.kind = .warn level → ∃ t, exec .collision s = .next t ∧ (s.setField t.field).Keeps t
        ∧ t.field.warn = .heldBack ∧ t.field.heads = s.field.heads ∧ t.field.lastSent = s.field.lastSent
        ∧ (t.field.tx = .free ∨ (t.field.tx = .waitingIdle ∧ t.field.deferral = some (s.now + 1500))))
      ∧ (∀ m, x.kind = .management → s.field.management = some m → ∃ t, exec .collision s = .next t
        ∧ (s.setField t.field).Keeps t ∧ t.field.management = none ∧ t.field.heads = s.field.heads
        ∧ (t.field.tx = .free ∨ (t.field.tx = .waitingIdle ∧ t.field.deferral = some (s.now + 1500)))
        ∧ (s.link.notice ≠ none → ∃ y, t.notices.slots[sourcePlace .headParamDone] = some y
            ∧ y.content = [.num 1 (m.entry.val + 1), .num 1 x.frame.destination, .code (paramOpCode m.op),
                .num 1 m.parameter, .code 4, .absent, .num 6 s.now] ++ optTime s.time.stationTime))
      ∧ (s.link.notice ≠ none → ∃ t y, exec .collision s = .next t
        ∧ t.notices.slots[sourcePlace .lineFault] = some y
        ∧ ∃ first entry, y.content = .code first :: entry
              ++ [.code 1, .num 1 (x.attempts + 1), .num 6 s.now] ++ optTime s.time.stationTime
          ∧ (∀ i, x.kind = .poll i → first = 0 ∧ entry = [.present, .num 1 (i.val + 1)])
          ∧ (x.kind = .management → first = 1
              ∧ entry = optNum 1 (s.field.management.map fun m => m.entry.val + 1)) ∧ (∀ level, x.kind = .warn level → first = 2 ∧ entry = [.absent]))))
  ∧ (∀ s : State, s.field.tx ≠ .sending → exec .collision s = .next s)
  ∧ (∀ (s : State) (e : Nat), s.field.tx = .backoff → s.field.backoff = some e →
    (e ≤ s.now → exec .backoffExpiry s = .next (s.setField
      { s.field with tx := .waitingIdle, backoff := none, deferral := some (s.now + 1500) }))
    ∧ (s.now < e → exec .backoffExpiry s = .next s))

/-- R29, R33, R37, R39, R43: a transaction that is deferred out or unanswered. A poll deferred out leaves its count and
state; an unanswered poll is counted, and the third in a row silences a POST entry, and a STAGE entry, whose channel loses
its head: what it has changed is handed over and voted, and CHANNEL_STATE raised (R57, R60, R61, R65, R69); a WARN deferred
out is HELD_BACK; a management transaction ends. The transmitter is free again. R37, R38, R43: a management transaction whose reply
window ends unanswered, or that is deferred out: the management state returns to NONE, no entry changes and
HEAD_PARAM_DONE carries NO_REPLY or DEFERRED_OUT; the second raises LINE_FAULT, the first does not. That a command
whose event does not hold changes nothing is read from the spec by inference (log 12). That a WARN deferred out is
HELD_BACK whatever stood is log 26. -/
def Obligations.LineFailures : Prop :=
  ((∀ (s : State) (x : Transaction) (d : Nat), s.field.tx = .waitingIdle → s.field.transaction = some x →
      s.field.deferral = some d → d ≤ s.now → s.supervisor.quiet = .normal →
      (∀ i, x.kind = .poll i → ∃ t, exec .deferralExpiry s = .next t ∧ (s.setField t.field).Keeps t
        ∧ t.field.heads[i] = { s.field.heads[i] with
            lastOutcome := some .deferredOut
            nextDue := some (s.now + s.field.heads[i].config.normal * 1000) }
        ∧ (∀ j : Fin 8, j ≠ i → t.field.heads[j] = s.field.heads[j])
        ∧ (t.field.tx = .free ∨ (t.field.tx = .waitingIdle ∧ t.field.deferral = some (s.now + 1500))))
      ∧ (∀ level, x.kind = .warn level → ∃ t, exec .deferralExpiry s = .next t ∧ (s.setField t.field).Keeps t
        ∧ t.field.warn = .heldBack ∧ t.field.heads = s.field.heads ∧ t.field.lastSent = s.field.lastSent
        ∧ (t.field.tx = .free ∨ (t.field.tx = .waitingIdle ∧ t.field.deferral = some (s.now + 1500))))
      ∧ (x.kind = .management → ∃ t, exec .deferralExpiry s = .next t ∧ (s.setField t.field).Keeps t
        ∧ t.field.management = none ∧ t.field.heads = s.field.heads))
    ∧ (∀ (s : State) (d : Nat), s.field.deferral = some d → s.now < d → exec .deferralExpiry s = .next s)
    ∧ (∀ (s : State) (x : Transaction) (w : Nat) (i : Fin 8), s.field.tx = .replyWindow →
      s.field.transaction = some x → x.kind = .poll i → s.field.window = some w → s.supervisor.quiet = .normal →
      (w ≤ s.now → s.field.heads[i].noReply ≠ 2 ∨ s.field.heads[i].config.kind = .post →
        ∃ t, exec .replyWindowExpiry s = .next t ∧ (s.setField t.field).Keeps t
          ∧ t.field.heads[i] = { s.field.heads[i] with
              lastOutcome := some .noReply
              noReply := if s.field.heads[i].noReply < 3 then s.field.heads[i].noReply + 1
                else s.field.heads[i].noReply
              state := if 2 ≤ s.field.heads[i].noReply then .silent else s.field.heads[i].state
              nextDue := some (s.now + s.field.heads[i].config.normal * 1000)
              post := if s.field.heads[i].noReply = 2 then none else s.field.heads[i].post }
          ∧ (∀ j : Fin 8, j ≠ i → t.field.heads[j] = s.field.heads[j])
          ∧ (t.field.tx = .free ∨ t.field.tx = .waitingIdle))
      ∧ (w ≤ s.now → s.field.heads[i].noReply = 2 → s.field.heads[i].config.kind = .stage →
        ∀ c : Fin 4, s.field.heads[i].config.channel = some (c.val + 1) →
        ∃ t, exec .replyWindowExpiry s = .next t ∧ t.field.heads[i].state = .silent ∧ t.field.heads[i].noReply = 3
          ∧ t.channels[c] = loseHead s.now s.channels[c] ∧ (∀ j : Fin 4, j ≠ c → t.channels[j] = s.channels[j])
          ∧ s.ChannelHanded t c)
      ∧ (s.now < w → exec .replyWindowExpiry s = .next s)))
  ∧ (∀ (s : State) (x : Transaction) (m : Management) (c : Instr) (outcome : Nat), s.field.transaction = some x →
      x.kind = .management → s.field.management = some m →
      (c = .replyWindowExpiry ∧ outcome = 2 ∧ s.field.tx = .replyWindow ∧ ∃ w, s.field.window = some w ∧ w ≤ s.now)
        ∨ (c = .deferralExpiry ∧ outcome = 3 ∧ s.field.tx = .waitingIdle ∧ ∃ d, s.field.deferral = some d ∧ d ≤ s.now) →
      ∃ t, exec c s = .next t ∧ (s.setField t.field).Keeps t ∧ t.field.management = none
        ∧ t.field.heads = s.field.heads ∧ t.field.settings = s.field.settings ∧ t.field.captured = s.field.captured
        ∧ t.field.lastSent = s.field.lastSent
        ∧ (t.field.tx = .free ∨ (t.field.tx = .waitingIdle ∧ t.field.deferral = some (s.now + 1500)))
        ∧ (s.link.notice ≠ none →
          (∃ y, t.notices.slots[sourcePlace .headParamDone] = some y
            ∧ y.content = [.num 1 (m.entry.val + 1), .num 1 x.frame.destination, .code (paramOpCode m.op),
                .num 1 m.parameter, .code outcome, .absent, .num 6 s.now] ++ optTime s.time.stationTime)
          ∧ (outcome = 2 → t.notices.slots[sourcePlace .lineFault] = s.notices.slots[sourcePlace .lineFault])
          ∧ (outcome = 3 → ∃ y, t.notices.slots[sourcePlace .lineFault] = some y
            ∧ y.content = [.code 1, .present, .num 1 (m.entry.val + 1), .code 0, .num 1 x.attempts, .num 6 s.now]
                ++ optTime s.time.stationTime)))

/-- R66 to R70: the vote, which every event at a channel, CHANNEL_SET and STAGE_SET runs and hands on (`State.Voted` in
the statements on READING, the stale timer, a lost head, CHANNEL_SET and STAGE_SET): with no VALID channel the stage and
the spread are absent and the quality NONE; RANKED takes the VALID channel of the lowest rank, MIDDLE the value at place
⌊c/2⌋ of the sorted values; the quality is GOOD with the required count and no DISAGREE, else DEGRADED. -/
def Obligations.Vote : Prop :=
  ∀ (ranks : Fin 4 → Nat) (u : StageUnit),
    ((∀ i : Fin 4, u.items[i].state ≠ .valid) →
      (voted ranks u).stage = none ∧ (voted ranks u).spread = none ∧ (voted ranks u).disagree = false
        ∧ (voted ranks u).quality = .none)
    ∧ (∀ i : Fin 4, u.settings.method = .ranked → u.items[i].state = .valid →
      (∀ j : Fin 4, j ≠ i → u.items[j].state = .valid → ranks i < ranks j) →
      (voted ranks u).stage = some (u.items[i].filtered.getD 0) ∧ (voted ranks u).chosen = some (i.val + 1))
    ∧ (u.settings.method = .middle → (∃ i : Fin 4, u.items[i].state = .valid) →
      ∃ x, (voted ranks u).stage = some x
        ∧ (∃ i : Fin 4, u.items[i].state = .valid ∧ u.items[i].filtered.getD 0 = x)
        ∧ (let valid := Finset.univ.filter fun i : Fin 4 => u.items[i].state = .valid
          (valid.filter fun i => u.items[i].filtered.getD 0 < x).card ≤ valid.card / 2
            ∧ valid.card / 2 < (valid.filter fun i => u.items[i].filtered.getD 0 ≤ x).card))
    ∧ ((∃ i : Fin 4, u.items[i].state = .valid) →
      ∃ spread : Nat, (voted ranks u).spread = some spread
        ∧ (∀ i j : Fin 4, u.items[i].state = .valid → u.items[j].state = .valid →
            u.items[i].filtered.getD 0 - u.items[j].filtered.getD 0 ≤ spread)
        ∧ (∃ i j : Fin 4, u.items[i].state = .valid ∧ u.items[j].state = .valid
            ∧ u.items[i].filtered.getD 0 - u.items[j].filtered.getD 0 = spread)
        ∧ ((voted ranks u).disagree = true ↔ u.settings.agreement ≠ 0 ∧ u.settings.agreement < spread)
        ∧ (let count := (Finset.univ.filter fun i : Fin 4 => u.items[i].state = .valid).card
          (u.settings.required ≤ count → (voted ranks u).disagree = false → (voted ranks u).quality = .good)
            ∧ (count < u.settings.required ∨ (voted ranks u).disagree = true →
                (voted ranks u).quality = .degraded)))
    ∧ (∀ (s : State) (i : Fin 4) (e : Nat), s.channels[i].staleExpiry = some e → e ≤ s.now →
      s.channels[i].state = .filling ∨ s.channels[i].state = .valid →
      ∃ t, exec (.staleExpiry (i.val + 1)) s = .next t ∧ s.Voted t { s.stage with
        items := s.stage.items.set i { state := .stale, filtered := none } })
    ∧ (voted ranks u).items = u.items ∧ (voted ranks u).ring = u.ring ∧ (voted ranks u).settings = u.settings
    ∧ ((voted ranks u).quality = u.quality → (voted ranks u).previousQuality = u.previousQuality)
    ∧ ((voted ranks u).quality ≠ u.quality → (voted ranks u).previousQuality = some u.quality)

/-- R71 to R77: an interval record is appended when the record timer expires and a later millisecond has come: numbered
on, stamped, with its channels, rate and flags; the flags it carried are cleared, the record span is reopened, and the
timer restarts. R71, R73: an append that must wait, and the first waiting append when a later millisecond has come;
before it, nothing. R85, R88: STAGE_QUALITY with cause BLIND is raised where the rate of the record makes a rule BLIND, or
no longer so. That a command whose event does not hold changes nothing is read from the spec by inference
(log 12). -/
def Obligations.StageRecords : Prop :=
  (∀ s : State, s.stage.recordExpiry ≤ s.now → s.stage.waiting = [] →
      (∀ r, s.stage.ring.getLast? = some r → r.runTime < s.now) → s.supervisor.quiet = .normal →
      ∃ (t : State) (r : StageRecord), exec .recordTimerExpiry s = .next t
        ∧ t.stage.ring = s.heldRecords ++ [r] ∧ s.Records false r
        ∧ t.stage.nextSequence = (s.stage.nextSequence + 1) % 2 ^ 32 ∧ t.stage.rate = r.rate
        ∧ t.stage.recordExpiry = s.now + s.stage.settings.normalInterval * 1000
        ∧ t.stage.warmRestart = false ∧ t.time.stepPending = false
        ∧ (t.time.recordMark = true ↔ s.time.source = .rc)
        ∧ t.time.runTime = s.time.runTime ∧ t.time.stationTime = s.time.stationTime
        ∧ t.warning.rateInput = r.rate ∧ t.warning.stageInput = s.warning.stageInput
        ∧ t.stage.items = s.stage.items ∧ t.channels = s.channels ∧ t.field.heads = s.field.heads
        ∧ t.supervisor = s.supervisor ∧ s.QualityTold t)
  ∧ ((∀ (s : State) (r : StageRecord), s.stage.ring.getLast? = some r → s.now ≤ r.runTime →
      (s.stage.recordExpiry ≤ s.now → Append.interval ∉ s.stage.waiting →
        exec .recordTimerExpiry s
          = .next (s.setStage { s.stage with waiting := s.stage.waiting ++ [.interval] }))
      ∧ exec .waitingAppend s = .next s)
    ∧ (∀ (s : State) (kind : Append) (rest : List Append), s.stage.waiting = kind :: rest →
      (∀ r, s.stage.ring.getLast? = some r → r.runTime < s.now) → ∃ (t : State) (r : StageRecord) (more : List Append),
        exec .waitingAppend s = .next t ∧ t.stage.waiting = rest ++ more
        ∧ t.stage.ring = s.heldRecords ++ [r] ∧ s.Records (kind == .event) r ∧ t.stage.rate = r.rate
        ∧ t.stage.nextSequence = (s.stage.nextSequence + 1) % 2 ^ 32 ∧ s.QualityTold t
        ∧ t.channels = s.channels ∧ t.time.runTime = s.time.runTime)
    ∧ (∀ s : State, s.stage.waiting = [] → exec .waitingAppend s = .next s)
    ∧ (∀ s : State, s.now < s.stage.recordExpiry → exec .recordTimerExpiry s = .next s))

/-- R73, R77, R85, R87, R89, R91 to R94, R100, R139: the confirm timer of a rule makes it ACTIVE, the clear timer IDLE,
and the level is computed; where the level change of a RATE rule appends its event record at once, the new rate is
handed to the rule there (log 34). STAGE_QUALITY is raised where the rate of that record makes a rule BLIND, or no longer
so (R88). Where no rate can change the level again, all that a level change brings about follows, with the rule as its
cause (a WARN for its siren start or stop first, log 20). Before the expiry and in another state nothing happens. R86,
R88: what one hand-over does to a rule: BLIND with its timer paused on an absent value, else judged by R86, its timer
first resumed. That a command whose event does not hold changes nothing is read from the spec by inference (log 12). -/
def Obligations.RuleStates : Prop :=
  (∀ (s : State) (i : Fin 8) (e : Nat), s.warning.rules[i].timer = .running e →
      (s.warning.rules[i].definition.kind = .stage → e ≤ s.now →
        (s.warning.rules[i].state = .confirming → ∃ t, exec (.confirmTimerExpiry (i.val + 1)) s = .next t
          ∧ t.warning.rules[i] = { s.warning.rules[i] with state := .active, timer := .none, lastChange := some s.now }
          ∧ t.LevelHeld ∧ s.warning.rules[i].definition.level ≤ t.warning.level
          ∧ t.warning.floor = s.warning.floor ∧ t.channels = s.channels ∧ t.time.runTime = s.time.runTime
          ∧ t.field.heads = s.field.heads ∧ s.QualityTold t)
        ∧ (s.warning.rules[i].state = .clearing → ∃ t, exec (.clearTimerExpiry (i.val + 1)) s = .next t
          ∧ t.warning.rules[i] = { s.warning.rules[i] with state := .idle, timer := .none, lastChange := some s.now }
          ∧ t.LevelHeld ∧ t.warning.floor = s.warning.floor ∧ t.channels = s.channels
          ∧ t.time.runTime = s.time.runTime ∧ t.field.heads = s.field.heads ∧ s.QualityTold t))
      ∧ (∀ (c : Instr) (r : Rule) (new : Nat), e ≤ s.now → s.LevelHeld →
        s.AppendWaits ∨ (∀ j : Fin 8, s.warning.rules[j].definition.enable = true →
          s.warning.rules[j].definition.kind = .stage) →
        (s.warning.rules[i].state = .confirming ∧ c = .confirmTimerExpiry (i.val + 1)
            ∧ r = { s.warning.rules[i] with state := .active, timer := .none, lastChange := some s.now })
          ∨ (s.warning.rules[i].state = .clearing ∧ c = .clearTimerExpiry (i.val + 1)
            ∧ r = { s.warning.rules[i] with state := .idle, timer := .none, lastChange := some s.now }) →
        new = max s.warning.floor (rulesLevel (s.warning.rules.set i r)) → ∃ t, exec c s = .next t
          ∧ t.warning.rules = s.warning.rules.set i r
          ∧ (new = s.warning.level → t = s.setWarning { s.warning with rules := s.warning.rules.set i r })
          ∧ (new ≠ s.warning.level → s.LevelChanged t (.rule i) new))
      ∧ (∀ (c : Instr) (r : Rule), s.warning.rules[i].definition.kind = .rate → e ≤ s.now →
        (s.warning.rules[i].state = .confirming ∧ c = .confirmTimerExpiry (i.val + 1)
            ∧ r = { s.warning.rules[i] with state := .active, timer := .none, lastChange := some s.now })
          ∨ (s.warning.rules[i].state = .clearing ∧ c = .clearTimerExpiry (i.val + 1)
            ∧ r = { s.warning.rules[i] with state := .idle, timer := .none, lastChange := some s.now }) →
        ∃ t, exec c s = .next t ∧ t.LevelHeld ∧ t.warning.floor = s.warning.floor ∧ t.channels = s.channels
          ∧ t.time.runTime = s.time.runTime ∧ t.field.heads = s.field.heads ∧ s.QualityTold t
          ∧ t.warning.rules[i] = (if s.warning.rules[i].definition.enable = true
                ∧ t.stage.nextSequence ≠ s.stage.nextSequence then handRule s.now t.stage.rate r else r)
          ∧ (s.LevelHeld → r.state = .active → r.definition.level ≤ s.warning.level →
              t.warning.level = s.warning.level ∧ t.stage = s.stage)
          ∧ (s.LevelHeld → r.state = .active → s.warning.level < r.definition.level →
              (s.stage.waiting = [] → (∀ x, s.stage.ring.getLast? = some x → x.runTime < s.now) →
                t.stage.nextSequence = (s.stage.nextSequence + 1) % 2 ^ 32)
              ∧ (s.stage.waiting ≠ [] ∨ (∃ x, s.stage.ring.getLast? = some x ∧ s.now ≤ x.runTime) →
                t.stage = { s.stage with waiting := s.stage.waiting ++ [.event] }
                  ∧ t.warning.level = r.definition.level)))
      ∧ (s.now < e → exec (.confirmTimerExpiry (i.val + 1)) s = .next s ∧ exec (.clearTimerExpiry (i.val + 1)) s = .next s)
      ∧ (s.warning.rules[i].state ≠ .confirming → exec (.confirmTimerExpiry (i.val + 1)) s = .next s)
      ∧ (s.warning.rules[i].state ≠ .clearing → exec (.clearTimerExpiry (i.val + 1)) s = .next s))
  ∧ (∀ (now : Nat) (r : Rule),
      (handRule now none r = { r with blind := true, timer := match r.timer with
          | .running e => .paused (e - now)
          | x => x })
      ∧ ∀ (v : Int) (r' : Rule), handRule now (some v) r = r' →
        r'.blind = false ∧ r'.lastValue = some v ∧ r'.definition = r.definition
        ∧ (r.state = .idle → v < r.definition.setThreshold → r'.state = .idle)
        ∧ (r.state = .idle → r.definition.setThreshold ≤ v → r.definition.confirmTime = 0 →
            r'.state = .active ∧ r'.timer = .none)
        ∧ (r.state = .idle → r.definition.setThreshold ≤ v → 0 < r.definition.confirmTime →
            r'.state = .confirming ∧ r'.timer = .running (now + r.definition.confirmTime * 1000))
        ∧ (r.state = .confirming → v < r.definition.setThreshold → r'.state = .idle ∧ r'.timer = .none)
        ∧ (r.state = .confirming → r.definition.setThreshold ≤ v → r'.state = .confirming
            ∧ r'.timer = match r.timer with
              | .paused m => .running (now + m)
              | x => x)
        ∧ (r.state = .active → r.definition.clearThreshold < v → r'.state = .active)
        ∧ (r.state = .active → v ≤ r.definition.clearThreshold → r.definition.clearDelay = 0 →
            r'.state = .idle ∧ r'.timer = .none)
        ∧ (r.state = .active → v ≤ r.definition.clearThreshold → 0 < r.definition.clearDelay →
            r'.state = .clearing ∧ r'.timer = .running (now + r.definition.clearDelay * 1000))
        ∧ (r.state = .clearing → r.definition.clearThreshold < v → r'.state = .active ∧ r'.timer = .none)
        ∧ (r.state = .clearing → v ≤ r.definition.clearThreshold → r'.state = .clearing)
        ∧ (r'.lastChange = if r'.state = r.state then r.lastChange else some now))

/-- R106, R108, R110, R113 to R115, R117, R119: encoder pulses, in either direction and in every motion: each pulse of an
axis moves its count by its scale and restarts the stall timer of a driven axis; an absent scale and a held reel are not
counted. A travel arrives within its tolerance; one outside it, in a run or not, also past its target, stays driven as it
was (log 64, the model's choice), and its arrival outside a run is AT_VERTICAL. A reel that runs the payout out in
SEEKING_SURFACE is a NO_SURFACE fault; one past the maximum depth with REEL_DOWN driven and the bottom contact open a
DEPTH_LIMIT fault; a placement that reaches its target is AT_POINT, also where it is past the maximum depth (log 25); a
bounce goes up 300 mm from where the contact opened, or to the surface, and the bottom is sought again, in HOLD at once
where the contact is closed. Every other motion, a weight that coasts in HOLD among them, only counts. R112, R113, R129,
R130, R135 to R137, R145: the arrival of a travel in an ACTIVE run: an EDGE, or a vertical with the skip mark, is stored
with RUN_PROGRESS and the carriage goes on to the next entry, or home after the last; any other is sounded, as SURFACE
where its method or a depth override says so. Where the surface contact is closed already, a FULL sounding has found the
surface there: the bottom is sought, and held at once where its contact is closed too. -/
def Obligations.EncoderPulses : Prop :=
  ((∀ (s counted : State) (outward : Bool) (p : Int),
      p = (match s.cable.settings.traverseScale with
        | none => s.cable.traverseCount
        | some scale => if outward = true then s.cable.traverseCount + scale else s.cable.traverseCount - scale) →
      counted = s.setCable { s.cable with
        traverseCount := p
        stall := if drivesTraverse s.cable.drive = true then some (s.now + s.cable.settings.stallTime * 1000)
          else s.cable.stall } →
      ((∀ target, s.cable.motion ≠ .travelling target) → exec (.traversePulse outward) s = .next counted)
      ∧ (∀ target, s.cable.motion = .travelling target →
        (drivesTraverse s.cable.drive = false ∨ s.cable.positionKnown = false
            ∨ s.cable.settings.tolerance * 1000 < (p - (target : Int) * 1000).natAbs →
          exec (.traversePulse outward) s = .next counted)
        ∧ (drivesTraverse s.cable.drive = true → s.cable.positionKnown = true → s.run.state ≠ .active →
          (p - (target : Int) * 1000).natAbs ≤ s.cable.settings.tolerance * 1000 →
          exec (.traversePulse outward) s = .next (s.setCable { s.cable with
            traverseCount := p, motion := .atVertical, drive := none, stall := none, arrival := some (millimetres p) }))))
    ∧ (∀ (s counted : State) (down : Bool) (q : Int),
      q = (match s.cable.settings.reelScale with
        | none => s.cable.reelCount
        | some scale => if s.cable.switches.reelTop = true then s.cable.reelCount
          else if down = true then s.cable.reelCount + scale else s.cable.reelCount - scale) →
      counted = s.setCable { s.cable with
        reelCount := q
        stall := if s.cable.drive = some .reelDown ∨ s.cable.drive = some .reelUp
          then some (s.now + s.cable.settings.stallTime * 1000) else s.cable.stall } →
      ((∀ x, s.cable.motion ≠ .seekingSurface x) → s.cable.motion ≠ .seekingBottom .seek →
        (∀ opened, s.cable.motion ≠ .seekingBottom (.bounce opened)) → (∀ target, s.cable.motion ≠ .toPoint target) →
        exec (.reelPulse down) s = .next counted)
      ∧ (∀ x, s.cable.motion = .seekingSurface x →
        (s.cable.drive ≠ some .reelDown ∨ q < 30000000 → exec (.reelPulse down) s = .next counted)
        ∧ (s.cable.drive = some .reelDown → 30000000 ≤ q →
          ∃ t, exec (.reelPulse down) s = .next t ∧ counted.Faults t .noSurface))
      ∧ (∀ (limit : Nat) (p d : Int), s.cable.surfacePoint = some p → s.cable.settings.maxDepth = some limit →
        d = q - p →
        (s.cable.motion = .seekingBottom .seek → s.cable.switches.bottom = false → s.cable.drive = some .reelDown →
          ((limit : Int) * 1000 < d → ∃ t, exec (.reelPulse down) s = .next t ∧ counted.Faults t .depthLimit)
          ∧ (d ≤ (limit : Int) * 1000 → exec (.reelPulse down) s = .next counted))
        ∧ (∀ target : Int, s.cable.motion = .toPoint target →
          ((s.cable.drive = some .reelDown ∧ target * 1000 ≤ d) ∨ (s.cable.drive = some .reelUp ∧ d ≤ target * 1000) →
            exec (.reelPulse down) s = .next (s.setCable { s.cable with
              reelCount := q, motion := .atPoint, drive := none, stall := none
              settle := some (s.now + s.cable.settings.settleTime * 1000)
              pointDepth := some (millimetres d), bedStop := false }))
          ∧ (s.cable.drive = some .reelUp → target * 1000 < d → exec (.reelPulse down) s = .next counted)
          ∧ (s.cable.drive = some .reelDown → d < target * 1000 → s.cable.switches.bottom = false →
            ((limit : Int) * 1000 < d → ∃ t, exec (.reelPulse down) s = .next t ∧ counted.Faults t .depthLimit)
            ∧ (d ≤ (limit : Int) * 1000 → exec (.reelPulse down) s = .next counted)))
        ∧ (∀ opened : Int, s.cable.motion = .seekingBottom (.bounce opened) → s.cable.drive = some .reelUp →
          (opened - 300000 < d → 0 < d → exec (.reelPulse down) s = .next counted)
          ∧ (d ≤ opened - 300000 ∨ d ≤ 0 →
            (s.cable.switches.bottom = true → exec (.reelPulse down) s = .next (s.setCable { s.cable with
              reelCount := q, motion := .seekingBottom .hold, drive := none, stall := none
              hold := some (s.now + 1000) }))
            ∧ (s.cable.switches.bottom = false →
              (d ≤ (limit : Int) * 1000 → exec (.reelPulse down) s = .next (counted.setCable { counted.cable with
                motion := .seekingBottom .seek, drive := some .reelDown }))
              ∧ ((limit : Int) * 1000 < d → ∃ t, exec (.reelPulse down) s = .next t
                ∧ (counted.setCable { counted.cable with
                  motion := .seekingBottom .seek, drive := some .reelDown }).Faults t .depthLimit)))))))
  ∧ (∀ (s : State) (outward : Bool) (scale target n : Nat) (skip : Bool) (p : Int) (e : PlanEntry),
      s.cable.settings.traverseScale = some scale → s.cable.motion = .travelling target →
      s.cable.drive = some .traverseOut ∨ s.cable.drive = some .traverseIn → s.cable.positionKnown = true →
      s.cable.switches.reelTop = true → s.run.state = .active → s.run.phase = some .travel →
      s.run.vertical = { freshVertical n with skipMark := skip } → e = planEntry s n → (e.method = .edge → skip = false) →
      p = (if outward = true then s.cable.traverseCount + scale else s.cable.traverseCount - scale) →
      (p - (target : Int) * 1000).natAbs ≤ s.cable.settings.tolerance * 1000 →
      (e.method ≠ .edge → skip = false → s.cable.switches.surface = false → s.cable.reelCount < 30000000 →
        ∃ t, exec (.traversePulse outward) s = .next t ∧ ((s.setGauging t.gauging).setCable t.cable).Keeps t
          ∧ t.run.state = .active ∧ t.run.phase = some .sound ∧ t.run.verticals = s.run.verticals
          ∧ t.run.vertical = { s.run.vertical with arrival := some (millimetres p) }
          ∧ t.cable = { s.cable with
              traverseCount := p, arrival := some (millimetres p)
              motion := .seekingSurface (if e.method = .surface ∨ e.depth ≠ none then .surface else .full)
              drive := some .reelDown, stall := some (s.now + s.cable.settings.stallTime * 1000)
              sounding := some { failed := 0, depth := none }, surfacePoint := none })
      ∧ (e.method ≠ .edge → skip = false → s.cable.switches.surface = true → e.method ≠ .surface → e.depth = none →
        ∃ t, exec (.traversePulse outward) s = .next t ∧ ((s.setGauging t.gauging).setCable t.cable).Keeps t
          ∧ t.run.state = .active ∧ t.run.phase = some .sound
          ∧ t.run.vertical = { s.run.vertical with arrival := some (millimetres p) }
          ∧ t.cable = { s.cable with
              traverseCount := p, arrival := some (millimetres p), surfacePoint := some s.cable.reelCount
              sounding := some { failed := 0, depth := none }
              motion := if s.cable.switches.bottom = true then .seekingBottom .hold else .seekingBottom .seek
              drive := if s.cable.switches.bottom = true then none else some .reelDown
              stall := if s.cable.switches.bottom = true then none
                else some (s.now + s.cable.settings.stallTime * 1000)
              hold := if s.cable.switches.bottom = true then some (s.now + 1000) else s.cable.hold })
      ∧ (∀ v : VerticalResult, e.method = .edge ∨ skip = true →
        v = { index := n, method := e.method, distance := e.distance, arrival := millimetres p
              depth := if skip = true then none else some (e.depth.getD 0)
              depthSource := if skip = true then none else some .edge, failed := none, points := []
              mean := if skip = true then none else some 0, skip := if skip = true then some .byRequest else none
              retried := false, partialPoints := false } →
        (n < s.gauging.plan.entries.length →
          p + s.cable.settings.tolerance * 1000 < (planEntry s (n + 1)).distance * 1000 →
          s.cable.switches.farLimit = false → ∃ t, exec (.traversePulse outward) s = .next t
            ∧ ((s.setGauging t.gauging).setCable t.cable).Keeps t ∧ s.GoesOn t v
            ∧ t.cable.traverseCount = p ∧ t.cable.arrival = some (millimetres p))
        ∧ (s.gauging.plan.entries.length ≤ n → s.cable.switches.homeLimit = false →
          ∃ t, exec (.traversePulse outward) s = .next t ∧ ((s.setGauging t.gauging).setCable t.cable).Keeps t
            ∧ s.Returns t v ∧ t.cable.traverseCount = p ∧ t.cable.arrival = some (millimetres p))))

/-- R106: an input that opens, or an overload that clears, is the whole of the event; and so is a switch that names the
level the input already has (log 12). R114, R115, R117: SURFACE_CONTACT closing outside SEEKING_SURFACE, or in it with
REEL_DOWN no longer driven, BOTTOM_CONTACT closing while REEL_DOWN is not driven (in BOUNCE, in RAISING, in a traverse
motion), and its opening in any state but a HOLD whose timer runs, are a switch alone. R119, R120: an overload in
UNREFERENCED or FAULTED is a switch alone, and a stall timer before its expiry or without a driven output does
nothing. -/
def Obligations.SwitchesAlone : Prop :=
  (∀ s : State,
      exec .homeLimitOpen s
        = .next (s.setCable { s.cable with switches := { s.cable.switches with homeLimit := false } })
      ∧ exec .farLimitOpen s
        = .next (s.setCable { s.cable with switches := { s.cable.switches with farLimit := false } })
      ∧ exec .surfaceContactOpen s
        = .next (s.setCable { s.cable with switches := { s.cable.switches with surface := false } })
      ∧ exec .winchOverloadClear s
        = .next (s.setCable { s.cable with switches := { s.cable.switches with overload := false } })
      ∧ (s.cable.switches.homeLimit = true → exec .homeLimitClose s = .next s)
      ∧ (s.cable.switches.farLimit = true → exec .farLimitClose s = .next s)
      ∧ (s.cable.switches.surface = true → exec .surfaceContactClose s = .next s)
      ∧ (s.cable.switches.overload = true → exec .winchOverload s = .next s)
      ∧ (∀ b, s.cable.switches.reelTop = b → exec (.reelTopChange b) s = .next s)
      ∧ (∀ b, s.cable.switches.bottom = b → exec (.bottomContactChange b) s = .next s))
  ∧ (∀ s : State,
      (s.cable.switches.surface = false → (∀ x, s.cable.motion ≠ .seekingSurface x) ∨ s.cable.drive ≠ some .reelDown →
        exec .surfaceContactClose s
          = .next (s.setCable { s.cable with switches := { s.cable.switches with surface := true } }))
      ∧ (s.cable.switches.bottom = false → s.cable.drive ≠ some .reelDown →
        exec (.bottomContactChange true) s
          = .next (s.setCable { s.cable with switches := { s.cable.switches with bottom := true } }))
      ∧ (s.cable.switches.bottom = true → s.cable.motion ≠ .seekingBottom .hold ∨ s.cable.hold = none →
        exec (.bottomContactChange false) s
          = .next (s.setCable { s.cable with switches := { s.cable.switches with bottom := false } })))
  ∧ (∀ s : State,
      (s.cable.switches.overload = false → s.cable.motion = .unreferenced ∨ s.cable.motion = .faulted →
        exec .winchOverload s
          = .next (s.setCable { s.cable with switches := { s.cable.switches with overload := true } }))
      ∧ (s.cable.drive = none ∨ (∀ e, s.cable.stall = some e → s.now < e) → exec .stallExpiry s = .next s))

/-- R111, R113, R118, R119: HOME_LIMIT closes: it parks a carriage that homes or retracts, is the arrival of a travel to
0, a LIMIT fault of another travel inward, and no more than a switch otherwise, also in a travel to another target
with TRAVERSE_OUT or REEL_UP driven (log 69, the model's choice); FAR_LIMIT is a LIMIT fault of a travel
out. R108, R109, R118: REEL_TOP closes: the reel count is 0 and the surface point absent, a raise ends AT_VERTICAL,
and a homing carriage is driven in; it opens: a homing carriage raises the reel again, and no traverse output stays
driven. R108, R109, R111, R113, R118, R119, R136, R138: REEL_TOP closes while the carriage travels, retracts or homes:
the reel is held at 0, and the traverse is driven to its goal, or the motion ends there at once, or the limit switch
already closed on the way is a LIMIT fault, each with what a fault does to the run (R138, R140) and MOTION_FAULT (R121).
That a travel already within its tolerance ends AT_VERTICAL there, and
that a travel to 0 whose drive would start with HOME_LIMIT closed arrives home, is log 31. R111, R113, R118, R138,
R146: HOME_LIMIT closes at the end of the retract of an ABORTED run: PARKED, its return outcome with it, and RUN_END
(its outcome numbered as log 59 says); and where an ACTIVE run travels in to an EDGE at 0: the edge is stored and the
run goes on. R118, R129, R135, R145: REEL_TOP closes at the end of the raise of an ACTIVE run: the vertical is stored,
SKIPPED as it is marked or with its mean velocity, RUN_PROGRESS is raised, and the carriage goes on to the next entry, or home after the last.
One skipped in mid-sounding has no failed attempts and no RETRIED (log 27). -/
def Obligations.TopAndLimitSwitches : Prop :=
  ((∀ s : State, s.cable.switches.homeLimit = false →
      (s.cable.motion = .homing ∨ (s.cable.motion = .retracting ∧ s.run.state ≠ .returning
          ∧ (s.run.state = .aborted → s.run.outcome ≠ some .inProgress)) → s.cable.drive = some .traverseIn →
        ∃ t, exec .homeLimitClose s = .next t
          ∧ t = s.setCable { s.cable with
              switches := { s.cable.switches with homeLimit := true }
              motion := .parked, drive := none, stall := none, traverseCount := 0, positionKnown := true })
      ∧ (s.cable.motion = .travelling 0 → s.cable.drive = some .traverseIn → s.run.state ≠ .active →
        ∃ t, exec .homeLimitClose s = .next t
          ∧ t = s.setCable { s.cable with
              switches := { s.cable.switches with homeLimit := true }
              motion := .atVertical, drive := none, stall := none, traverseCount := 0, arrival := some 0 })
      ∧ (∀ target, s.cable.motion = .travelling target → 0 < target → s.cable.drive = some .traverseIn →
        ∃ t, exec .homeLimitClose s = .next t
          ∧ (s.setCable { s.cable with switches := { s.cable.switches with homeLimit := true } }).Faults t .limit)
      ∧ (s.cable.drive ≠ some .traverseIn → exec .homeLimitClose s
        = .next (s.setCable { s.cable with switches := { s.cable.switches with homeLimit := true } })))
    ∧ (∀ s : State, s.cable.switches.farLimit = false →
      (∀ target, s.cable.motion = .travelling target → s.cable.drive = some .traverseOut →
        ∃ t, exec .farLimitClose s = .next t
          ∧ (s.setCable { s.cable with switches := { s.cable.switches with farLimit := true } }).Faults t .limit)
      ∧ (s.cable.drive ≠ some .traverseOut → exec .farLimitClose s
        = .next (s.setCable { s.cable with switches := { s.cable.switches with farLimit := true } }))))
  ∧ (∀ s : State,
      (s.cable.switches.reelTop = false → ∃ t, exec (.reelTopChange true) s = .next t
        ∧ t.cable.switches = { s.cable.switches with reelTop := true }
        ∧ (s.cable.motion = .homing → s.cable.switches.homeLimit = false → t = s.setCable t.cable
            ∧ t.cable.reelCount = 0 ∧ t.cable.surfacePoint = none
            ∧ (t.cable.payoutKnown = true ↔ s.cable.payoutKnown = true ∨ s.cable.settings.reelScale ≠ none)
            ∧ t.cable.motion = .homing ∧ t.cable.drive = some .traverseIn)
        ∧ (s.cable.motion = .raising → s.run.state ≠ .active → t = s.setCable t.cable ∧ t.cable.motion = .atVertical
            ∧ t.cable.drive = none ∧ t.cable.reelCount = 0 ∧ t.cable.surfacePoint = none)
        ∧ (s.cable.motion = .parked ∨ s.cable.motion = .atVertical ∨ s.cable.motion = .unreferenced
            ∨ s.cable.motion = .faulted → t = s.setCable
              { s.cable with
                reelCount := 0, surfacePoint := none
                payoutKnown := s.cable.payoutKnown || s.cable.settings.reelScale.isSome
                switches := { s.cable.switches with reelTop := true } }))
      ∧ (s.cable.switches.reelTop = true → ∃ t, exec (.reelTopChange false) s = .next t ∧ t = s.setCable t.cable
        ∧ t.cable.switches = { s.cable.switches with reelTop := false }
        ∧ t.cable.motion = s.cable.motion ∧ t.cable.reelCount = s.cable.reelCount
        ∧ (traverseMotion s.cable.motion = true → t.cable.drive = some .reelUp)
        ∧ (traverseMotion s.cable.motion = false → t.cable.drive = s.cable.drive)))
  ∧ (∀ (s : State) (top : Cableway), s.cable.switches.reelTop = false → s.cable.drive = some .reelUp →
      top = { s.cable with
        reelCount := 0, surfacePoint := none
        payoutKnown := s.cable.payoutKnown || s.cable.settings.reelScale.isSome
        switches := { s.cable.switches with reelTop := true } } →
      (∀ (target : Nat) (ahead : Int), s.cable.motion = .travelling target → s.cable.positionKnown = true →
        ahead = (target : Int) * 1000 - s.cable.traverseCount →
        (s.cable.settings.tolerance * 1000 < ahead.natAbs →
          (0 < ahead → s.cable.switches.farLimit = false → exec (.reelTopChange true) s = .next (s.setCable
            { top with drive := some .traverseOut, stall := some (s.now + s.cable.settings.stallTime * 1000) }))
          ∧ (ahead < 0 → s.cable.switches.homeLimit = false → exec (.reelTopChange true) s = .next (s.setCable
            { top with drive := some .traverseIn, stall := some (s.now + s.cable.settings.stallTime * 1000) }))
          ∧ ((0 < ahead ∧ s.cable.switches.farLimit = true)
              ∨ (ahead < 0 ∧ 0 < target ∧ s.cable.switches.homeLimit = true) →
            ∃ t, exec (.reelTopChange true) s = .next t
              ∧ (s.setCable { top with
                  drive := some (if 0 < ahead then .traverseOut else .traverseIn)
                  stall := some (s.now + s.cable.settings.stallTime * 1000) }).Faults t .limit)
          ∧ (ahead < 0 → target = 0 → s.cable.switches.homeLimit = true → s.run.state ≠ .active →
            exec (.reelTopChange true) s = .next (s.setCable
              { top with motion := .atVertical, drive := none, stall := none, traverseCount := 0, arrival := some 0 })))
        ∧ (ahead.natAbs ≤ s.cable.settings.tolerance * 1000 → s.run.state ≠ .active →
          exec (.reelTopChange true) s = .next (s.setCable
            { top with motion := .atVertical, drive := none, stall := none
                       arrival := some (millimetres s.cable.traverseCount) })))
      ∧ (s.cable.motion = .retracting → s.cable.switches.homeLimit = false →
        exec (.reelTopChange true) s = .next (s.setCable
          { top with drive := some .traverseIn, stall := some (s.now + s.cable.settings.stallTime * 1000) }))
      ∧ (s.cable.motion = .homing ∨ s.cable.motion = .retracting → s.cable.switches.homeLimit = true →
        ∃ t, exec (.reelTopChange true) s = .next t ∧ ((s.setGauging t.gauging).setCable t.cable).Keeps t
          ∧ t.cable = { top with motion := .parked, drive := none, stall := none, traverseCount := 0
                                 positionKnown := true }
          ∧ (s.cable.motion = .homing ∨ s.run.state ∉ [.returning, .aborted] ∨ s.run.outcome ≠ some .inProgress →
            s.run.state ≠ .returning → t = s.setCable t.cable)
          ∧ (s.cable.motion = .retracting → s.run.state = .returning → t.run.state = .complete
              ∧ t.run.outcome = some .parked ∧ t.run.verticals = s.run.verticals ∧ s.Told t .runEnd (endOf t.run))
          ∧ (s.cable.motion = .retracting → s.run.state = .aborted → s.run.outcome = some .inProgress →
            t.gauging = { s.gauging with run := { s.run with outcome := some .parked } }
              ∧ s.Told t .runEnd (endOf t.run))))
  ∧ ((∀ s : State, s.cable.switches.homeLimit = false → s.cable.motion = .retracting →
      s.cable.drive = some .traverseIn → s.run.state = .aborted → s.run.outcome = some .inProgress →
      ∃ t, exec .homeLimitClose s = .next t ∧ ((s.setGauging t.gauging).setCable t.cable).Keeps t
        ∧ t.cable = { s.cable with
            switches := { s.cable.switches with homeLimit := true }
            motion := .parked, drive := none, stall := none, traverseCount := 0, positionKnown := true }
        ∧ t.gauging = { s.gauging with run := { s.run with outcome := some .parked } }
        ∧ s.Told t .runEnd (endOf t.run))
    ∧ (∀ (s : State) (n : Nat) (e : PlanEntry) (v : VerticalResult), s.cable.switches.homeLimit = false →
      s.cable.motion = .travelling 0 → s.cable.drive = some .traverseIn → s.cable.positionKnown = true →
      s.cable.switches.reelTop = true → s.run.state = .active → s.run.phase = some .travel →
      s.run.vertical = freshVertical n → e = planEntry s n → e.method = .edge →
      n < s.gauging.plan.entries.length →
      s.cable.settings.tolerance < (planEntry s (n + 1)).distance → s.cable.switches.farLimit = false →
      v = { index := n, method := .edge, distance := e.distance, arrival := 0, depth := some (e.depth.getD 0)
            depthSource := some .edge, failed := none, points := [], mean := some 0, skip := none, retried := false
            partialPoints := false } →
      ∃ t, exec .homeLimitClose s = .next t ∧ ((s.setGauging t.gauging).setCable t.cable).Keeps t ∧ s.GoesOn t v
        ∧ t.cable.traverseCount = 0 ∧ t.cable.arrival = some 0
        ∧ t.cable.switches = { s.cable.switches with homeLimit := true }))
  ∧ (∀ (s : State) (v : VerticalResult) (e : PlanEntry), s.cable.switches.reelTop = false → s.cable.motion = .raising →
      s.cable.positionKnown = true → s.run.state = .active → s.run.phase = some .raise → e = entryInHand s →
      v = { index := s.run.vertical.index, method := e.method, distance := e.distance
            arrival := s.run.vertical.arrival.getD 0, depth := s.run.vertical.depth
            depthSource := s.run.vertical.depthSource, failed := s.run.vertical.failed, points := s.run.vertical.points
            mean := if s.run.vertical.marked = none then some (meanVelocity e s.run.vertical.points) else none
            skip := s.run.vertical.marked, retried := decide (0 < s.run.vertical.failed.getD 0)
            partialPoints := decide (s.run.vertical.marked ≠ none ∧ s.run.vertical.points ≠ []) } →
      (s.run.vertical.index < s.gauging.plan.entries.length →
        s.cable.traverseCount + s.cable.settings.tolerance * 1000
            < (planEntry s (s.run.vertical.index + 1)).distance * 1000 →
        s.cable.switches.farLimit = false → ∃ t, exec (.reelTopChange true) s = .next t
          ∧ ((s.setGauging t.gauging).setCable t.cable).Keeps t ∧ s.GoesOn t v ∧ t.cable.reelCount = 0
          ∧ t.cable.surfacePoint = none ∧ t.cable.switches = { s.cable.switches with reelTop := true })
      ∧ (s.gauging.plan.entries.length ≤ s.run.vertical.index → s.cable.switches.homeLimit = false →
        ∃ t, exec (.reelTopChange true) s = .next t ∧ ((s.setGauging t.gauging).setCable t.cable).Keeps t
          ∧ s.Returns t v ∧ t.cable.reelCount = 0 ∧ t.cable.surfacePoint = none))

/-- R136, R141, R142, R146: the retract of a RETURNING run ends at home: the carriage is PARKED and the run COMPLETE with
its end and its results; fewer than three counted verticals give no discharge and TOO_FEW; otherwise the sums over the
counted verticals of velocity, depth and doubled width, and of depth and doubled width, give discharge, area and mean
velocity, each rounded half up. RUN_END is raised, its return outcome numbered as log 59 says. -/
def Obligations.RunCompletes : Prop :=
  ∀ s : State, s.run.state = .returning → s.cable.motion = .retracting → s.cable.drive = some .traverseIn →
    s.cable.switches.homeLimit = false → ∃ t, exec .homeLimitClose s = .next t
      ∧ ((s.setGauging t.gauging).setCable t.cable).Keeps t
      ∧ t.cable.motion = .parked ∧ t.cable.drive = none ∧ t.cable.traverseCount = 0 ∧ t.cable.positionKnown = true
      ∧ t.run.state = .complete ∧ t.run.outcome = some .parked ∧ t.run.verticals = s.run.verticals
      ∧ t.run.start = s.run.start ∧ t.run.reason = s.run.reason
      ∧ t.run.finish = some { runTime := s.now, stationTime := s.time.stationTime, stage := s.stage.stage
                              quality := s.stage.quality }
      ∧ (∀ a b, s.run.start.bind (·.stage) = some a → s.stage.stage = some b →
          t.run.results.gaugeHeight = some (divNearest (a + b) 2)
            ∧ (t.run.stageChanging = true ↔ s.gauging.plan.changeLimit < (b - a).natAbs))
      ∧ ((s.run.verticals.filter fun v => v.skip.isNone).length < 3 →
          t.run.tooFew = true ∧ t.run.results.discharge = none ∧ t.run.results.area = none
            ∧ t.run.results.mean = none)
      ∧ ((s.run.start.bind (·.stage) = none ∨ s.stage.stage = none) →
          t.run.results.gaugeHeight = none ∧ t.run.stageChanging = false)
      ∧ (∀ (vs : List VerticalResult) (width : Nat → Nat) (q a : Nat), vs = (s.run.verticals.filter fun v => v.skip.isNone) →
          3 ≤ vs.length →
          width = (fun k => ((vs[min (k + 1) (vs.length - 1)]?.map (·.distance)).getD 0)
            - ((vs[k - 1]?.map (·.distance)).getD 0)) →
          q = (∑ k ∈ Finset.range vs.length, ((vs[k]?.bind (·.mean)).getD 0) * ((vs[k]?.bind (·.depth)).getD 0) * width k) →
          a = (∑ k ∈ Finset.range vs.length, ((vs[k]?.bind (·.depth)).getD 0) * width k) →
          t.run.tooFew = false
          ∧ (∃ x, t.run.results.discharge = some x ∧ 2000000 * x ≤ q + 1000000 ∧ q + 1000000 < 2000000 * (x + 1))
          ∧ (∃ x, t.run.results.area = some x ∧ 200 * x ≤ a + 100 ∧ a + 100 < 200 * (x + 1))
          ∧ (a = 0 → t.run.results.mean = none)
          ∧ (0 < a → ∃ x, t.run.results.mean = some x ∧ 2 * (x * a) ≤ 2 * q + a ∧ 2 * q + a < 2 * (x * a) + 2 * a))
      ∧ s.Told t .runEnd (endOf t.run)

/-- R134: the velocity of a point from its revolutions: the rate rounded half up, 0 and BELOW_START under the start rate,
else the segment's line rounded half up and clamped to 0 to 9,999 mm/s. R135: the mean velocity of a vertical by its
method, from the velocities of its points, rounded half up. -/
def Obligations.Velocity : Prop :=
  ((∀ ratio contacts time : Nat, 0 < time →
      2 * (revolutionRate ratio contacts time * time) ≤ 2 * (contacts * ratio * 1000000) + time
        ∧ 2 * (contacts * ratio * 1000000) < 2 * (revolutionRate ratio contacts time * time) + time)
    ∧ (∀ (x : Rating) (r : Nat), r < x.startRate → pointVelocity x r = (0, true, false))
    ∧ (∀ (x : Rating) (r : Nat) (g : Segment), x.startRate ≤ r → (x.segments.map (·.lower)).IsChain (· < ·) →
      g ∈ x.segments → g.lower ≤ r → (∀ h ∈ x.segments, h.lower ≤ r → h.lower ≤ g.lower) →
      ∃ (v : Int) (q : Nat), 2 * (q * 1000000) ≤ 2 * (g.pitch * r) + 1000000 ∧ 2 * (g.pitch * r) < 2 * (q * 1000000) + 1000000
        ∧ v = g.intercept + q
        ∧ (v < 0 → pointVelocity x r = (0, false, true))
        ∧ (0 ≤ v → v ≤ 9999 → ((pointVelocity x r).1 : Int) = v ∧ (pointVelocity x r).2 = (false, false))
        ∧ (9999 < v → pointVelocity x r = (9999, false, true)))
    ∧ (∀ (x : Rating) (r : Nat), (pointVelocity x r).1 ≤ 9999)
    ∧ (∀ (s : State) (x : Rating) (n time : Nat) (short stalled : Bool), s.gauging.rating = some x →
      ∃ p, pointRecord s n (some time) short stalled = p ∧ p.rate = some (revolutionRate x.ratio n time)
        ∧ (p.velocity, p.flags.belowStart, p.flags.clampedV) = pointVelocity x (revolutionRate x.ratio n time)))
  ∧ (∀ (e : PlanEntry) (points : List PointRecord) (v : Fraction → Nat),
      (∀ f ∈ (match e.method with
          | .edge => []
          | .onePoint => [Fraction.six]
          | .twoPoint => [.eight, .two]
          | .threePoint => [.eight, .six, .two]
          | .surface => [.surface]),
        (∃ p ∈ points, p.fraction = f) ∧ ∀ p ∈ points, p.fraction = f → p.velocity = v f) →
      (e.method = .edge → meanVelocity e points = 0)
      ∧ (e.method = .onePoint → meanVelocity e points = v .six)
      ∧ (e.method = .twoPoint → 2 * meanVelocity e points ≤ v .two + v .eight + 1
          ∧ v .two + v .eight ≤ 2 * meanVelocity e points)
      ∧ (e.method = .threePoint → 4 * meanVelocity e points ≤ v .two + 2 * v .six + v .eight + 2
          ∧ v .two + 2 * v .six + v .eight + 2 < 4 * meanVelocity e points + 4)
      ∧ (e.method = .surface → ∀ k, e.coefficient = some k →
          1000 * meanVelocity e points ≤ k * v .surface + 500
            ∧ k * v .surface + 500 < 1000 * meanVelocity e points + 1000))

/-- R116: the meter depth: the fraction of the depth rounded half up, held at the depth less the weight offset and marked
CLAMPED when that is less; 100 mm for a SURFACE point. -/
def Obligations.MeterDepth : Prop :=
  (∀ depth offset : Nat, meterDepth .surface depth offset = (100, false))
  ∧ (∀ (f : Fraction) (depth offset n : Nat), (f = .two ∧ n = 2) ∨ (f = .six ∧ n = 6) ∨ (f = .eight ∧ n = 8) →
    ∃ x, 10 * x ≤ depth * n + 5 ∧ depth * n + 5 < 10 * (x + 1)
      ∧ (x ≤ depth - offset → meterDepth f depth offset = (x, false))
      ∧ (depth - offset < x → meterDepth f depth offset = (depth - offset, true)))

/-- R114, R115: the contacts of the weight: the surface contact, or the bottom one before it, fixes the surface point of a
SURFACE sounding and stops the reel; in a FULL sounding it fixes the surface point and the bottom is sought, held at once
where the bottom contact is closed, be it the one that found the surface; the bottom contact holds the seek and stops a placement on the bed, and its
opening in the hold is a failed attempt that lifts the weight. R114, R116, R117, R130, R131: a SURFACE sounding of an
ACTIVE run that finds the surface takes the depth of the plan: a vertical not deeper than the weight offset is SHALLOW
and raised, and any other has its first point placed: downward, or where the bottom contact closes first, stopped on
the bed. That NO_BOTTOM leaves three failed attempts is log 28. -/
def Obligations.Contacts : Prop :=
  ((∀ s : State, s.cable.motion = .seekingSurface .full → s.cable.drive = some .reelDown →
      (s.cable.switches.surface = false → s.cable.switches.bottom = false → ∃ t, exec .surfaceContactClose s = .next t
        ∧ t = s.setCable { s.cable with
            switches := { s.cable.switches with surface := true }
            surfacePoint := some s.cable.reelCount, motion := .seekingBottom .seek })
      ∧ (s.cable.switches.surface = false → s.cable.switches.bottom = true → exec .surfaceContactClose s
        = .next (s.setCable { s.cable with
            switches := { s.cable.switches with surface := true }
            surfacePoint := some s.cable.reelCount, motion := .seekingBottom .hold, drive := none, stall := none
            hold := some (s.now + 1000) }))
      ∧ (s.cable.switches.bottom = false → exec (.bottomContactChange true) s
        = .next (s.setCable { s.cable with
            switches := { s.cable.switches with bottom := true }
            surfacePoint := some s.cable.reelCount, motion := .seekingBottom .hold, drive := none, stall := none
            hold := some (s.now + 1000) })))
    ∧ (∀ s : State, s.cable.motion = .seekingSurface .surface → s.cable.drive = some .reelDown →
      s.run.state ≠ .active →
      (s.cable.switches.surface = false → ∃ t, exec .surfaceContactClose s = .next t
        ∧ t = s.setCable { s.cable with
            switches := { s.cable.switches with surface := true }
            surfacePoint := some s.cable.reelCount, drive := none, stall := none })
      ∧ (s.cable.switches.bottom = false → ∃ t, exec (.bottomContactChange true) s = .next t
        ∧ t = s.setCable { s.cable with
            switches := { s.cable.switches with bottom := true }
            surfacePoint := some s.cable.reelCount, drive := none, stall := none }))
    ∧ (∀ s : State, s.cable.switches.bottom = false →
      (s.cable.motion = .seekingBottom .seek → s.cable.drive = some .reelDown →
        ∃ t, exec (.bottomContactChange true) s = .next t
          ∧ t = s.setCable { s.cable with
              switches := { s.cable.switches with bottom := true }
              motion := .seekingBottom .hold, drive := none, stall := none, hold := some (s.now + 1000) })
      ∧ (∀ target, s.cable.motion = .toPoint target → s.cable.drive = some .reelDown →
        ∃ t, exec (.bottomContactChange true) s = .next t
          ∧ t = s.setCable { s.cable with
              switches := { s.cable.switches with bottom := true }
              motion := .atPoint, drive := none, stall := none
              settle := some (s.now + s.cable.settings.settleTime * 1000)
              pointDepth := depthMm s.cable, bedStop := true })
      ∧ (s.cable.drive = none → exec (.bottomContactChange true) s
        = .next (s.setCable { s.cable with switches := { s.cable.switches with bottom := true } })))
    ∧ (∀ (s : State) (e n : Nat) (d p : Int), s.cable.switches.bottom = true →
      s.cable.motion = .seekingBottom .hold → s.cable.hold = some e → s.cable.drive = none →
      s.cable.sounding = some { failed := n, depth := none } → s.cable.surfacePoint = some p →
      s.cable.reelCount - p = d → 0 < d →
      (n < 2 → ∃ t, exec (.bottomContactChange false) s = .next t
        ∧ t = s.setCable { s.cable with
            switches := { s.cable.switches with bottom := false }
            hold := none, sounding := some { failed := n + 1, depth := none }
            motion := .seekingBottom (.bounce d), drive := some .reelUp
            stall := some (s.now + s.cable.settings.stallTime * 1000) })
      ∧ (n = 2 → s.run.state = .active → s.run.phase = some .sound → s.cable.switches.reelTop = false →
        ∃ t, exec (.bottomContactChange false) s = .next t
          ∧ t.run.vertical.failed = some 3 ∧ t.run.vertical.marked = some .noBottom ∧ t.run.phase = some .raise
          ∧ t.cable.motion = .raising ∧ t.cable.drive = some .reelUp ∧ t.cable.hold = none)))
  ∧ (∀ (s : State) (e : PlanEntry) (d offset : Nat), s.cable.motion = .seekingSurface .surface →
      s.cable.drive = some .reelDown → s.cable.switches.surface = false → s.cable.switches.bottom = false →
      s.cable.switches.reelTop = false → s.run.state = .active → s.run.phase = some .sound → e = entryInHand s →
      d = e.depth.getD 0 → offset = s.cable.settings.weightOffset → 1 ≤ offset →
      (e.method ≠ .surface → d ≤ offset → ∃ t, exec .surfaceContactClose s = .next t
        ∧ ((s.setGauging t.gauging).setCable t.cable).Keeps t ∧ t.run.state = .active ∧ t.run.phase = some .raise
        ∧ t.run.vertical = { s.run.vertical with
            depth := some d, depthSource := some .override, marked := some .shallow }
        ∧ t.cable.motion = .raising ∧ t.cable.drive = some .reelUp)
      ∧ (∀ (f : Fraction) (rest : List Fraction) (x : Nat) (held : Bool), e.method = .surface ∨ offset < d →
        (e.method = .onePoint ∧ f = .six ∧ rest = []) ∨ (e.method = .twoPoint ∧ f = .eight ∧ rest = [.two])
          ∨ (e.method = .threePoint ∧ f = .eight ∧ rest = [.six, .two])
          ∨ (e.method = .surface ∧ f = .surface ∧ rest = []) → (x, held) = meterDepth f d offset →
        (∃ t, exec .surfaceContactClose s = .next t ∧ ((s.setGauging t.gauging).setCable t.cable).Keeps t
          ∧ t.run.state = .active ∧ t.run.phase = some .place
          ∧ t.run.vertical = { s.run.vertical with
              depth := some d, depthSource := some .override, remaining := rest
              point := some { fraction := f, meterDepth := x, clamped := held, bedStop := false } }
          ∧ t.cable = { s.cable with
              switches := { s.cable.switches with surface := true }, surfacePoint := some s.cable.reelCount
              motion := .toPoint (x + offset : Nat), drive := some .reelDown
              stall := some (s.now + s.cable.settings.stallTime * 1000), hold := none, settle := none })
        ∧ (∃ t, exec (.bottomContactChange true) s = .next t ∧ ((s.setGauging t.gauging).setCable t.cable).Keeps t
          ∧ t.run.state = .active ∧ t.run.phase = some .place
          ∧ t.cable = { s.cable with
              switches := { s.cable.switches with bottom := true }, surfacePoint := some s.cable.reelCount
              motion := .atPoint, drive := none, stall := none, hold := none, pointDepth := some 0, bedStop := true
              settle := some (s.now + s.cable.settings.settleTime * 1000) })))

/-- R119 to R121, R136, R138, R140, R145, R146: a stall of the driven axis and an overload are faults, as `State.Faults` has
them: every output removed, every timer cancelled, FAULTED with the fault record of that moment, the counts as they stand,
and MOTION_FAULT with its content (its vertical is log 42). An ACTIVE run is aborted MOTION_FAULT with its return FAULTED,
its vertical past TRAVEL stored SKIPPED with RUN_PROGRESS; a RETURNING one is COMPLETE, and the return of an ABORTED one
ends, FAULTED; each of the three raises RUN_END, its outcome numbered as log 59 says. UNREFERENCED and FAULTED take no
overload. -/
def Obligations.MotionFaults : Prop :=
  ∀ (s : State) (c : Instr) (cause : FaultCause) (switches : Switches),
    (c = .winchOverload ∧ cause = .overload ∧ s.cable.switches.overload = false ∧ s.cable.motion ≠ .unreferenced
        ∧ s.cable.motion ≠ .faulted ∧ switches = { s.cable.switches with overload := true })
      ∨ (c = .stallExpiry ∧ cause = .stall ∧ (∃ e, s.cable.stall = some e ∧ e ≤ s.now) ∧ s.cable.drive ≠ none
        ∧ switches = s.cable.switches) →
    ∃ t, exec c s = .next t ∧ (s.setCable { s.cable with switches := switches }).Faults t cause

/-- R115, R117, R130, R131: the hold timer gives the depth, and with a run in SOUND the first point of the vertical's
method is placed; the settle time over, the exposure begins, and a point stopped on the bed has the reel depth less the
weight offset, not below 0, as its meter depth and is CLAMPED. Before their expiries nothing. That a command whose event
does not hold changes nothing is read from the spec by inference (log 12). -/
def Obligations.HoldAndSettle : Prop :=
  (∀ (s : State) (e n : Nat) (p : Int), s.cable.hold = some e → s.cable.surfacePoint = some p →
    s.cable.sounding = some { failed := n, depth := none } →
    (e ≤ s.now → s.run.state ≠ .active → ∃ t, exec .holdTimerExpiry s = .next t
      ∧ t = s.setCable { s.cable with
          hold := none
          sounding := some { failed := n, depth := some (millimetres (s.cable.reelCount - p)).toNat } })
    ∧ (e ≤ s.now → s.run.state = .active → s.run.phase = some .sound → (entryInHand s).method ≠ .surface →
      (millimetres (s.cable.reelCount - p)).toNat ≤ s.cable.settings.weightOffset →
      s.cable.motion = .seekingBottom .hold → s.cable.switches.reelTop = false →
      ∃ t, exec .holdTimerExpiry s = .next t ∧ t.run.state = .active ∧ t.run.vertical.marked = some .shallow
        ∧ t.run.vertical.depth = some (millimetres (s.cable.reelCount - p)).toNat
        ∧ t.run.vertical.depthSource = some .sounded ∧ t.run.vertical.failed = some n
        ∧ t.run.phase = some .raise ∧ t.cable.motion = .raising ∧ t.cable.drive = some .reelUp)
    ∧ (∀ (d offset x : Nat) (f : Fraction) (rest : List Fraction) (held : Bool), e ≤ s.now → s.run.state = .active →
      s.run.phase = some .sound → d = (millimetres (s.cable.reelCount - p)).toNat →
      offset = s.cable.settings.weightOffset → (entryInHand s).method = .surface ∨ offset < d →
      ((entryInHand s).method = .onePoint ∧ f = .six ∧ rest = [])
        ∨ ((entryInHand s).method = .twoPoint ∧ f = .eight ∧ rest = [.two])
        ∨ ((entryInHand s).method = .threePoint ∧ f = .eight ∧ rest = [.six, .two])
        ∨ ((entryInHand s).method = .surface ∧ f = .surface ∧ rest = []) → (x, held) = meterDepth f d offset →
      s.cable.motion = .seekingBottom .hold → s.cable.switches.bottom = true →
      ∃ t, exec .holdTimerExpiry s = .next t ∧ ((s.setGauging t.gauging).setCable t.cable).Keeps t
        ∧ t.run.state = .active ∧ t.run.phase = some .place
        ∧ t.run.vertical = { s.run.vertical with
            depth := some d, depthSource := some .sounded, failed := some n, remaining := rest
            point := some { fraction := f, meterDepth := x, clamped := held, bedStop := false } }
        ∧ (t.cable.motion = .toPoint (x + offset : Nat) ∨ t.cable.motion = .atPoint))
    ∧ (s.now < e → exec .holdTimerExpiry s = .next s))
  ∧ (∀ (s : State) (e : Nat), s.cable.motion = .atPoint → s.cable.settle = some e →
    (e ≤ s.now → s.run.state = .active → s.run.phase = some .place → ∃ t, exec .settleExpiry s = .next t
      ∧ (((s.setGauging t.gauging).setCable { s.cable with settle := none }).setTime t.time).Keeps t
      ∧ t.run.phase = some .expose
      ∧ t.run.exposure = some
          { state := .waitingFirst
            length := ((entryInHand s).exposure.getD s.gauging.plan.defaultExposure) * 1000
            start := none, contacts := 0, lastCounted := none, expiry := some (s.now + 30000) }
      ∧ t.time = { s.time with exposureSpan := some (s.time.source == .rc) }
      ∧ t.run.verticals = s.run.verticals
      ∧ (s.cable.bedStop = false → t.run.vertical = s.run.vertical)
      ∧ (∀ (p : PointInHand) (depth : Int), s.cable.bedStop = true → s.run.vertical.point = some p →
          s.cable.pointDepth = some depth → t.run.vertical = { s.run.vertical with
            point := some { p with
              meterDepth := (depth - s.cable.settings.weightOffset).toNat, clamped := true, bedStop := true } }))
    ∧ (s.now < e → exec .settleExpiry s = .next s))

/-- R132, R133: the exposure: the first contact starts the count, a contact within 15 ms is chatter, a further one counts;
at t₀ + E it is ENDING with the late limit, and a contact then or later ends it with its time. R133: an exposure that
ends without its last contact: the late limit gives SHORT, with STALLED and no time when it counted none, and the
start wait gives STALLED; either way the weight goes on after the last point. R117, R131 to R133: an exposure that
ends, by its last contact, the late limit or the start wait, with points of its vertical still to come: its point
record is made, its span closes, and the next point is placed: the weight lifted, lowered, or at its depth already;
lowered from below the maximum depth it is a DEPTH_LIMIT fault (R119). That a command whose event does not hold
changes nothing is read from the spec by inference (log 12). -/
def Obligations.ExposureCourse : Prop :=
  ((∀ (s : State) (e : Exposure), s.run.exposure = some e →
      (e.state = .waitingFirst → e.start = none → e.lastCounted = none → exec .meterContact s
        = .next (s.setRun
            { s.run with
              exposure := some { e with state := .counting, start := some s.now, contacts := 0, expiry := none } }))
      ∧ (∀ t0 last, e.start = some t0 → last = e.lastCounted.getD t0 → s.now < last + 15 →
        exec .meterContact s = .next s)
      ∧ (∀ t0 last, e.state = .counting → e.start = some t0 → last = e.lastCounted.getD t0 → last + 15 ≤ s.now →
        s.now < t0 + e.length → exec .meterContact s
          = .next (s.setRun
              { s.run with exposure := some { e with contacts := e.contacts + 1, lastCounted := some s.now } }))
      ∧ (∀ t0 last, e.start = some t0 → e.state = .ending ∨ (e.state = .counting ∧ t0 + e.length ≤ s.now) → last = e.lastCounted.getD t0 → last + 15 ≤ s.now →
        s.run.vertical.remaining = [] → s.cable.motion = .atPoint → s.cable.switches.reelTop = false →
        ∃ (t : State) (p : PointRecord), exec .meterContact s = .next t
          ∧ t.run.vertical.points = s.run.vertical.points ++ [p] ∧ p.contacts = e.contacts + 1
          ∧ p.time = some (s.now - t0) ∧ p.flags.short = false ∧ p.flags.stalled = false
          ∧ p.flags.timingRC = (s.time.exposureSpan.getD false) ∧ p.velocity ≤ 9999
          ∧ t.run.exposure = none ∧ t.time = { s.time with exposureSpan := none }
          ∧ t.run.phase = some .raise ∧ t.cable.motion = .raising ∧ t.cable.drive = some .reelUp)
      ∧ (∀ t0, e.state = .counting → e.start = some t0 → t0 + e.length ≤ s.now → exec .exposureEnding s
        = .next (s.setRun
            { s.run with exposure := some { e with state := .ending, expiry := some (t0 + e.length + 30000) } }))
      ∧ (∀ t0, e.start = some t0 → s.now < t0 + e.length → exec .exposureEnding s = .next s))
    ∧ (∀ s : State, s.run.exposure = none → exec .meterContact s = .next s ∧ exec .exposureEnding s = .next s
        ∧ exec .lateLimitExpiry s = .next s ∧ exec .startWaitExpiry s = .next s))
  ∧ (∀ (s : State) (e : Exposure) (x : Nat), s.run.exposure = some e → e.expiry = some x →
      s.run.vertical.remaining = [] → s.cable.motion = .atPoint → s.cable.switches.reelTop = false →
      (∀ t0 last, x ≤ s.now → e.state = .ending → e.start = some t0 → e.lastCounted = some last → 0 < e.contacts →
        ∃ (t : State) (p : PointRecord), exec .lateLimitExpiry s = .next t
          ∧ t.run.vertical.points = s.run.vertical.points ++ [p] ∧ p.contacts = e.contacts
          ∧ p.time = some (last - t0) ∧ p.flags.short = true ∧ p.flags.stalled = false
          ∧ t.run.exposure = none ∧ t.run.phase = some .raise ∧ t.cable.drive = some .reelUp)
      ∧ (x ≤ s.now → e.state = .ending → e.contacts = 0 → ∃ (t : State) (p : PointRecord),
        exec .lateLimitExpiry s = .next t ∧ t.run.vertical.points = s.run.vertical.points ++ [p] ∧ p.contacts = 0
          ∧ p.time = none ∧ p.rate = none ∧ p.velocity = 0 ∧ p.flags.short = true ∧ p.flags.stalled = true
          ∧ t.run.exposure = none ∧ t.run.phase = some .raise ∧ t.cable.drive = some .reelUp)
      ∧ (x ≤ s.now → e.state = .waitingFirst → ∃ (t : State) (p : PointRecord),
        exec .startWaitExpiry s = .next t ∧ t.run.vertical.points = s.run.vertical.points ++ [p] ∧ p.contacts = 0
          ∧ p.time = none ∧ p.rate = none ∧ p.velocity = 0 ∧ p.flags.short = false ∧ p.flags.stalled = true
          ∧ t.run.exposure = none ∧ t.run.phase = some .raise ∧ t.cable.drive = some .reelUp)
      ∧ (s.now < x → exec .lateLimitExpiry s = .next s ∧ exec .startWaitExpiry s = .next s))
  ∧ (∀ (s : State) (e : Exposure) (c : Instr) (n : Nat) (time : Option Nat) (short stalled : Bool) (f : Fraction)
      (rest : List Fraction) (x : Nat) (held : Bool) (p target : Int) (point : PointInHand) (deep : Prop),
      s.run.exposure = some e →
      s.cable.motion = .atPoint → s.cable.drive = none → s.cable.stall = none → s.cable.switches.reelTop = false →
      s.cable.surfacePoint = some p → s.run.vertical.remaining = f :: rest → s.run.vertical.point = some point →
      (x, held) = meterDepth f (s.run.vertical.depth.getD 0) s.cable.settings.weightOffset →
      target = (x + s.cable.settings.weightOffset : Nat) →
      (deep ↔ s.cable.reelCount - p < target * 1000 ∧ s.cable.switches.bottom = false
        ∧ ∃ limit, s.cable.settings.maxDepth = some limit ∧ (limit : Int) * 1000 < s.cable.reelCount - p) →
      (c = .meterContact ∧ n = e.contacts + 1 ∧ short = false ∧ stalled = false ∧ ∃ t0, e.start = some t0
          ∧ e.lastCounted.getD t0 + 15 ≤ s.now ∧ time = some (s.now - t0)
          ∧ (e.state = .ending ∨ (e.state = .counting ∧ t0 + e.length ≤ s.now)))
        ∨ (c = .lateLimitExpiry ∧ n = e.contacts ∧ short = true ∧ e.state = .ending
          ∧ (∃ k, e.expiry = some k ∧ k ≤ s.now)
          ∧ ((n = 0 ∧ stalled = true ∧ time = none) ∨ (0 < n ∧ stalled = false ∧ ∃ t0 last, e.start = some t0
              ∧ e.lastCounted = some last ∧ time = some (last - t0))))
        ∨ (c = .startWaitExpiry ∧ n = 0 ∧ short = false ∧ stalled = true ∧ time = none ∧ e.state = .waitingFirst
          ∧ ∃ k, e.expiry = some k ∧ k ≤ s.now) →
      (deep → ∃ t, exec c s = .next t ∧ t.cable.motion = .faulted ∧ t.cable.drive = none ∧ t.run.exposure = none
        ∧ t.cable.fault.map (·.cause) = some .depthLimit ∧ t.time = { s.time with exposureSpan := none }
        ∧ (s.run.state = .active → t.run.state = .aborted ∧ t.run.reason = some .motionFault))
      ∧ (¬ deep → ∃ (t : State) (r : PointRecord), exec c s = .next t
        ∧ (((s.setGauging t.gauging).setCable t.cable).setTime t.time).Keeps t
        ∧ r.contacts = n ∧ r.time = time ∧ r.flags.short = short ∧ r.flags.stalled = stalled
        ∧ r.fraction = point.fraction ∧ r.meterDepth = point.meterDepth
        ∧ r.flags.timingRC = (s.time.exposureSpan.getD false)
        ∧ t.time = { s.time with exposureSpan := none } ∧ t.gauging.plan = s.gauging.plan
        ∧ t.run = { s.run with
            exposure := none, phase := some .place
            vertical := { s.run.vertical with
              points := s.run.vertical.points ++ [r], remaining := rest
              point := some { fraction := f, meterDepth := x, clamped := held, bedStop := false } } }
        ∧ (target * 1000 < s.cable.reelCount - p → t.cable = { s.cable with
            motion := .toPoint target, drive := some .reelUp, hold := none, settle := none
            stall := some (s.now + s.cable.settings.stallTime * 1000) })
        ∧ (s.cable.reelCount - p = target * 1000
            ∨ (s.cable.reelCount - p < target * 1000 ∧ s.cable.switches.bottom = true) → t.cable = { s.cable with
            motion := .atPoint, drive := none, hold := none, stall := none
            settle := some (s.now + s.cable.settings.settleTime * 1000)
            pointDepth := some (millimetres (s.cable.reelCount - p))
            bedStop := decide (s.cable.reelCount - p < target * 1000) })
        ∧ (s.cable.reelCount - p < target * 1000 → s.cable.switches.bottom = false → t.cable = { s.cable with
            motion := .toPoint target, drive := some .reelDown, hold := none, settle := none
            stall := some (s.now + s.cable.settings.stallTime * 1000) })))

/-- R93: the beacons follow the level: a state in which BEACON_A is lit exactly at level 1 or more, and BEACON_B at 2 or
more, is followed by such a state, whatever the step; and every reset leaves such a state, whatever stood before. -/
def Obligations.BeaconsAlwaysFollowTheLevel : Prop :=
  (∀ s t : State, s.BeaconsHeld → step s = .next t → t.BeaconsHeld)
  ∧ (∀ (s t : State) (c : Instr), c = .powerOn ∨ c = .brownout ∨ c = .resetIn
      ∨ (c = .restartRequest ∧ s.link.restart = .due) → exec c s = .next t → t.BeaconsHeld)

/-- R89: the level stays the greatest of the floor and of the levels of the rules in ACTIVE or CLEARING, at every step. -/
def Obligations.LevelAlwaysHeld : Prop :=
  ∀ s t : State, s.LevelHeld → step s = .next t → t.LevelHeld

/-- R71: the ring stays a run of at most 256 consecutive records with strictly increasing stamps, at every step. -/
def Obligations.RingAlwaysHeld : Prop :=
  ∀ s t : State, s.RingHeld → step s = .next t → t.RingHeld

/-- R109: a traverse output is driven only in HOMING, TRAVELLING and RETRACTING and only with REEL_TOP closed, at every
step. -/
def Obligations.DriveAlwaysHeld : Prop :=
  ∀ s t : State, s.DriveHeld → step s = .next t → t.DriveHeld
end

