-- ==== Sys2Proof/Laws/State.lean ====
section
/-! SUPPORT. One lemma per component and update: an update sets its component and leaves every other as it was. -/

namespace Sys2Proof.Machine

/-! ## State.setTime -/

@[simp] theorem State.setTime_time (s : State) (x : TimeBase) : (s.setTime x).time = x := rfl
@[simp] theorem State.setTime_field (s : State) (x : TimeBase) : (s.setTime x).field = s.field := rfl
@[simp] theorem State.setTime_channels (s : State) (x : TimeBase) : (s.setTime x).channels = s.channels := rfl
@[simp] theorem State.setTime_stage (s : State) (x : TimeBase) : (s.setTime x).stage = s.stage := rfl
@[simp] theorem State.setTime_warning (s : State) (x : TimeBase) : (s.setTime x).warning = s.warning := rfl
@[simp] theorem State.setTime_cable (s : State) (x : TimeBase) : (s.setTime x).cable = s.cable := rfl
@[simp] theorem State.setTime_gauging (s : State) (x : TimeBase) : (s.setTime x).gauging = s.gauging := rfl
@[simp] theorem State.setTime_notices (s : State) (x : TimeBase) : (s.setTime x).notices = s.notices := rfl
@[simp] theorem State.setTime_link (s : State) (x : TimeBase) : (s.setTime x).link = s.link := rfl
@[simp] theorem State.setTime_supervisor (s : State) (x : TimeBase) : (s.setTime x).supervisor = s.supervisor := rfl
@[simp] theorem State.setTime_freeCount (s : State) (x : TimeBase) : (s.setTime x).freeCount = s.freeCount := rfl
@[simp] theorem State.setTime_pending (s : State) (x : TimeBase) : (s.setTime x).pending = s.pending := rfl

/-! ## State.setField -/

@[simp] theorem State.setField_time (s : State) (x : FieldLine) : (s.setField x).time = s.time := rfl
@[simp] theorem State.setField_field (s : State) (x : FieldLine) : (s.setField x).field = x := rfl
@[simp] theorem State.setField_channels (s : State) (x : FieldLine) : (s.setField x).channels = s.channels := rfl
@[simp] theorem State.setField_stage (s : State) (x : FieldLine) : (s.setField x).stage = s.stage := rfl
@[simp] theorem State.setField_warning (s : State) (x : FieldLine) : (s.setField x).warning = s.warning := rfl
@[simp] theorem State.setField_cable (s : State) (x : FieldLine) : (s.setField x).cable = s.cable := rfl
@[simp] theorem State.setField_gauging (s : State) (x : FieldLine) : (s.setField x).gauging = s.gauging := rfl
@[simp] theorem State.setField_notices (s : State) (x : FieldLine) : (s.setField x).notices = s.notices := rfl
@[simp] theorem State.setField_link (s : State) (x : FieldLine) : (s.setField x).link = s.link := rfl
@[simp] theorem State.setField_supervisor (s : State) (x : FieldLine) : (s.setField x).supervisor = s.supervisor := rfl
@[simp] theorem State.setField_freeCount (s : State) (x : FieldLine) : (s.setField x).freeCount = s.freeCount := rfl
@[simp] theorem State.setField_pending (s : State) (x : FieldLine) : (s.setField x).pending = s.pending := rfl

/-! ## State.setChannels -/

@[simp] theorem State.setChannels_time (s : State) (x : Vector Channel 4) : (s.setChannels x).time = s.time := rfl
@[simp] theorem State.setChannels_field (s : State) (x : Vector Channel 4) : (s.setChannels x).field = s.field := rfl
@[simp] theorem State.setChannels_channels (s : State) (x : Vector Channel 4) : (s.setChannels x).channels = x := rfl
@[simp] theorem State.setChannels_stage (s : State) (x : Vector Channel 4) : (s.setChannels x).stage = s.stage := rfl
@[simp] theorem State.setChannels_warning (s : State) (x : Vector Channel 4) : (s.setChannels x).warning = s.warning := rfl
@[simp] theorem State.setChannels_cable (s : State) (x : Vector Channel 4) : (s.setChannels x).cable = s.cable := rfl
@[simp] theorem State.setChannels_gauging (s : State) (x : Vector Channel 4) : (s.setChannels x).gauging = s.gauging := rfl
@[simp] theorem State.setChannels_notices (s : State) (x : Vector Channel 4) : (s.setChannels x).notices = s.notices := rfl
@[simp] theorem State.setChannels_link (s : State) (x : Vector Channel 4) : (s.setChannels x).link = s.link := rfl
@[simp] theorem State.setChannels_supervisor (s : State) (x : Vector Channel 4) : (s.setChannels x).supervisor = s.supervisor := rfl
@[simp] theorem State.setChannels_freeCount (s : State) (x : Vector Channel 4) : (s.setChannels x).freeCount = s.freeCount := rfl
@[simp] theorem State.setChannels_pending (s : State) (x : Vector Channel 4) : (s.setChannels x).pending = s.pending := rfl

/-! ## State.setStage -/

@[simp] theorem State.setStage_time (s : State) (x : StageUnit) : (s.setStage x).time = s.time := rfl
@[simp] theorem State.setStage_field (s : State) (x : StageUnit) : (s.setStage x).field = s.field := rfl
@[simp] theorem State.setStage_channels (s : State) (x : StageUnit) : (s.setStage x).channels = s.channels := rfl
@[simp] theorem State.setStage_stage (s : State) (x : StageUnit) : (s.setStage x).stage = x := rfl
@[simp] theorem State.setStage_warning (s : State) (x : StageUnit) : (s.setStage x).warning = s.warning := rfl
@[simp] theorem State.setStage_cable (s : State) (x : StageUnit) : (s.setStage x).cable = s.cable := rfl
@[simp] theorem State.setStage_gauging (s : State) (x : StageUnit) : (s.setStage x).gauging = s.gauging := rfl
@[simp] theorem State.setStage_notices (s : State) (x : StageUnit) : (s.setStage x).notices = s.notices := rfl
@[simp] theorem State.setStage_link (s : State) (x : StageUnit) : (s.setStage x).link = s.link := rfl
@[simp] theorem State.setStage_supervisor (s : State) (x : StageUnit) : (s.setStage x).supervisor = s.supervisor := rfl
@[simp] theorem State.setStage_freeCount (s : State) (x : StageUnit) : (s.setStage x).freeCount = s.freeCount := rfl
@[simp] theorem State.setStage_pending (s : State) (x : StageUnit) : (s.setStage x).pending = s.pending := rfl

/-! ## State.setWarning -/

@[simp] theorem State.setWarning_time (s : State) (x : WarningUnit) : (s.setWarning x).time = s.time := rfl
@[simp] theorem State.setWarning_field (s : State) (x : WarningUnit) : (s.setWarning x).field = s.field := rfl
@[simp] theorem State.setWarning_channels (s : State) (x : WarningUnit) : (s.setWarning x).channels = s.channels := rfl
@[simp] theorem State.setWarning_stage (s : State) (x : WarningUnit) : (s.setWarning x).stage = s.stage := rfl
@[simp] theorem State.setWarning_warning (s : State) (x : WarningUnit) : (s.setWarning x).warning = x := rfl
@[simp] theorem State.setWarning_cable (s : State) (x : WarningUnit) : (s.setWarning x).cable = s.cable := rfl
@[simp] theorem State.setWarning_gauging (s : State) (x : WarningUnit) : (s.setWarning x).gauging = s.gauging := rfl
@[simp] theorem State.setWarning_notices (s : State) (x : WarningUnit) : (s.setWarning x).notices = s.notices := rfl
@[simp] theorem State.setWarning_link (s : State) (x : WarningUnit) : (s.setWarning x).link = s.link := rfl
@[simp] theorem State.setWarning_supervisor (s : State) (x : WarningUnit) : (s.setWarning x).supervisor = s.supervisor := rfl
@[simp] theorem State.setWarning_freeCount (s : State) (x : WarningUnit) : (s.setWarning x).freeCount = s.freeCount := rfl
@[simp] theorem State.setWarning_pending (s : State) (x : WarningUnit) : (s.setWarning x).pending = s.pending := rfl

/-! ## State.setCable -/

@[simp] theorem State.setCable_time (s : State) (x : Cableway) : (s.setCable x).time = s.time := rfl
@[simp] theorem State.setCable_field (s : State) (x : Cableway) : (s.setCable x).field = s.field := rfl
@[simp] theorem State.setCable_channels (s : State) (x : Cableway) : (s.setCable x).channels = s.channels := rfl
@[simp] theorem State.setCable_stage (s : State) (x : Cableway) : (s.setCable x).stage = s.stage := rfl
@[simp] theorem State.setCable_warning (s : State) (x : Cableway) : (s.setCable x).warning = s.warning := rfl
@[simp] theorem State.setCable_cable (s : State) (x : Cableway) : (s.setCable x).cable = x := rfl
@[simp] theorem State.setCable_gauging (s : State) (x : Cableway) : (s.setCable x).gauging = s.gauging := rfl
@[simp] theorem State.setCable_notices (s : State) (x : Cableway) : (s.setCable x).notices = s.notices := rfl
@[simp] theorem State.setCable_link (s : State) (x : Cableway) : (s.setCable x).link = s.link := rfl
@[simp] theorem State.setCable_supervisor (s : State) (x : Cableway) : (s.setCable x).supervisor = s.supervisor := rfl
@[simp] theorem State.setCable_freeCount (s : State) (x : Cableway) : (s.setCable x).freeCount = s.freeCount := rfl
@[simp] theorem State.setCable_pending (s : State) (x : Cableway) : (s.setCable x).pending = s.pending := rfl

/-! ## State.setGauging -/

@[simp] theorem State.setGauging_time (s : State) (x : Gauging) : (s.setGauging x).time = s.time := rfl
@[simp] theorem State.setGauging_field (s : State) (x : Gauging) : (s.setGauging x).field = s.field := rfl
@[simp] theorem State.setGauging_channels (s : State) (x : Gauging) : (s.setGauging x).channels = s.channels := rfl
@[simp] theorem State.setGauging_stage (s : State) (x : Gauging) : (s.setGauging x).stage = s.stage := rfl
@[simp] theorem State.setGauging_warning (s : State) (x : Gauging) : (s.setGauging x).warning = s.warning := rfl
@[simp] theorem State.setGauging_cable (s : State) (x : Gauging) : (s.setGauging x).cable = s.cable := rfl
@[simp] theorem State.setGauging_gauging (s : State) (x : Gauging) : (s.setGauging x).gauging = x := rfl
@[simp] theorem State.setGauging_notices (s : State) (x : Gauging) : (s.setGauging x).notices = s.notices := rfl
@[simp] theorem State.setGauging_link (s : State) (x : Gauging) : (s.setGauging x).link = s.link := rfl
@[simp] theorem State.setGauging_supervisor (s : State) (x : Gauging) : (s.setGauging x).supervisor = s.supervisor := rfl
@[simp] theorem State.setGauging_freeCount (s : State) (x : Gauging) : (s.setGauging x).freeCount = s.freeCount := rfl
@[simp] theorem State.setGauging_pending (s : State) (x : Gauging) : (s.setGauging x).pending = s.pending := rfl

/-! ## State.setNotices -/

@[simp] theorem State.setNotices_time (s : State) (x : Dispatcher) : (s.setNotices x).time = s.time := rfl
@[simp] theorem State.setNotices_field (s : State) (x : Dispatcher) : (s.setNotices x).field = s.field := rfl
@[simp] theorem State.setNotices_channels (s : State) (x : Dispatcher) : (s.setNotices x).channels = s.channels := rfl
@[simp] theorem State.setNotices_stage (s : State) (x : Dispatcher) : (s.setNotices x).stage = s.stage := rfl
@[simp] theorem State.setNotices_warning (s : State) (x : Dispatcher) : (s.setNotices x).warning = s.warning := rfl
@[simp] theorem State.setNotices_cable (s : State) (x : Dispatcher) : (s.setNotices x).cable = s.cable := rfl
@[simp] theorem State.setNotices_gauging (s : State) (x : Dispatcher) : (s.setNotices x).gauging = s.gauging := rfl
@[simp] theorem State.setNotices_notices (s : State) (x : Dispatcher) : (s.setNotices x).notices = x := rfl
@[simp] theorem State.setNotices_link (s : State) (x : Dispatcher) : (s.setNotices x).link = s.link := rfl
@[simp] theorem State.setNotices_supervisor (s : State) (x : Dispatcher) : (s.setNotices x).supervisor = s.supervisor := rfl
@[simp] theorem State.setNotices_freeCount (s : State) (x : Dispatcher) : (s.setNotices x).freeCount = s.freeCount := rfl
@[simp] theorem State.setNotices_pending (s : State) (x : Dispatcher) : (s.setNotices x).pending = s.pending := rfl

/-! ## State.setLink -/

@[simp] theorem State.setLink_time (s : State) (x : HostLink) : (s.setLink x).time = s.time := rfl
@[simp] theorem State.setLink_field (s : State) (x : HostLink) : (s.setLink x).field = s.field := rfl
@[simp] theorem State.setLink_channels (s : State) (x : HostLink) : (s.setLink x).channels = s.channels := rfl
@[simp] theorem State.setLink_stage (s : State) (x : HostLink) : (s.setLink x).stage = s.stage := rfl
@[simp] theorem State.setLink_warning (s : State) (x : HostLink) : (s.setLink x).warning = s.warning := rfl
@[simp] theorem State.setLink_cable (s : State) (x : HostLink) : (s.setLink x).cable = s.cable := rfl
@[simp] theorem State.setLink_gauging (s : State) (x : HostLink) : (s.setLink x).gauging = s.gauging := rfl
@[simp] theorem State.setLink_notices (s : State) (x : HostLink) : (s.setLink x).notices = s.notices := rfl
@[simp] theorem State.setLink_link (s : State) (x : HostLink) : (s.setLink x).link = x := rfl
@[simp] theorem State.setLink_supervisor (s : State) (x : HostLink) : (s.setLink x).supervisor = s.supervisor := rfl
@[simp] theorem State.setLink_freeCount (s : State) (x : HostLink) : (s.setLink x).freeCount = s.freeCount := rfl
@[simp] theorem State.setLink_pending (s : State) (x : HostLink) : (s.setLink x).pending = s.pending := rfl

/-! ## State.setSupervisor -/

@[simp] theorem State.setSupervisor_time (s : State) (x : Supervisor) : (s.setSupervisor x).time = s.time := rfl
@[simp] theorem State.setSupervisor_field (s : State) (x : Supervisor) : (s.setSupervisor x).field = s.field := rfl
@[simp] theorem State.setSupervisor_channels (s : State) (x : Supervisor) : (s.setSupervisor x).channels = s.channels := rfl
@[simp] theorem State.setSupervisor_stage (s : State) (x : Supervisor) : (s.setSupervisor x).stage = s.stage := rfl
@[simp] theorem State.setSupervisor_warning (s : State) (x : Supervisor) : (s.setSupervisor x).warning = s.warning := rfl
@[simp] theorem State.setSupervisor_cable (s : State) (x : Supervisor) : (s.setSupervisor x).cable = s.cable := rfl
@[simp] theorem State.setSupervisor_gauging (s : State) (x : Supervisor) : (s.setSupervisor x).gauging = s.gauging := rfl
@[simp] theorem State.setSupervisor_notices (s : State) (x : Supervisor) : (s.setSupervisor x).notices = s.notices := rfl
@[simp] theorem State.setSupervisor_link (s : State) (x : Supervisor) : (s.setSupervisor x).link = s.link := rfl
@[simp] theorem State.setSupervisor_supervisor (s : State) (x : Supervisor) : (s.setSupervisor x).supervisor = x := rfl
@[simp] theorem State.setSupervisor_freeCount (s : State) (x : Supervisor) : (s.setSupervisor x).freeCount = s.freeCount := rfl
@[simp] theorem State.setSupervisor_pending (s : State) (x : Supervisor) : (s.setSupervisor x).pending = s.pending := rfl

/-! ## State.setFreeCount -/

@[simp] theorem State.setFreeCount_time (s : State) (x : Nat) : (s.setFreeCount x).time = s.time := rfl
@[simp] theorem State.setFreeCount_field (s : State) (x : Nat) : (s.setFreeCount x).field = s.field := rfl
@[simp] theorem State.setFreeCount_channels (s : State) (x : Nat) : (s.setFreeCount x).channels = s.channels := rfl
@[simp] theorem State.setFreeCount_stage (s : State) (x : Nat) : (s.setFreeCount x).stage = s.stage := rfl
@[simp] theorem State.setFreeCount_warning (s : State) (x : Nat) : (s.setFreeCount x).warning = s.warning := rfl
@[simp] theorem State.setFreeCount_cable (s : State) (x : Nat) : (s.setFreeCount x).cable = s.cable := rfl
@[simp] theorem State.setFreeCount_gauging (s : State) (x : Nat) : (s.setFreeCount x).gauging = s.gauging := rfl
@[simp] theorem State.setFreeCount_notices (s : State) (x : Nat) : (s.setFreeCount x).notices = s.notices := rfl
@[simp] theorem State.setFreeCount_link (s : State) (x : Nat) : (s.setFreeCount x).link = s.link := rfl
@[simp] theorem State.setFreeCount_supervisor (s : State) (x : Nat) : (s.setFreeCount x).supervisor = s.supervisor := rfl
@[simp] theorem State.setFreeCount_freeCount (s : State) (x : Nat) : (s.setFreeCount x).freeCount = x := rfl
@[simp] theorem State.setFreeCount_pending (s : State) (x : Nat) : (s.setFreeCount x).pending = s.pending := rfl

/-! ## State.setPending -/

@[simp] theorem State.setPending_time (s : State) (x : List Instr) : (s.setPending x).time = s.time := rfl
@[simp] theorem State.setPending_field (s : State) (x : List Instr) : (s.setPending x).field = s.field := rfl
@[simp] theorem State.setPending_channels (s : State) (x : List Instr) : (s.setPending x).channels = s.channels := rfl
@[simp] theorem State.setPending_stage (s : State) (x : List Instr) : (s.setPending x).stage = s.stage := rfl
@[simp] theorem State.setPending_warning (s : State) (x : List Instr) : (s.setPending x).warning = s.warning := rfl
@[simp] theorem State.setPending_cable (s : State) (x : List Instr) : (s.setPending x).cable = s.cable := rfl
@[simp] theorem State.setPending_gauging (s : State) (x : List Instr) : (s.setPending x).gauging = s.gauging := rfl
@[simp] theorem State.setPending_notices (s : State) (x : List Instr) : (s.setPending x).notices = s.notices := rfl
@[simp] theorem State.setPending_link (s : State) (x : List Instr) : (s.setPending x).link = s.link := rfl
@[simp] theorem State.setPending_supervisor (s : State) (x : List Instr) : (s.setPending x).supervisor = s.supervisor := rfl
@[simp] theorem State.setPending_freeCount (s : State) (x : List Instr) : (s.setPending x).freeCount = s.freeCount := rfl
@[simp] theorem State.setPending_pending (s : State) (x : List Instr) : (s.setPending x).pending = x := rfl

/-! ## State.setRun -/

@[simp] theorem State.setRun_time (s : State) (x : Run) : (s.setRun x).time = s.time := rfl
@[simp] theorem State.setRun_field (s : State) (x : Run) : (s.setRun x).field = s.field := rfl
@[simp] theorem State.setRun_channels (s : State) (x : Run) : (s.setRun x).channels = s.channels := rfl
@[simp] theorem State.setRun_stage (s : State) (x : Run) : (s.setRun x).stage = s.stage := rfl
@[simp] theorem State.setRun_warning (s : State) (x : Run) : (s.setRun x).warning = s.warning := rfl
@[simp] theorem State.setRun_cable (s : State) (x : Run) : (s.setRun x).cable = s.cable := rfl
@[simp] theorem State.setRun_notices (s : State) (x : Run) : (s.setRun x).notices = s.notices := rfl
@[simp] theorem State.setRun_link (s : State) (x : Run) : (s.setRun x).link = s.link := rfl
@[simp] theorem State.setRun_supervisor (s : State) (x : Run) : (s.setRun x).supervisor = s.supervisor := rfl
@[simp] theorem State.setRun_freeCount (s : State) (x : Run) : (s.setRun x).freeCount = s.freeCount := rfl
@[simp] theorem State.setRun_pending (s : State) (x : Run) : (s.setRun x).pending = s.pending := rfl
@[simp] theorem State.setRun_plan (s : State) (x : Run) : (s.setRun x).gauging.plan = s.gauging.plan := rfl
@[simp] theorem State.setRun_rating (s : State) (x : Run) : (s.setRun x).gauging.rating = s.gauging.rating := rfl
@[simp] theorem State.setRun_now (s : State) (x : Run) : (s.setRun x).now = s.now := rfl

/-! ## The present, through the updates that leave run time alone -/

@[simp] theorem State.setTime_now (s : State) (x : TimeBase) : (s.setTime x).now = x.runTime := rfl
@[simp] theorem State.setField_now (s : State) (x : FieldLine) : (s.setField x).now = s.now := rfl
@[simp] theorem State.setChannels_now (s : State) (x : Vector Channel 4) : (s.setChannels x).now = s.now := rfl
@[simp] theorem State.setStage_now (s : State) (x : StageUnit) : (s.setStage x).now = s.now := rfl
@[simp] theorem State.setWarning_now (s : State) (x : WarningUnit) : (s.setWarning x).now = s.now := rfl
@[simp] theorem State.setCable_now (s : State) (x : Cableway) : (s.setCable x).now = s.now := rfl
@[simp] theorem State.setGauging_now (s : State) (x : Gauging) : (s.setGauging x).now = s.now := rfl
@[simp] theorem State.setNotices_now (s : State) (x : Dispatcher) : (s.setNotices x).now = s.now := rfl
@[simp] theorem State.setLink_now (s : State) (x : HostLink) : (s.setLink x).now = s.now := rfl
@[simp] theorem State.setSupervisor_now (s : State) (x : Supervisor) : (s.setSupervisor x).now = s.now := rfl
@[simp] theorem State.setFreeCount_now (s : State) (x : Nat) : (s.setFreeCount x).now = s.now := rfl
@[simp] theorem State.setPending_now (s : State) (x : List Instr) : (s.setPending x).now = s.now := rfl

end Sys2Proof.Machine
end

