-- ==== Sys2Proof/Laws/Frames.lean ====
section
/-! SUPPORT. The frames of the operations that every block uses: starting a frame, the dispatcher's choice, raising a notice, the
wake of quiet mode, and the arbiter. Each lemma says that a component is left as it was. -/

namespace Sys2Proof.Machine

/-! ## startLine and dispatch (R152, R163) -/

@[simp] theorem startLine_time (s : State) : (startLine s).time = s.time := by
  unfold startLine; split; · rfl
  split; · rfl
  split <;> rfl
@[simp] theorem startLine_field (s : State) : (startLine s).field = s.field := by
  unfold startLine; split; · rfl
  split; · rfl
  split <;> rfl
@[simp] theorem startLine_channels (s : State) : (startLine s).channels = s.channels := by
  unfold startLine; split; · rfl
  split; · rfl
  split <;> rfl
@[simp] theorem startLine_stage (s : State) : (startLine s).stage = s.stage := by
  unfold startLine; split; · rfl
  split; · rfl
  split <;> rfl
@[simp] theorem startLine_warning (s : State) : (startLine s).warning = s.warning := by
  unfold startLine; split; · rfl
  split; · rfl
  split <;> rfl
@[simp] theorem startLine_cable (s : State) : (startLine s).cable = s.cable := by
  unfold startLine; split; · rfl
  split; · rfl
  split <;> rfl
@[simp] theorem startLine_gauging (s : State) : (startLine s).gauging = s.gauging := by
  unfold startLine; split; · rfl
  split; · rfl
  split <;> rfl
@[simp] theorem startLine_notices (s : State) : (startLine s).notices = s.notices := by
  unfold startLine; split; · rfl
  split; · rfl
  split <;> rfl
@[simp] theorem startLine_supervisor (s : State) : (startLine s).supervisor = s.supervisor := by
  unfold startLine; split; · rfl
  split; · rfl
  split <;> rfl
@[simp] theorem startLine_freeCount (s : State) : (startLine s).freeCount = s.freeCount := by
  unfold startLine; split; · rfl
  split; · rfl
  split <;> rfl
@[simp] theorem startLine_pending (s : State) : (startLine s).pending = s.pending := by
  unfold startLine; split; · rfl
  split; · rfl
  split <;> rfl

@[simp] theorem handOver_time (src : NoticeSource) (s : State) : (handOver s src).time = s.time := by
  unfold handOver; split <;> simp
@[simp] theorem handOver_field (src : NoticeSource) (s : State) : (handOver s src).field = s.field := by
  unfold handOver; split <;> simp
@[simp] theorem handOver_channels (src : NoticeSource) (s : State) : (handOver s src).channels = s.channels := by
  unfold handOver; split <;> simp
@[simp] theorem handOver_stage (src : NoticeSource) (s : State) : (handOver s src).stage = s.stage := by
  unfold handOver; split <;> simp
@[simp] theorem handOver_warning (src : NoticeSource) (s : State) : (handOver s src).warning = s.warning := by
  unfold handOver; split <;> simp
@[simp] theorem handOver_cable (src : NoticeSource) (s : State) : (handOver s src).cable = s.cable := by
  unfold handOver; split <;> simp
@[simp] theorem handOver_gauging (src : NoticeSource) (s : State) : (handOver s src).gauging = s.gauging := by
  unfold handOver; split <;> simp
@[simp] theorem handOver_supervisor (src : NoticeSource) (s : State) : (handOver s src).supervisor = s.supervisor := by
  unfold handOver; split <;> simp
@[simp] theorem handOver_freeCount (src : NoticeSource) (s : State) : (handOver s src).freeCount = s.freeCount := by
  unfold handOver; split <;> simp
@[simp] theorem handOver_pending (src : NoticeSource) (s : State) : (handOver s src).pending = s.pending := by
  unfold handOver; split <;> simp

@[simp] theorem dispatch_time (s : State) : (dispatch s).time = s.time := by
  unfold dispatch; split
  · split <;> simp
  · rfl
@[simp] theorem dispatch_field (s : State) : (dispatch s).field = s.field := by
  unfold dispatch; split
  · split <;> simp
  · rfl
@[simp] theorem dispatch_channels (s : State) : (dispatch s).channels = s.channels := by
  unfold dispatch; split
  · split <;> simp
  · rfl
@[simp] theorem dispatch_stage (s : State) : (dispatch s).stage = s.stage := by
  unfold dispatch; split
  · split <;> simp
  · rfl
@[simp] theorem dispatch_warning (s : State) : (dispatch s).warning = s.warning := by
  unfold dispatch; split
  · split <;> simp
  · rfl
@[simp] theorem dispatch_cable (s : State) : (dispatch s).cable = s.cable := by
  unfold dispatch; split
  · split <;> simp
  · rfl
@[simp] theorem dispatch_gauging (s : State) : (dispatch s).gauging = s.gauging := by
  unfold dispatch; split
  · split <;> simp
  · rfl
@[simp] theorem dispatch_supervisor (s : State) : (dispatch s).supervisor = s.supervisor := by
  unfold dispatch; split
  · split <;> simp
  · rfl
@[simp] theorem dispatch_freeCount (s : State) : (dispatch s).freeCount = s.freeCount := by
  unfold dispatch; split
  · split <;> simp
  · rfl
@[simp] theorem dispatch_pending (s : State) : (dispatch s).pending = s.pending := by
  unfold dispatch; split
  · split <;> simp
  · rfl

/-! ## Raising a notice (R150, R173) -/

@[simp] theorem fillSlot_time (src : NoticeSource) (content : List Field) (s : State) : (fillSlot src content s).time = s.time := by
  simp [fillSlot]
@[simp] theorem fillSlot_field (src : NoticeSource) (content : List Field) (s : State) : (fillSlot src content s).field = s.field := by
  simp [fillSlot]
@[simp] theorem fillSlot_channels (src : NoticeSource) (content : List Field) (s : State) : (fillSlot src content s).channels = s.channels := by
  simp [fillSlot]
@[simp] theorem fillSlot_stage (src : NoticeSource) (content : List Field) (s : State) : (fillSlot src content s).stage = s.stage := by
  simp [fillSlot]
@[simp] theorem fillSlot_warning (src : NoticeSource) (content : List Field) (s : State) : (fillSlot src content s).warning = s.warning := by
  simp [fillSlot]
@[simp] theorem fillSlot_cable (src : NoticeSource) (content : List Field) (s : State) : (fillSlot src content s).cable = s.cable := by
  simp [fillSlot]
@[simp] theorem fillSlot_gauging (src : NoticeSource) (content : List Field) (s : State) : (fillSlot src content s).gauging = s.gauging := by
  simp [fillSlot]
@[simp] theorem fillSlot_supervisor (src : NoticeSource) (content : List Field) (s : State) : (fillSlot src content s).supervisor = s.supervisor := by
  simp [fillSlot]
@[simp] theorem fillSlot_freeCount (src : NoticeSource) (content : List Field) (s : State) : (fillSlot src content s).freeCount = s.freeCount := by
  simp [fillSlot]
@[simp] theorem fillSlot_pending (src : NoticeSource) (content : List Field) (s : State) : (fillSlot src content s).pending = s.pending := by
  simp [fillSlot]

@[simp] theorem monitorWoken_time (s : State) : (monitorWoken s).time = s.time := by
  unfold monitorWoken; split <;> rfl
@[simp] theorem monitorWoken_field (s : State) : (monitorWoken s).field = s.field := by
  unfold monitorWoken; split <;> rfl
@[simp] theorem monitorWoken_channels (s : State) : (monitorWoken s).channels = s.channels := by
  unfold monitorWoken; split <;> rfl
@[simp] theorem monitorWoken_stage (s : State) : (monitorWoken s).stage = s.stage := by
  unfold monitorWoken; split <;> rfl
@[simp] theorem monitorWoken_cable (s : State) : (monitorWoken s).cable = s.cable := by
  unfold monitorWoken; split <;> rfl
@[simp] theorem monitorWoken_gauging (s : State) : (monitorWoken s).gauging = s.gauging := by
  unfold monitorWoken; split <;> rfl
@[simp] theorem monitorWoken_notices (s : State) : (monitorWoken s).notices = s.notices := by
  unfold monitorWoken; split <;> rfl
@[simp] theorem monitorWoken_link (s : State) : (monitorWoken s).link = s.link := by
  unfold monitorWoken; split <;> rfl
@[simp] theorem monitorWoken_supervisor (s : State) : (monitorWoken s).supervisor = s.supervisor := by
  unfold monitorWoken; split <;> rfl
@[simp] theorem monitorWoken_freeCount (s : State) : (monitorWoken s).freeCount = s.freeCount := by
  unfold monitorWoken; split <;> rfl
@[simp] theorem monitorWoken_pending (s : State) : (monitorWoken s).pending = s.pending := by
  unfold monitorWoken; split <;> rfl

@[simp] theorem wake_time (r : WakeReason) (s : State) : (wake r s).time = s.time := by
  unfold wake; split <;> simp
@[simp] theorem wake_field (r : WakeReason) (s : State) : (wake r s).field = s.field := by
  unfold wake; split <;> simp
@[simp] theorem wake_channels (r : WakeReason) (s : State) : (wake r s).channels = s.channels := by
  unfold wake; split <;> simp
@[simp] theorem wake_stage (r : WakeReason) (s : State) : (wake r s).stage = s.stage := by
  unfold wake; split <;> simp
@[simp] theorem wake_cable (r : WakeReason) (s : State) : (wake r s).cable = s.cable := by
  unfold wake; split <;> simp
@[simp] theorem wake_gauging (r : WakeReason) (s : State) : (wake r s).gauging = s.gauging := by
  unfold wake; split <;> simp
@[simp] theorem wake_freeCount (r : WakeReason) (s : State) : (wake r s).freeCount = s.freeCount := by
  unfold wake; split <;> simp
@[simp] theorem wake_pending (r : WakeReason) (s : State) : (wake r s).pending = s.pending := by
  unfold wake; split <;> simp

@[simp] theorem raise_time (src : NoticeSource) (content : List Field) (s : State) : (raise src content s).time = s.time := by
  unfold raise; dsimp only; split <;> simp
@[simp] theorem raise_field (src : NoticeSource) (content : List Field) (s : State) : (raise src content s).field = s.field := by
  unfold raise; dsimp only; split <;> simp
@[simp] theorem raise_channels (src : NoticeSource) (content : List Field) (s : State) : (raise src content s).channels = s.channels := by
  unfold raise; dsimp only; split <;> simp
@[simp] theorem raise_stage (src : NoticeSource) (content : List Field) (s : State) : (raise src content s).stage = s.stage := by
  unfold raise; dsimp only; split <;> simp
@[simp] theorem raise_cable (src : NoticeSource) (content : List Field) (s : State) : (raise src content s).cable = s.cable := by
  unfold raise; dsimp only; split <;> simp
@[simp] theorem raise_gauging (src : NoticeSource) (content : List Field) (s : State) : (raise src content s).gauging = s.gauging := by
  unfold raise; dsimp only; split <;> simp
@[simp] theorem raise_freeCount (src : NoticeSource) (content : List Field) (s : State) : (raise src content s).freeCount = s.freeCount := by
  unfold raise; dsimp only; split <;> simp
@[simp] theorem raise_pending (src : NoticeSource) (content : List Field) (s : State) : (raise src content s).pending = s.pending := by
  unfold raise; dsimp only; split <;> simp

/-! ## What a raise can do to the warning unit: a SUSPENDED monitor runs (R98) -/

theorem sameBut_refl (a : WarningUnit) : sameBut a a := rfl

theorem sameBut_trans {a b c : WarningUnit} (h : sameBut a b) (k : sameBut b c) : sameBut a c := by
  unfold sameBut at *; rw [← k, ← h]

theorem monitorWoken_warning (s : State) : sameBut s.warning (monitorWoken s).warning := by
  unfold monitorWoken; split
  · simp [sameBut]
  · rfl

theorem wake_warning (r : WakeReason) (s : State) : sameBut s.warning (wake r s).warning := by
  unfold wake; split
  · have h := monitorWoken_warning (fillSlot .quietWake (quietWakeContent s r)
        (s.setSupervisor { s.supervisor with quiet := .woken, wakeOutput := true }))
    simpa using h
  · rfl

/-- R150: raising a notice changes nothing of the warning unit but its monitor. -/
theorem raise_warning (src : NoticeSource) (content : List Field) (s : State) :
    sameBut s.warning (raise src content s).warning := by
  unfold raise; dsimp only; split
  · simpa using wake_warning (.levelFive (sourceNumber src)) (fillSlot src content s)
  · simpa using sameBut_refl s.warning

/-- A notice raised outside quiet mode leaves the warning unit and the supervisor as they were (R173). -/
theorem wake_of_awake (r : WakeReason) (s : State) (h : s.supervisor.quiet ≠ .quiet) : wake r s = s := by
  simp [wake, h]

/-! ## The arbiter (R28) -/

@[simp] theorem chooseTransaction_time (k : TxKind) (f : FieldFrame) (s : State) : (chooseTransaction k f s).time = s.time := by
  rfl
@[simp] theorem chooseTransaction_channels (k : TxKind) (f : FieldFrame) (s : State) : (chooseTransaction k f s).channels = s.channels := by
  rfl
@[simp] theorem chooseTransaction_stage (k : TxKind) (f : FieldFrame) (s : State) : (chooseTransaction k f s).stage = s.stage := by
  rfl
@[simp] theorem chooseTransaction_warning (k : TxKind) (f : FieldFrame) (s : State) : (chooseTransaction k f s).warning = s.warning := by
  rfl
@[simp] theorem chooseTransaction_cable (k : TxKind) (f : FieldFrame) (s : State) : (chooseTransaction k f s).cable = s.cable := by
  rfl
@[simp] theorem chooseTransaction_gauging (k : TxKind) (f : FieldFrame) (s : State) : (chooseTransaction k f s).gauging = s.gauging := by
  rfl
@[simp] theorem chooseTransaction_notices (k : TxKind) (f : FieldFrame) (s : State) : (chooseTransaction k f s).notices = s.notices := by
  rfl
@[simp] theorem chooseTransaction_link (k : TxKind) (f : FieldFrame) (s : State) : (chooseTransaction k f s).link = s.link := by
  rfl
@[simp] theorem chooseTransaction_supervisor (k : TxKind) (f : FieldFrame) (s : State) : (chooseTransaction k f s).supervisor = s.supervisor := by
  rfl
@[simp] theorem chooseTransaction_freeCount (k : TxKind) (f : FieldFrame) (s : State) : (chooseTransaction k f s).freeCount = s.freeCount := by
  rfl
@[simp] theorem chooseTransaction_pending (k : TxKind) (f : FieldFrame) (s : State) : (chooseTransaction k f s).pending = s.pending := by
  rfl

@[simp] theorem arbitrate_time (s : State) : (arbitrate s).time = s.time := by
  unfold arbitrate; split
  · split
    · rfl
    · split
      · rfl
      · split <;> rfl
  · rfl
@[simp] theorem arbitrate_channels (s : State) : (arbitrate s).channels = s.channels := by
  unfold arbitrate; split
  · split
    · rfl
    · split
      · rfl
      · split <;> rfl
  · rfl
@[simp] theorem arbitrate_stage (s : State) : (arbitrate s).stage = s.stage := by
  unfold arbitrate; split
  · split
    · rfl
    · split
      · rfl
      · split <;> rfl
  · rfl
@[simp] theorem arbitrate_warning (s : State) : (arbitrate s).warning = s.warning := by
  unfold arbitrate; split
  · split
    · rfl
    · split
      · rfl
      · split <;> rfl
  · rfl
@[simp] theorem arbitrate_cable (s : State) : (arbitrate s).cable = s.cable := by
  unfold arbitrate; split
  · split
    · rfl
    · split
      · rfl
      · split <;> rfl
  · rfl
@[simp] theorem arbitrate_gauging (s : State) : (arbitrate s).gauging = s.gauging := by
  unfold arbitrate; split
  · split
    · rfl
    · split
      · rfl
      · split <;> rfl
  · rfl
@[simp] theorem arbitrate_notices (s : State) : (arbitrate s).notices = s.notices := by
  unfold arbitrate; split
  · split
    · rfl
    · split
      · rfl
      · split <;> rfl
  · rfl
@[simp] theorem arbitrate_link (s : State) : (arbitrate s).link = s.link := by
  unfold arbitrate; split
  · split
    · rfl
    · split
      · rfl
      · split <;> rfl
  · rfl
@[simp] theorem arbitrate_supervisor (s : State) : (arbitrate s).supervisor = s.supervisor := by
  unfold arbitrate; split
  · split
    · rfl
    · split
      · rfl
      · split <;> rfl
  · rfl
@[simp] theorem arbitrate_freeCount (s : State) : (arbitrate s).freeCount = s.freeCount := by
  unfold arbitrate; split
  · split
    · rfl
    · split
      · rfl
      · split <;> rfl
  · rfl
@[simp] theorem arbitrate_pending (s : State) : (arbitrate s).pending = s.pending := by
  unfold arbitrate; split
  · split
    · rfl
    · split
      · rfl
      · split <;> rfl
  · rfl

@[simp] theorem requestWarn_time (s : State) : (requestWarn s).time = s.time := by
  simp [requestWarn]
@[simp] theorem requestWarn_channels (s : State) : (requestWarn s).channels = s.channels := by
  simp [requestWarn]
@[simp] theorem requestWarn_stage (s : State) : (requestWarn s).stage = s.stage := by
  simp [requestWarn]
@[simp] theorem requestWarn_warning (s : State) : (requestWarn s).warning = s.warning := by
  simp [requestWarn]
@[simp] theorem requestWarn_cable (s : State) : (requestWarn s).cable = s.cable := by
  simp [requestWarn]
@[simp] theorem requestWarn_gauging (s : State) : (requestWarn s).gauging = s.gauging := by
  simp [requestWarn]
@[simp] theorem requestWarn_notices (s : State) : (requestWarn s).notices = s.notices := by
  simp [requestWarn]
@[simp] theorem requestWarn_link (s : State) : (requestWarn s).link = s.link := by
  simp [requestWarn]
@[simp] theorem requestWarn_supervisor (s : State) : (requestWarn s).supervisor = s.supervisor := by
  simp [requestWarn]
@[simp] theorem requestWarn_freeCount (s : State) : (requestWarn s).freeCount = s.freeCount := by
  simp [requestWarn]
@[simp] theorem requestWarn_pending (s : State) : (requestWarn s).pending = s.pending := by
  simp [requestWarn]

@[simp] theorem transmitterFree_time (s : State) : (transmitterFree s).time = s.time := by
  simp [transmitterFree]
@[simp] theorem transmitterFree_channels (s : State) : (transmitterFree s).channels = s.channels := by
  simp [transmitterFree]
@[simp] theorem transmitterFree_stage (s : State) : (transmitterFree s).stage = s.stage := by
  simp [transmitterFree]
@[simp] theorem transmitterFree_warning (s : State) : (transmitterFree s).warning = s.warning := by
  simp [transmitterFree]
@[simp] theorem transmitterFree_cable (s : State) : (transmitterFree s).cable = s.cable := by
  simp [transmitterFree]
@[simp] theorem transmitterFree_gauging (s : State) : (transmitterFree s).gauging = s.gauging := by
  simp [transmitterFree]
@[simp] theorem transmitterFree_notices (s : State) : (transmitterFree s).notices = s.notices := by
  simp [transmitterFree]
@[simp] theorem transmitterFree_link (s : State) : (transmitterFree s).link = s.link := by
  simp [transmitterFree]
@[simp] theorem transmitterFree_supervisor (s : State) : (transmitterFree s).supervisor = s.supervisor := by
  simp [transmitterFree]
@[simp] theorem transmitterFree_freeCount (s : State) : (transmitterFree s).freeCount = s.freeCount := by
  simp [transmitterFree]
@[simp] theorem transmitterFree_pending (s : State) : (transmitterFree s).pending = s.pending := by
  simp [transmitterFree]

/-- R28: the arbiter, like every choice of a transaction, leaves the settings, the capture queue and the head table
as they were. -/
theorem arbitrate_tables (s : State) :
    (arbitrate s).field.settings = s.field.settings ∧ (arbitrate s).field.captured = s.field.captured
      ∧ (arbitrate s).field.heads = s.field.heads ∧ (arbitrate s).field.lastSent = s.field.lastSent := by
  unfold arbitrate; split
  · split
    · exact ⟨rfl, rfl, rfl, rfl⟩
    · split
      · exact ⟨rfl, rfl, rfl, rfl⟩
      · split <;> exact ⟨rfl, rfl, rfl, rfl⟩
  · exact ⟨rfl, rfl, rfl, rfl⟩

/-- R28: a transmitter that is not FREE keeps its transaction. -/
theorem arbitrate_busy (s : State) (h : s.field.tx ≠ .free) : arbitrate s = s := by
  unfold arbitrate; split
  · contradiction
  · rfl

end Sys2Proof.Machine
end

