-- ==== Sys2Proof/Laws/Ops.lean ====
section
/-! SUPPORT. The shared operations of Machine/Ops.lean: tables, clamps, counters and timers. -/

namespace Sys2Proof.Machine

@[simp] theorem mapTable_get {α β : Type} {n : Nat} (f : α → β) (v : Vector α n) (i : Fin n) :
    (mapTable f v)[i] = f v[i] := by simp [mapTable]

@[simp] theorem mapPlaces_get {α β : Type} {n : Nat} (f : Fin n → α → β) (v : Vector α n) (i : Fin n) :
    (mapPlaces f v)[i] = f i v[i] := by simp [mapPlaces]

/-- Every place of a table is among its places. -/
theorem mem_places {n : Nat} (i : Fin n) : i ∈ places n := by
  simp [places, Vector.mem_toList_iff, Vector.mem_ofFn]

/-- The place of a number in range. -/
theorem place_of_range {number size : Nat} (h : 1 ≤ number ∧ number ≤ size) :
    place number size = some ⟨number - 1, by omega⟩ := by simp [place, h]

theorem place_none {number size : Nat} (h : ¬ (1 ≤ number ∧ number ≤ size)) : place number size = none := by
  unfold place; split
  · contradiction
  · rfl

/-- A place is its number's. -/
@[simp] theorem place_numberOf {n : Nat} (i : Fin n) : place (numberOf i) n = some i := by
  rw [place_eq_some]; rfl

/-- A clamped number lies in its range. -/
theorem clampNat_range {low high : Nat} (h : low ≤ high) (x : Nat) :
    low ≤ clampNat low high x ∧ clampNat low high x ≤ high := by unfold clampNat; omega

/-- A number in its range is not changed by the clamp. -/
theorem clampNat_of_range {low high x : Nat} (h : low ≤ x ∧ x ≤ high) : clampNat low high x = x := by
  unfold clampNat; omega

theorem clampInt_range {low high : Int} (h : low ≤ high) (x : Int) :
    low ≤ clampInt low high x ∧ clampInt low high x ≤ high := by unfold clampInt; omega

theorem clampInt_of_range {low high x : Int} (h : low ≤ x ∧ x ≤ high) : clampInt low high x = x := by
  unfold clampInt; omega

/-- A counter never passes its top. -/
theorem countUp_le {top n : Nat} (h : n ≤ top) : countUp top n ≤ top := by unfold countUp; split <;> omega

/-- A timer has reached its expiry exactly when it runs and the expiry is not later than now. -/
theorem reached_iff (timer : Option Nat) (now : Nat) : reached timer now = true ↔ ∃ e, timer = some e ∧ e ≤ now := by
  cases timer <;> simp [reached]

/-- Rounding half up gives the quotient or the next number. -/
theorem divHalfUp_cases (a b : Nat) : divHalfUp a b = a / b ∨ divHalfUp a b = a / b + 1 := by
  unfold divHalfUp; split <;> simp

end Sys2Proof.Machine
end

