-- ==== Sys2Proof/Laws/Requests.lean ====
section
/-! SUPPORT. What every request does before and after its owner answers it: the arrival of its frame (R160), and the placing of
its reply (R161 to R163). -/

namespace Sys2Proof.Machine

/-! ## Holders -/

@[simp] theorem startLine_reply (s : State) : (startLine s).link.reply = s.link.reply := by
  unfold startLine; split; · rfl
  split; · rfl
  split <;> rfl

@[simp] theorem startLine_inHand (s : State) : (startLine s).link.inHand = s.link.inHand := by
  unfold startLine; split; · rfl
  split; · rfl
  split <;> rfl

/-- R163: a line that is busy keeps its frame; a free line takes the reply first. -/
theorem startLine_line (s : State) :
    (startLine s).link.line
      = match s.link.line with
        | some h => some h
        | none => if s.link.reply.isSome then some .reply else if s.link.notice.isSome then some .notice else none := by
  unfold startLine
  cases h : s.link.line with
  | some x => simp [h]
  | none => cases s.link.reply <;> cases s.link.notice <;> simp [h]

@[simp] theorem handOver_reply (src : NoticeSource) (s : State) : (handOver s src).link.reply = s.link.reply := by
  unfold handOver; split <;> simp

@[simp] theorem handOver_inHand (src : NoticeSource) (s : State) : (handOver s src).link.inHand = s.link.inHand := by
  unfold handOver; split <;> simp

@[simp] theorem dispatch_reply (s : State) : (dispatch s).link.reply = s.link.reply := by
  unfold dispatch; split
  · split <;> simp
  · rfl

@[simp] theorem dispatch_inHand (s : State) : (dispatch s).link.inHand = s.link.inHand := by
  unfold dispatch; split
  · split <;> simp
  · rfl

/-! ## Placing a reply -/

@[simp] theorem placeReply_time (f : HostFrame) (p : State × Answer) : (placeReply f p).time = p.1.time := by
  simp [placeReply]
@[simp] theorem placeReply_field (f : HostFrame) (p : State × Answer) : (placeReply f p).field = p.1.field := by
  simp [placeReply]
@[simp] theorem placeReply_channels (f : HostFrame) (p : State × Answer) : (placeReply f p).channels = p.1.channels := by
  simp [placeReply]
@[simp] theorem placeReply_stage (f : HostFrame) (p : State × Answer) : (placeReply f p).stage = p.1.stage := by
  simp [placeReply]
@[simp] theorem placeReply_warning (f : HostFrame) (p : State × Answer) : (placeReply f p).warning = p.1.warning := by
  simp [placeReply]
@[simp] theorem placeReply_cable (f : HostFrame) (p : State × Answer) : (placeReply f p).cable = p.1.cable := by
  simp [placeReply]
@[simp] theorem placeReply_gauging (f : HostFrame) (p : State × Answer) : (placeReply f p).gauging = p.1.gauging := by
  simp [placeReply]
@[simp] theorem placeReply_supervisor (f : HostFrame) (p : State × Answer) : (placeReply f p).supervisor = p.1.supervisor := by
  simp [placeReply]
@[simp] theorem placeReply_freeCount (f : HostFrame) (p : State × Answer) : (placeReply f p).freeCount = p.1.freeCount := by
  simp [placeReply]
@[simp] theorem placeReply_pending (f : HostFrame) (p : State × Answer) : (placeReply f p).pending = p.1.pending := by
  simp [placeReply]

@[simp] theorem placeReply_reply (f : HostFrame) (p : State × Answer) :
    (placeReply f p).link.reply = some (replyFrame f p.2) := by simp [placeReply]

@[simp] theorem placeReply_inHand (f : HostFrame) (p : State × Answer) :
    (placeReply f p).link.inHand = p.1.link.inHand := by simp [placeReply]

/-! ## The arrival of a frame outside quiet mode and AUTONOMOUS -/

/-- The state in which the request of a frame is judged, when the frame finds the part calm: the monitor runs for a
fresh interval, and the request is in hand. -/
def takenAt (f : HostFrame) (s : State) : State :=
  (monitorRestarted s).setLink { s.link with inHand := some { kind := f.kind, tag := f.tag }, unready := true }

@[simp] theorem takenAt_time (f : HostFrame) (s : State) : (takenAt f s).time = s.time := by
  unfold takenAt monitorRestarted; split <;> rfl
@[simp] theorem takenAt_field (f : HostFrame) (s : State) : (takenAt f s).field = s.field := by
  unfold takenAt monitorRestarted; split <;> rfl
@[simp] theorem takenAt_channels (f : HostFrame) (s : State) : (takenAt f s).channels = s.channels := by
  unfold takenAt monitorRestarted; split <;> rfl
@[simp] theorem takenAt_stage (f : HostFrame) (s : State) : (takenAt f s).stage = s.stage := by
  unfold takenAt monitorRestarted; split <;> rfl
@[simp] theorem takenAt_cable (f : HostFrame) (s : State) : (takenAt f s).cable = s.cable := by
  unfold takenAt monitorRestarted; split <;> rfl
@[simp] theorem takenAt_gauging (f : HostFrame) (s : State) : (takenAt f s).gauging = s.gauging := by
  unfold takenAt monitorRestarted; split <;> rfl
@[simp] theorem takenAt_notices (f : HostFrame) (s : State) : (takenAt f s).notices = s.notices := by
  unfold takenAt monitorRestarted; split <;> rfl
@[simp] theorem takenAt_supervisor (f : HostFrame) (s : State) : (takenAt f s).supervisor = s.supervisor := by
  unfold takenAt monitorRestarted; split <;> rfl
@[simp] theorem takenAt_freeCount (f : HostFrame) (s : State) : (takenAt f s).freeCount = s.freeCount := by
  unfold takenAt monitorRestarted; split <;> rfl
@[simp] theorem takenAt_pending (f : HostFrame) (s : State) : (takenAt f s).pending = s.pending := by
  unfold takenAt monitorRestarted; split <;> rfl

@[simp] theorem takenAt_now (f : HostFrame) (s : State) : (takenAt f s).now = s.now := by
  unfold takenAt monitorRestarted; split <;> rfl

/-- R98: of the warning unit only the monitor changes. -/
theorem takenAt_warning (f : HostFrame) (s : State) :
    (takenAt f s).warning
      = if s.warning.monitorSettings.enable then
          { s.warning with monitor := .running (s.now + monitorInterval s.warning.monitorSettings) }
        else s.warning := by
  unfold takenAt monitorRestarted; split <;> simp_all

@[simp] theorem takenAt_link (f : HostFrame) (s : State) :
    (takenAt f s).link = { s.link with inHand := some { kind := f.kind, tag := f.tag }, unready := true } := by
  unfold takenAt; rfl

/-- R160, R161: a frame that finds the part calm has its request taken at once. -/
theorem frameArrives_calm (f : HostFrame) (s : State) (h : s.Calm) :
    frameArrives f s = placeReply f (judgeFrame f (takenAt f s)) := by
  obtain ⟨hand, rest, quiet, auto⟩ := h
  cases e : s.warning.monitorSettings.enable <;>
    simp [frameArrives, placeFrame, frameHeard, hostHeard, endQuiet, monitorRestarted, State.quietInForce, takeFrame,
      takenAt, hand, rest, quiet, auto, e, State.setLink, State.setWarning, State.now]

/-- R160, R161: the same for a request as the host sends it. -/
theorem requestArrives_calm (tag : Byte) (q : Request) (s : State) (h : s.Calm) :
    requestArrives tag q s
      = placeReply (requestFrame tag q) (answer q (takenAt (requestFrame tag q) s)) := by
  simp [requestArrives, frameArrives_calm _ _ h, judgeFrame, requestFrame]

/-- R160: with a request in hand and no frame waiting, the frame becomes the waiting frame. -/
theorem placeFrame_waits (f : HostFrame) (s : State) (h : s.link.inHand ≠ none) (w : s.link.waiting = none) :
    placeFrame f s = s.setLink { s.link with waiting := some f, unready := false } := by
  simp [placeFrame, h, w]

/-- R160: with a frame already waiting, the new frame is discarded. -/
theorem placeFrame_discards (f g : HostFrame) (s : State) (h : s.link.inHand ≠ none)
    (w : s.link.waiting = some g) : placeFrame f s = s.setLink { s.link with unready := false } := by
  simp [placeFrame, h, w]

/-! ## What a placed reply keeps -/

@[simp] theorem startLine_rateHeld (s : State) : (startLine s).link.rateHeld = s.link.rateHeld := by
  unfold startLine; split; · rfl
  split; · rfl
  split <;> rfl
@[simp] theorem handOver_rateHeld (src : NoticeSource) (s : State) : (handOver s src).link.rateHeld = s.link.rateHeld := by
  unfold handOver; split <;> simp
@[simp] theorem dispatch_rateHeld (s : State) : (dispatch s).link.rateHeld = s.link.rateHeld := by
  unfold dispatch; split
  · split <;> simp
  · rfl
@[simp] theorem placeReply_rateHeld (f : HostFrame) (p : State × Answer) :
    (placeReply f p).link.rateHeld = p.1.link.rateHeld := by simp [placeReply]
@[simp] theorem startLine_rateInForce (s : State) : (startLine s).link.rateInForce = s.link.rateInForce := by
  unfold startLine; split; · rfl
  split; · rfl
  split <;> rfl
@[simp] theorem handOver_rateInForce (src : NoticeSource) (s : State) : (handOver s src).link.rateInForce = s.link.rateInForce := by
  unfold handOver; split <;> simp
@[simp] theorem dispatch_rateInForce (s : State) : (dispatch s).link.rateInForce = s.link.rateInForce := by
  unfold dispatch; split
  · split <;> simp
  · rfl
@[simp] theorem placeReply_rateInForce (f : HostFrame) (p : State × Answer) :
    (placeReply f p).link.rateInForce = p.1.link.rateInForce := by simp [placeReply]
@[simp] theorem startLine_assembling (s : State) : (startLine s).link.assembling = s.link.assembling := by
  unfold startLine; split; · rfl
  split; · rfl
  split <;> rfl
@[simp] theorem handOver_assembling (src : NoticeSource) (s : State) : (handOver s src).link.assembling = s.link.assembling := by
  unfold handOver; split <;> simp
@[simp] theorem dispatch_assembling (s : State) : (dispatch s).link.assembling = s.link.assembling := by
  unfold dispatch; split
  · split <;> simp
  · rfl
@[simp] theorem placeReply_assembling (f : HostFrame) (p : State × Answer) :
    (placeReply f p).link.assembling = p.1.link.assembling := by simp [placeReply]
@[simp] theorem startLine_restart (s : State) : (startLine s).link.restart = s.link.restart := by
  unfold startLine; split; · rfl
  split; · rfl
  split <;> rfl
@[simp] theorem handOver_restart (src : NoticeSource) (s : State) : (handOver s src).link.restart = s.link.restart := by
  unfold handOver; split <;> simp
@[simp] theorem dispatch_restart (s : State) : (dispatch s).link.restart = s.link.restart := by
  unfold dispatch; split
  · split <;> simp
  · rfl
@[simp] theorem placeReply_restart (f : HostFrame) (p : State × Answer) :
    (placeReply f p).link.restart = p.1.link.restart := by simp [placeReply]
@[simp] theorem startLine_waiting (s : State) : (startLine s).link.waiting = s.link.waiting := by
  unfold startLine; split; · rfl
  split; · rfl
  split <;> rfl
@[simp] theorem handOver_waiting (src : NoticeSource) (s : State) : (handOver s src).link.waiting = s.link.waiting := by
  unfold handOver; split <;> simp
@[simp] theorem dispatch_waiting (s : State) : (dispatch s).link.waiting = s.link.waiting := by
  unfold dispatch; split
  · split <;> simp
  · rfl
@[simp] theorem placeReply_waiting (f : HostFrame) (p : State × Answer) :
    (placeReply f p).link.waiting = p.1.link.waiting := by simp [placeReply]
@[simp] theorem handOver_notices_settings (src : NoticeSource) (s : State) :
    (handOver s src).notices.settings = s.notices.settings := by unfold handOver; split <;> simp
@[simp] theorem dispatch_notices_settings (s : State) : (dispatch s).notices.settings = s.notices.settings := by
  unfold dispatch; split
  · split <;> simp
  · rfl
@[simp] theorem fillSlot_notices_settings (src : NoticeSource) (c : List Field) (s : State) :
    (fillSlot src c s).notices.settings = s.notices.settings := by simp [fillSlot]
@[simp] theorem placeReply_notices_settings (f : HostFrame) (p : State × Answer) :
    (placeReply f p).notices.settings = p.1.notices.settings := by simp [placeReply]
@[simp] theorem handOver_notices_hold (src : NoticeSource) (s : State) :
    (handOver s src).notices.hold = s.notices.hold := by unfold handOver; split <;> simp
@[simp] theorem dispatch_notices_hold (s : State) : (dispatch s).notices.hold = s.notices.hold := by
  unfold dispatch; split
  · split <;> simp
  · rfl
@[simp] theorem fillSlot_notices_hold (src : NoticeSource) (c : List Field) (s : State) :
    (fillSlot src c s).notices.hold = s.notices.hold := by simp [fillSlot]
@[simp] theorem placeReply_notices_hold (f : HostFrame) (p : State × Answer) :
    (placeReply f p).notices.hold = p.1.notices.hold := by simp [placeReply]

/-- R161 to R163: an owner's answer that keeps everything but what `k` names is all that a reply's placing keeps. -/
theorem keeps_placeReply (f : HostFrame) (p : State × Answer) (s : State) (h : s.Keeps p.1) :
    s.Keeps (placeReply f p) := by
  simpa [State.Keeps] using h

/-- R98: the arrival of a frame at a calm part changes nothing but the monitor and the request in hand. -/
theorem keeps_takenAt (f : HostFrame) (s : State) : s.Keeps (takenAt f s) := by
  refine ⟨?_, ?_, ?_, ?_, ?_, ?_, ?_, ?_, ?_, ?_, ?_, ?_, ?_, ?_, ?_, ?_⟩ <;>
    first
    | (rw [takenAt_warning]; split <;> simp [sameBut])
    | simp

theorem Keeps.refl (s : State) : s.Keeps s :=
  ⟨rfl, rfl, rfl, rfl, rfl, rfl, rfl, rfl, rfl, rfl, rfl, rfl, rfl, rfl, rfl, rfl⟩

theorem Keeps.trans {a b c : State} (h : a.Keeps b) (k : b.Keeps c) : a.Keeps c := by
  obtain ⟨h1, h2, h3, h4, h5, h6, h7, h8, h9, h10, h11, h12, h13, h14, h15, h16⟩ := h
  obtain ⟨k1, k2, k3, k4, k5, k6, k7, k8, k9, k10, k11, k12, k13, k14, k15, k16⟩ := k
  exact ⟨k1.trans h1, k2.trans h2, k3.trans h3, k4.trans h4, sameBut_trans h5 k5, k6.trans h6, k7.trans h7,
    k8.trans h8, k9.trans h9, k10.trans h10, k11.trans h11, k12.trans h12, k13.trans h13, k14.trans h14,
    k15.trans h15, k16.trans h16⟩

/-- R150: a notice that fills its slot keeps every block. -/
theorem keeps_fillSlot (src : NoticeSource) (c : List Field) (s : State) : s.Keeps (fillSlot src c s) := by
  refine ⟨?_, ?_, ?_, ?_, ?_, ?_, ?_, ?_, ?_, ?_, ?_, ?_, ?_, ?_, ?_, ?_⟩ <;> simp [fillSlot, sameBut]

/-- R150, R173: a notice raised while the part is not in QUIET keeps every block. -/
theorem keeps_raise (src : NoticeSource) (c : List Field) (s : State) (h : s.supervisor.quiet ≠ .quiet) :
    s.Keeps (raise src c s) := by
  unfold raise; dsimp only; split
  · rw [wake_of_awake _ _ (by simpa using h)]; exact keeps_fillSlot src c s
  · exact keeps_fillSlot src c s

/-! ## What a raise keeps of the reply's side of the link -/

@[simp] theorem fillSlot_reply (src : NoticeSource) (c : List Field) (s : State) :
    (fillSlot src c s).link.reply = s.link.reply := by simp [fillSlot]
@[simp] theorem monitorWoken_link_reply (s : State) : (monitorWoken s).link.reply = s.link.reply := by simp
@[simp] theorem wake_link_reply (r : WakeReason) (s : State) : (wake r s).link.reply = s.link.reply := by
  unfold wake; split <;> simp
@[simp] theorem raise_link_reply (src : NoticeSource) (c : List Field) (s : State) :
    (raise src c s).link.reply = s.link.reply := by
  unfold raise; dsimp only; split <;> simp
@[simp] theorem fillSlot_inHand (src : NoticeSource) (c : List Field) (s : State) :
    (fillSlot src c s).link.inHand = s.link.inHand := by simp [fillSlot]
@[simp] theorem monitorWoken_link_inHand (s : State) : (monitorWoken s).link.inHand = s.link.inHand := by simp
@[simp] theorem wake_link_inHand (r : WakeReason) (s : State) : (wake r s).link.inHand = s.link.inHand := by
  unfold wake; split <;> simp
@[simp] theorem raise_link_inHand (src : NoticeSource) (c : List Field) (s : State) :
    (raise src c s).link.inHand = s.link.inHand := by
  unfold raise; dsimp only; split <;> simp
@[simp] theorem fillSlot_waiting (src : NoticeSource) (c : List Field) (s : State) :
    (fillSlot src c s).link.waiting = s.link.waiting := by simp [fillSlot]
@[simp] theorem monitorWoken_link_waiting (s : State) : (monitorWoken s).link.waiting = s.link.waiting := by simp
@[simp] theorem wake_link_waiting (r : WakeReason) (s : State) : (wake r s).link.waiting = s.link.waiting := by
  unfold wake; split <;> simp
@[simp] theorem raise_link_waiting (src : NoticeSource) (c : List Field) (s : State) :
    (raise src c s).link.waiting = s.link.waiting := by
  unfold raise; dsimp only; split <;> simp

/-! ## A request at a calm part (R160 to R162) -/

/-- R160, R161: the command of a request, at a calm part, is its owner's answer placed in the reply holder. -/
theorem exec_request (tag : Byte) (q : Request) (s : State) (h : s.Calm) :
    exec (requestCommand tag q) s
      = .next (placeReply (requestFrame tag q) (answer q (takenAt (requestFrame tag q) s))) := by
  rw [← requestArrives_calm tag q s h]; cases q <;> rfl

/-- R162: a refusal that leaves its owner as it was changes no block. -/
theorem refused_request (tag : Byte) (q : Request) (s : State) (h : s.Calm) (r : Reason)
    (hr : answer q (takenAt (requestFrame tag q) s) = (takenAt (requestFrame tag q) s, .refuse r)) :
    ∃ t, exec (requestCommand tag q) s = .next t ∧ s.Keeps t ∧ t.RefusedFor (requestKind q) tag (reasonCode r) := by
  refine ⟨_, exec_request tag q s h, ?_, ?_⟩
  · rw [hr]; exact keeps_placeReply _ _ _ (keeps_takenAt _ _)
  · rw [hr]; simp [State.RefusedFor, replyFrame, requestFrame]

/-- R161: a request that is taken, as its owner leaves the part. -/
theorem answered_request (tag : Byte) (q : Request) (s s' : State) (h : s.Calm) (p : List Field)
    (hr : answer q (takenAt (requestFrame tag q) s) = (s', .reply p))
    (hi : s'.link.inHand = some { kind := requestKind q, tag := tag }) :
    ∃ t, exec (requestCommand tag q) s = .next t ∧ t = placeReply (requestFrame tag q) (s', .reply p)
      ∧ t.Answered (requestKind q) tag p := by
  refine ⟨_, exec_request tag q s h, by rw [hr], ?_⟩
  rw [hr]; simp [State.Answered, replyFrame, requestFrame, hi]

@[simp] theorem takenAt_saveRuns (f : HostFrame) (s : State) : (takenAt f s).saveRuns = s.saveRuns := by
  simp [State.saveRuns]
@[simp] theorem takenAt_run (f : HostFrame) (s : State) : (takenAt f s).run = s.run := by simp [State.run]
@[simp] theorem takenAt_runActive (f : HostFrame) (s : State) : runActive (takenAt f s) = runActive s := by
  simp [runActive]
theorem takenAt_same (f : HostFrame) (s : State) : sameBut s.warning (takenAt f s).warning :=
  (keeps_takenAt f s).2.2.2.2.1

end Sys2Proof.Machine
end

