-- ==== Sys2Proof/Laws/Orders.lean ====
section
/-! SUPPORT. What the gauging sequencer and the cableway controller can do to the rest of the machine when they work off
their orders (R112, R119, R129 to R138): they move the carriage, keep the run record, close the exposure span and raise
notices, and nothing else. -/

namespace Sys2Proof.Machine

/-- A raise of a source other than RESTART, WARNING and LINK only fills its slot (R150): no wake follows it. -/
theorem raise_low (src : NoticeSource) (c : List Field) (s : State) (h : 3 < sourceNumber src) :
    raise src c s = fillSlot src c s := by
  unfold raise; dsimp only; rw [if_neg (by omega)]

/-- From `s` to `t` only the carriage's motion, the run record, the exposure span, the notices' slots and levels and
the notice on its way have changed. -/
structure RunOnly (s t : State) : Prop where
  time : t.time = { s.time with exposureSpan := t.time.exposureSpan }
  field : t.field = s.field
  channels : t.channels = s.channels
  stage : t.stage = s.stage
  warning : t.warning = s.warning
  settings : t.cable.settings = s.cable.settings
  switches : t.cable.switches = s.cable.switches
  plan : t.gauging.plan = s.gauging.plan
  rating : t.gauging.rating = s.gauging.rating
  noticeSettings : t.notices.settings = s.notices.settings
  hold : t.notices.hold = s.notices.hold
  link : t.link = { s.link with notice := t.link.notice, line := t.link.line }
  supervisor : t.supervisor = s.supervisor
  freeCount : t.freeCount = s.freeCount
  pending : t.pending = s.pending

namespace RunOnly

theorem refl (s : State) : RunOnly s s := ⟨rfl, rfl, rfl, rfl, rfl, rfl, rfl, rfl, rfl, rfl, rfl, rfl, rfl, rfl, rfl⟩

theorem trans {a b c : State} (h : RunOnly a b) (k : RunOnly b c) : RunOnly a c where
  time := by rw [k.time, h.time]
  field := k.field.trans h.field
  channels := k.channels.trans h.channels
  stage := k.stage.trans h.stage
  warning := k.warning.trans h.warning
  settings := k.settings.trans h.settings
  switches := k.switches.trans h.switches
  plan := k.plan.trans h.plan
  rating := k.rating.trans h.rating
  noticeSettings := k.noticeSettings.trans h.noticeSettings
  hold := k.hold.trans h.hold
  link := by rw [k.link, h.link]
  supervisor := k.supervisor.trans h.supervisor
  freeCount := k.freeCount.trans h.freeCount
  pending := k.pending.trans h.pending

/-- A change of the carriage that keeps its settings and switches. -/
theorem setCable (s : State) (x : Cableway) (h : x.settings = s.cable.settings := by rfl)
    (k : x.switches = s.cable.switches := by rfl) :
    RunOnly s (s.setCable x) := ⟨rfl, rfl, rfl, rfl, rfl, h, k, rfl, rfl, rfl, rfl, rfl, rfl, rfl, rfl⟩

/-- A change of the run record. -/
theorem setRun (s : State) (r : Run) : RunOnly s (s.setRun r) :=
  ⟨rfl, rfl, rfl, rfl, rfl, rfl, rfl, rfl, rfl, rfl, rfl, rfl, rfl, rfl, rfl⟩

theorem setVertical (s : State) (v : InVertical) : RunOnly s (setVertical v s) := setRun s _
theorem setPhase (s : State) (p : RunPhase) : RunOnly s (setPhase p s) := setRun s _

theorem setMotion (s : State) (m : Motion) : RunOnly s (setMotion m s) := setCable s _

theorem setDrive (s : State) (d : Option Drive) : RunOnly s (setDrive d s) := by
  unfold Machine.setDrive; split
  · exact refl s
  · exact setCable s _

theorem closeExposureSpan (s : State) : RunOnly s (closeExposureSpan s) :=
  ⟨rfl, rfl, rfl, rfl, rfl, rfl, rfl, rfl, rfl, rfl, rfl, rfl, rfl, rfl, rfl⟩

theorem openExposureSpan (s : State) : RunOnly s (openExposureSpan s) :=
  ⟨rfl, rfl, rfl, rfl, rfl, rfl, rfl, rfl, rfl, rfl, rfl, rfl, rfl, rfl, rfl⟩

theorem startLine (s : State) : RunOnly s (startLine s) := by
  unfold Machine.startLine
  split
  · exact refl s
  · split
    · exact ⟨rfl, rfl, rfl, rfl, rfl, rfl, rfl, rfl, rfl, rfl, rfl, rfl, rfl, rfl, rfl⟩
    · split
      · exact ⟨rfl, rfl, rfl, rfl, rfl, rfl, rfl, rfl, rfl, rfl, rfl, rfl, rfl, rfl, rfl⟩
      · exact refl s

theorem handOver (s : State) (src : NoticeSource) : RunOnly s (handOver s src) := by
  unfold Machine.handOver
  split
  · exact refl s
  · refine trans ?_ (startLine _)
    exact ⟨rfl, rfl, rfl, rfl, rfl, rfl, rfl, rfl, rfl, rfl, rfl, rfl, rfl, rfl, rfl⟩

theorem dispatch (s : State) : RunOnly s (dispatch s) := by
  unfold Machine.dispatch
  split
  · split
    · exact refl s
    · exact handOver s _
  · exact refl s

theorem fillSlot (s : State) (src : NoticeSource) (c : List Field) : RunOnly s (fillSlot src c s) := by
  unfold Machine.fillSlot
  refine trans ?_ (dispatch _)
  exact ⟨rfl, rfl, rfl, rfl, rfl, rfl, rfl, rfl, rfl, rfl, rfl, rfl, rfl, rfl, rfl⟩

/-- R150: a notice of sources 4 to 15. -/
theorem raise (s : State) (src : NoticeSource) (c : List Field) (h : 3 < sourceNumber src) :
    RunOnly s (raise src c s) := by rw [raise_low src c s h]; exact fillSlot s src c

theorem storeVertical (s : State) (k : Option SkipReason) : RunOnly s (storeVertical k s) := by
  unfold Machine.storeVertical
  exact trans (setRun s _) (raise _ _ _ (by decide))

theorem raiseRunEnd (s : State) : RunOnly s (raiseRunEnd s) := raise _ _ _ (by decide)

theorem completeRun (s : State) (o : ReturnOutcome) : RunOnly s (completeRun o s) := by
  unfold Machine.completeRun
  exact trans (setRun s _) (raiseRunEnd _)

theorem endAbortedReturn (s : State) (o : ReturnOutcome) : RunOnly s (endAbortedReturn o s) := by
  unfold Machine.endAbortedReturn
  exact trans (setRun s _) (raiseRunEnd _)

theorem abandonExposure (s : State) : RunOnly s (abandonExposure s) := by
  unfold Machine.abandonExposure
  split
  · exact refl s
  · exact trans (setRun s _) (closeExposureSpan _)

theorem abortCore (s : State) (r : AbortReason) : RunOnly s (abortCore r s) := by
  unfold Machine.abortCore
  refine trans ?_ (setRun _ _)
  split
  · exact trans (setRun s _) (abandonExposure _)
  · exact trans (setRun s _) (abandonExposure _)
  · exact trans (trans (setRun s _) (abandonExposure _)) (storeVertical _ _)

theorem sequencerFault (s : State) : RunOnly s (sequencerFault s) := by
  unfold Machine.sequencerFault
  split
  · exact trans (abortCore s _) (endAbortedReturn _ _)
  · exact completeRun s _
  · split
    · exact endAbortedReturn s _
    · exact refl s
  · exact refl s

theorem enterFaulted (s : State) (c : FaultCause) : RunOnly s (enterFaulted c s) := setCable s _

/-- R119: a motion fault. -/
theorem takeFault (s : State) (c : FaultCause) : RunOnly s (takeFault c s) := by
  unfold Machine.takeFault
  exact trans (trans (enterFaulted s c) (sequencerFault _)) (raise _ _ _ (by decide))

/-! ### What the sequencer takes -/

theorem placeNext (s : State) : RunOnly s (placeNext s).1 := by
  unfold Machine.placeNext
  dsimp only
  split
  · exact trans (setVertical s _) (setPhase _ _)
  · exact trans (setVertical s _) (setPhase _ _)

theorem markSkipped (s : State) (r : SkipReason) : RunOnly s (markSkipped r s).1 :=
  trans (setVertical s _) (setPhase _ _)

theorem judgeDepth (s : State) : RunOnly s (judgeDepth s).1 := by
  unfold Machine.judgeDepth
  split
  · exact markSkipped s _
  · exact trans (setVertical s _) (placeNext _)

theorem goOn (s : State) : RunOnly s (goOn s).1 := by
  unfold Machine.goOn
  dsimp only
  split
  · exact setRun s _
  · exact trans (setVertical s _) (setPhase _ _)

theorem takeArrived (s : State) (p : Int) : RunOnly s (takeArrived p s).1 := by
  unfold Machine.takeArrived
  dsimp only
  split
  · exact trans (trans (setVertical s _) (storeVertical _ _)) (goOn _)
  · split
    · exact trans (trans (setVertical s _) (storeVertical _ _)) (goOn _)
    · exact trans (setVertical s _) (setPhase _ _)

theorem beginExposure (s : State) : RunOnly s (beginExposure s) :=
  trans (setRun s _) (openExposureSpan _)

theorem takePointReady (s : State) (d : Int) (b : Bool) : RunOnly s (takePointReady d b s).1 :=
  trans (setVertical s _) (beginExposure _)

theorem sequencerTakes (c : Completion) (s : State) : RunOnly s (sequencerTakes c s).1 := by
  unfold Machine.sequencerTakes
  split
  · exact takeArrived s _
  · exact trans (setVertical s _) (judgeDepth _)
  · exact trans (setVertical s _) (judgeDepth _)
  · exact trans (setVertical s _) (markSkipped _ _)
  · exact takePointReady s _ _
  · exact trans (storeVertical s _) (goOn _)
  · exact completeRun s _
  · split
    · exact endAbortedReturn s _
    · exact refl s
  · exact refl s

/-! ### What the controller takes -/

theorem reachHome (s : State) : RunOnly s (reachHome s) := by
  unfold Machine.reachHome
  exact trans (setDrive s _) (setCable _ _)

theorem arrive (s : State) : RunOnly s (arrive s).1 := by
  unfold Machine.arrive
  exact trans (setDrive s _) (setCable _ _)

theorem arriveHome (s : State) : RunOnly s (arriveHome s).1 := by
  unfold Machine.arriveHome
  exact trans (setCable s _) (arrive _)

theorem driveToTarget (s : State) (n : Nat) : RunOnly s (driveToTarget n s).1 := by
  unfold Machine.driveToTarget
  split
  · exact arrive s
  · split
    · split
      · split
        · exact arriveHome s
        · exact trans (setDrive s _) (takeFault _ _)
      · exact setDrive s _
    · split
      · exact trans (setDrive s _) (takeFault _ _)
      · exact setDrive s _

theorem pursue (s : State) : RunOnly s (pursue s).1 := by
  unfold Machine.pursue
  split
  · split
    · exact setDrive s _
    · split
      · exact reachHome s
      · exact setDrive s _
  · split
    · exact setDrive s _
    · split
      · exact reachHome s
      · exact setDrive s _
  · split
    · exact setDrive s _
    · exact driveToTarget s _
  · exact refl s

theorem judgeDepthLimit (s : State) : RunOnly s (judgeDepthLimit s) := by
  unfold Machine.judgeDepthLimit
  split
  · exact takeFault s _
  · exact refl s

theorem enterHold (s : State) : RunOnly s (enterHold s) := by
  unfold Machine.enterHold
  exact trans (setDrive s _) (setCable _ _)

theorem enterSeek (s : State) : RunOnly s (enterSeek s) := by
  unfold Machine.enterSeek
  split
  · exact enterHold s
  · exact trans (trans (setMotion s _) (setDrive _ _)) (judgeDepthLimit _)

theorem surfaceFound (s : State) (m : SoundMode) : RunOnly s (surfaceFound m s).1 := by
  unfold Machine.surfaceFound
  cases m
  · exact trans (setCable s _) (enterSeek _)
  · exact trans (setCable s _) (setDrive _ _)

theorem beginSound (s : State) (m : SoundMode) : RunOnly s (beginSound m s) := trans (setCable s _) (setDrive _ _)

theorem takeSound (s : State) (m : SoundMode) : RunOnly s (takeSound m s).1 := by
  unfold Machine.takeSound
  dsimp only
  split
  · exact trans (beginSound s m) (surfaceFound _ _)
  · split
    · exact trans (beginSound s m) (takeFault _ _)
    · exact beginSound s m

theorem enterAtPoint (s : State) (b : Bool) : RunOnly s (enterAtPoint b s) := by
  unfold Machine.enterAtPoint
  exact trans (setDrive s _) (setCable _ _)

theorem takeToPoint (s : State) (n : Int) : RunOnly s (takeToPoint n s) := by
  unfold Machine.takeToPoint
  have h : RunOnly s (Machine.setMotion (.toPoint n) (s.setCable { s.cable with hold := none, settle := none })) :=
    trans (setCable s _) (setMotion _ _)
  dsimp only
  split
  · exact trans h (setDrive _ _)
  · split
    · exact trans h (enterAtPoint _ _)
    · split
      · split
        · exact trans h (enterAtPoint _ _)
        · exact trans h (trans (setDrive _ _) (judgeDepthLimit _))
      · exact trans h (setDrive _ _)

theorem endRaise (s : State) : RunOnly s (endRaise s).1 := by
  unfold Machine.endRaise
  exact trans (setDrive s _) (setCable _ _)

theorem stillCarriage (s : State) : RunOnly s (stillCarriage s) := by
  unfold Machine.stillCarriage
  exact trans (setDrive s _) (setCable _ _)

theorem beginRaise (s : State) : RunOnly s (beginRaise s).1 := by
  unfold Machine.beginRaise
  have h := trans (stillCarriage s) (setMotion _ .raising)
  dsimp only
  split
  · exact trans h (endRaise _)
  · exact trans h (setDrive _ _)

theorem beginRetract (s : State) : RunOnly s (beginRetract s).1 :=
  trans (trans (stillCarriage s) (setMotion _ _)) (pursue _)

theorem cablewayTakes (o : Order) (s : State) : RunOnly s (cablewayTakes o s).1 := by
  unfold Machine.cablewayTakes
  split <;> first
    | exact refl s
    | exact takeSound s _
    | exact takeToPoint s _
    | exact beginRaise s
    | exact beginRetract s
    | (split <;> first
        | exact refl s
        | exact takeToPoint s _
        | exact arrive s
        | exact trans (setMotion s _) (pursue _))

theorem settleOrders (n : Nat) (c : Option Completion) (s : State) : RunOnly s (settleOrders n c s) := by
  induction n generalizing c s with
  | zero => exact refl s
  | succ n ih =>
    cases c with
    | none => exact refl s
    | some c =>
      have h := sequencerTakes c s
      unfold Machine.settleOrders
      split
      · rename_i s' heq; rw [heq] at h; exact h
      · rename_i s' o heq; rw [heq] at h; exact trans (trans h (cablewayTakes o s')) (ih _ _)

/-- R112: a completion and all the orders that follow it. -/
theorem handCompletion (p : State × Option Completion) : RunOnly p.1 (handCompletion p) := settleOrders _ _ _

theorem handOrder (p : State × Option Order) : RunOnly p.1 (handOrder p) := by
  unfold Machine.handOrder
  split
  · exact refl _
  · exact trans (cablewayTakes _ _) (handCompletion _)

/-- R138: an abort, with the retract it orders. -/
theorem abortRun (s : State) (r : AbortReason) : RunOnly s (abortRun r s) := by
  unfold Machine.abortRun
  exact trans (trans (abortCore s r) (setRun _ _)) (handOrder (_, some .retract))

theorem judgeWithdraw (s : State) : RunOnly s (judgeWithdraw s) := by
  unfold Machine.judgeWithdraw
  split
  · exact abortRun s _
  · exact refl s

theorem judgeAutonomy (s : State) : RunOnly s (judgeAutonomy s) := by
  unfold Machine.judgeAutonomy
  split
  · exact abortRun s _
  · exact refl s

end RunOnly

end Sys2Proof.Machine
end

