-- ==== Sys2Proof/Laws/Faults.lean ====
section
/-! SUPPORT. What a RAISE leaves in the slots, and once and for all what taking a fault does (R119 to R121, R136,
R140). -/

namespace Sys2Proof.Machine

/-! ## The run, through the updates of other components -/

@[simp] theorem State.setRun_run (s : State) (x : Run) : (s.setRun x).run = x := rfl
@[simp] theorem State.setTime_run (s : State) (x : TimeBase) : (s.setTime x).run = s.run := rfl
@[simp] theorem raise_run (src : NoticeSource) (c : List Field) (s : State) : (raise src c s).run = s.run := by
  simp [State.run]
@[simp] theorem raise_now (src : NoticeSource) (c : List Field) (s : State) : (raise src c s).now = s.now := by
  simp [State.now]

/-! ## What a RAISE leaves in the slots (R148 to R152) -/

/-- A RAISE of a source with a slot, while a notice is on its way, fills that slot and does nothing else
(R148 to R152). -/
theorem raise_occupied (src : NoticeSource) (c : List Field) (s : State) (h : 3 < sourceNumber src)
    (hn : s.link.notice ≠ none) :
    raise src c s = s.setNotices
      { s.notices with slots := s.notices.slots.set (sourcePlace src) (some (raisedSlot src (slotOf s src) c)) } := by
  have hs : s.link.notice.isNone = false := by cases hx : s.link.notice <;> simp_all
  rw [raise_low src c s h]
  simp [fillSlot, dispatch, linkReady, State.setNotices, hs]

theorem raisedSlot_eq (src : NoticeSource) (c : List Field) (slot : Option Slot) (h : 3 < sourceNumber src) :
    raisedSlot src slot c = { content := c, merged := mergedNext slot } := by
  cases slot with
  | none => rfl
  | some x =>
    cases src <;> first | rfl | exact absurd h (by decide)

/-- What a RAISE fills is what `State.Told` says of it. -/
theorem told_raise (src : NoticeSource) (c : List Field) (s : State) (h : 3 < sourceNumber src) :
    s.Told (raise src c s) src c := by
  intro hn
  rw [raise_occupied src c s h hn, raisedSlot_eq src c _ h]
  simp only [State.setNotices, slotOf]
  simp

/-- A RAISE leaves the slot of every other source. -/
theorem untold_raise {src src' : NoticeSource} (c : List Field) (s : State) (h : 3 < sourceNumber src)
    (hne : src ≠ src') :
    s.Untold (raise src c s) src' := by
  intro hn
  rw [raise_occupied src c s h hn]
  simp only [State.setNotices]
  have : sourcePlace src ≠ sourcePlace src' := by
    revert hne; cases src <;> cases src' <;> first | (intro h; exact absurd rfl h) | (intro _; decide)
  simp only [Fin.getElem_fin]
  rw [Vector.getElem_set_ne]
  intro e; exact this (Fin.ext e)

theorem raise_link (src : NoticeSource) (c : List Field) (s : State) (h : 3 < sourceNumber src)
    (hn : s.link.notice ≠ none) : (raise src c s).link = s.link := by rw [raise_occupied src c s h hn]; rfl

/-! ## Abandoning an exposure, storing a vertical (R129, R135) -/

@[simp] theorem abandonExposure_cable (s : State) : (abandonExposure s).cable = s.cable := by
  unfold abandonExposure; split <;> rfl
@[simp] theorem abandonExposure_link (s : State) : (abandonExposure s).link = s.link := by
  unfold abandonExposure; split <;> rfl
@[simp] theorem abandonExposure_notices (s : State) : (abandonExposure s).notices = s.notices := by
  unfold abandonExposure; split <;> rfl
@[simp] theorem abandonExposure_plan (s : State) : (abandonExposure s).gauging.plan = s.gauging.plan := by
  unfold abandonExposure; split <;> rfl
@[simp] theorem abandonExposure_stage (s : State) : (abandonExposure s).stage = s.stage := by
  unfold abandonExposure; split <;> rfl
@[simp] theorem abandonExposure_now (s : State) : (abandonExposure s).now = s.now := by
  unfold abandonExposure; split <;> rfl
@[simp] theorem abandonExposure_station (s : State) : (abandonExposure s).time.stationTime = s.time.stationTime := by
  unfold abandonExposure; split <;> rfl
theorem abandonExposure_time (s : State) : (abandonExposure s).time
    = if s.run.exposure = none then s.time else { s.time with exposureSpan := none } := by
  unfold abandonExposure; split <;> simp [*, closeExposureSpan]
theorem abandonExposure_run (s : State) : (abandonExposure s).run = { s.run with exposure := none } := by
  unfold abandonExposure
  split
  · rename_i h; cases hr : s.run; simp_all
  · rfl

/-- R145: storing a vertical is one RAISE of RUN_PROGRESS with its content. -/
theorem storeVertical_eq_raise (k : Option SkipReason) (s : State) : storeVertical k s
    = raise .runProgress (s.progressOf (verticalResult s k) s.run.state)
        (s.setRun { s.run with verticals := s.run.verticals ++ [verticalResult s k] }) := by
  simp only [storeVertical]
  congr 1
  simp [runProgressContent, State.progressOf, timeField]

/-- R146: the content of RUN_END is that of the run alone. -/
theorem runEndContent_eq (s : State) : runEndContent s = endOf s.run := by
  simp only [runEndContent, endOf, countedVerticals, timeField, runFlagMask, runTimingRC]
  rcases s.run.outcome with _|(_|_|_) <;> simp

/-- R121: the content of MOTION_FAULT, from the state the fault is taken in. -/
theorem motionFaultContent_eq (s : State) (cause : FaultCause) (v : Option Nat) :
    motionFaultContent v (faultRecord cause s) =
      ([.code (faultCode cause), .code (motionCode s.cable.motion)]
        ++ optField (phaseCode s.cable.motion s.cable.switches.reelTop) .code
        ++ (match s.cable.drive with
          | none => [.count 0]
          | some d => [.count 1, .code (driveCode d)])
        ++ optInt 4 (positionMm s.cable) ++ optInt 4 (payoutMm s.cable) ++ optInt 4 (depthMm s.cable)
        ++ optNum 1 v
        ++ [.num 6 s.now] ++ optTime s.time.stationTime) := by
  simp only [motionFaultContent, faultFields, faultRecord, motionFields, outputFields, timeField]
  cases s.cable.drive <;> simp [listFields]

@[simp] theorem storeVertical_cable (k) (s : State) : (storeVertical k s).cable = s.cable := by
  simp [storeVertical_eq_raise]
@[simp] theorem storeVertical_time (k) (s : State) : (storeVertical k s).time = s.time := by
  simp [storeVertical_eq_raise]
@[simp] theorem storeVertical_stage (k) (s : State) : (storeVertical k s).stage = s.stage := by
  simp [storeVertical_eq_raise]
@[simp] theorem storeVertical_now (k) (s : State) : (storeVertical k s).now = s.now := by
  simp [storeVertical_eq_raise]
@[simp] theorem storeVertical_plan (k) (s : State) : (storeVertical k s).gauging.plan = s.gauging.plan := by
  simp [storeVertical_eq_raise]
theorem storeVertical_run (k) (s : State) : (storeVertical k s).run
    = { s.run with verticals := s.run.verticals ++ [verticalResult s k] } := by
  simp [storeVertical_eq_raise]
theorem storeVertical_link (k) (s : State) (hn : s.link.notice ≠ none) : (storeVertical k s).link = s.link := by
  rw [storeVertical_eq_raise, raise_link _ _ _ (by decide)]; rfl; exact hn

@[simp] theorem abortCore_cable (r : AbortReason) (s : State) : (abortCore r s).cable = s.cable := by
  unfold abortCore; dsimp only; split <;> simp
@[simp] theorem abortCore_plan (r : AbortReason) (s : State) : (abortCore r s).gauging.plan = s.gauging.plan := by
  unfold abortCore; dsimp only; split <;> simp
theorem abortCore_link (r : AbortReason) (s : State) (hn : s.link.notice ≠ none) : (abortCore r s).link = s.link := by
  unfold abortCore; dsimp only; split
  · simp
  · simp
  · simp; rw [storeVertical_link]; simp; simpa using hn

@[simp] theorem sequencerFault_cable (s : State) : (sequencerFault s).cable = s.cable := by
  unfold sequencerFault; split
  · simp [endAbortedReturn, raiseRunEnd]
  · simp [completeRun, raiseRunEnd]
  · split <;> simp [endAbortedReturn, raiseRunEnd]
  · rfl

theorem sequencerFault_link (s : State) (hn : s.link.notice ≠ none) : (sequencerFault s).link = s.link := by
  unfold sequencerFault; split
  · simp only [endAbortedReturn, raiseRunEnd]
    rw [raise_link _ _ _ (by decide)] <;> simp [abortCore_link _ _ hn, hn]
  · simp only [completeRun, raiseRunEnd]
    rw [raise_link _ _ _ (by decide)] <;> simp [hn]
  · split
    · simp only [endAbortedReturn, raiseRunEnd]
      rw [raise_link _ _ _ (by decide)] <;> simp [hn]
    · rfl
  · rfl

/-- What the sequencer does with a fault reaches the run, the exposure span and the notices alone. -/
theorem sequencerFault_keeps (s : State) :
    ((s.setGauging (sequencerFault s).gauging).setTime (sequencerFault s).time).Keeps (sequencerFault s) := by
  have r := RunOnly.sequencerFault s
  refine ⟨rfl, r.field, r.channels, r.stage, ?_, sequencerFault_cable s, rfl, r.supervisor, r.noticeSettings,
      r.hold, ?_, ?_, ?_, ?_, r.freeCount, r.pending⟩
  · rw [r.warning]; exact sameBut_refl _
  all_goals (rw [r.link]; rfl)

theorem raise_slot_ne {src src' : NoticeSource} (c : List Field) (s : State) (h : 3 < sourceNumber src)
    (hne : src ≠ src')
    (hn : s.link.notice ≠ none) :
    (raise src c s).notices.slots[sourcePlace src'] = s.notices.slots[sourcePlace src'] :=
  untold_raise c s h hne hn

theorem raise_slot {src : NoticeSource} (c : List Field) (s : State) (h : 3 < sourceNumber src)
    (hn : s.link.notice ≠ none) : (raise src c s).notices.slots[sourcePlace src] = some
    { content := c
      merged := mergedNext s.notices.slots[sourcePlace src] } :=
  told_raise src c s h hn

/-- R129, R136: aborting an ACTIVE run stores the vertical in hand past TRAVEL, with its RUN_PROGRESS, and
nothing before it. -/
theorem abortCore_active (s : State) (hn : s.link.notice ≠ none) :
  (s.run.phase = none ∨ s.run.phase = some .travel → (abortCore .motionFault s).run.verticals = s.run.verticals
      ∧ ∀ src, (abortCore .motionFault s).notices.slots[sourcePlace src] = s.notices.slots[sourcePlace src])
  ∧ (∀ p, s.run.phase = some p → p ≠ .travel → ∃ v : VerticalResult,
          (abortCore .motionFault s).run.verticals = s.run.verticals ++ [v]
          ∧ v.index = s.run.vertical.index ∧ v.depth = s.run.vertical.depth ∧ v.points = s.run.vertical.points
          ∧ v.mean = none ∧ v.skip = some (s.run.vertical.marked.getD .motionFault)
          ∧ s.Told (abortCore .motionFault s) .runProgress (s.progressOf v .aborted)
          ∧ (∀ src, src ≠ .runProgress →
            (abortCore .motionFault s).notices.slots[sourcePlace src] = s.notices.slots[sourcePlace src])) := by
  constructor
  · intro h
    unfold abortCore; dsimp only
    rcases h with h|h <;> simp [h, abandonExposure_run]
  · intro p hp hne
    refine ⟨verticalResult (abandonExposure (s.setRun { s.run with
      state := .aborted, reason := some .motionFault, vertical := { s.run.vertical with skipMark :=
          false } })) (some (s.run.vertical.marked.getD .motionFault)),
      ?_, ?_, ?_, ?_, ?_, ?_, ?_, ?_⟩
    · unfold abortCore; dsimp only; rw [hp]; cases p <;> simp_all [storeVertical_run, abandonExposure_run,
          skipOfAbort]
    · simp [verticalResult, abandonExposure_run]
    · simp [verticalResult, abandonExposure_run]
    · simp [verticalResult, abandonExposure_run]
    · simp [verticalResult]
    · simp [verticalResult]
    · intro hn'
      unfold abortCore; dsimp only; rw [hp]
      cases p <;> first | exact absurd rfl hne | skip
      all_goals
        simp only [State.setRun_notices, storeVertical_eq_raise, skipOfAbort]
        rw [raise_slot _ _ (by decide) (by simpa using hn)]
        simp [abandonExposure_run, State.progressOf, verticalResult]
    · intro src hsrc
      unfold abortCore; dsimp only; rw [hp]
      cases p <;> first | exact absurd rfl hne | skip
      all_goals
        simp only [State.setRun_notices, storeVertical_eq_raise]
        rw [raise_slot_ne _ _ (by decide) hsrc.symm (by simpa using hn)]
        simp

/-- Once and for all what taking a fault does: everything `State.Faults` says (R119 to R121, R136, R138, R140,
R145, R146). -/
theorem takeFault_faults (c : FaultCause) (s : State) : s.Faults (takeFault c s) c := by
  have hl : ∀ c, (enterFaulted c s).link = s.link := fun _ => rfl
  have main : ∀ c, s.link.notice ≠ none → ((enterFaulted c s)).link.notice ≠ none := fun _ h => h
  refine ⟨?_, ?_, ?_, ?_, ?_, ?_, ?_⟩
  · have k := sequencerFault_keeps (enterFaulted c s)
    have r := RunOnly.takeFault s c
    refine ⟨rfl, r.field, r.channels, r.stage, ?_, rfl, rfl, r.supervisor, r.noticeSettings, r.hold, ?_, ?_, ?_,
        ?_, r.freeCount, r.pending⟩
    · rw [r.warning]; exact sameBut_refl _
    all_goals (rw [r.link]; rfl)
  · simp [takeFault, enterFaulted, faultRecord]
  · intro hn
    simp only [takeFault]
    rw [raise_slot _ _ (by decide) (by rw [sequencerFault_link _ (main c hn)]; exact hn), motionFaultContent_eq]
    have : (sequencerFault (enterFaulted c s)).notices.slots[sourcePlace .motionFault] =
        s.notices.slots[sourcePlace .motionFault] := by
      unfold sequencerFault
      split
      · simp only [endAbortedReturn, raiseRunEnd]
        rw [raise_slot_ne _ _ (by decide) (by decide) (by simp [abortCore_link _ _ (main c hn)]; exact hn)]
        simp only [State.setRun_notices]
        have q := abortCore_active (enterFaulted c s) (main c hn)
        rcases hp : (enterFaulted c s).run.phase with _|p
        · exact (q.1 (.inl hp)).2 _
        · by_cases h : p = .travel
          · exact (q.1 (.inr (h ▸ hp))).2 _
          · obtain ⟨v, -, -, -, -, -, -, -, h⟩ := q.2 p hp h
            exact h _ (by decide)
      · simp only [completeRun, raiseRunEnd]
        rw [raise_slot_ne _ _ (by decide) (by decide) (by simpa using main c hn)]; rfl
      · split
        · simp only [endAbortedReturn, raiseRunEnd]
          rw [raise_slot_ne _ _ (by decide) (by decide) (by simpa using main c hn)]; rfl
        · rfl
      · rfl
    rw [this]
    simp [runActive]
    all_goals cases s.cable.drive <;> rfl
  · intro ha
    have ha' : (enterFaulted c s).run.state = .active := ha
    have hrun : (takeFault c s).run
        = { (abortCore .motionFault (enterFaulted c s)).run with outcome := some .faulted } := by
      simp [takeFault, sequencerFault, ha', endAbortedReturn, raiseRunEnd]
    have htime : (takeFault c s).time = (abortCore .motionFault (enterFaulted c s)).time := by
      simp [takeFault, sequencerFault, ha', endAbortedReturn, raiseRunEnd]
    have hplan : (takeFault c s).gauging.plan = s.gauging.plan := (RunOnly.takeFault s c).plan
    have hnot : ∀ src, src ≠ .motionFault → src ≠ .runEnd → s.link.notice ≠ none →
        (takeFault c s).notices.slots[sourcePlace src]
          = (abortCore .motionFault (enterFaulted c s)).notices.slots[sourcePlace src] := by
      intro src h1 h2 hn
      simp only [takeFault]
      rw [raise_slot_ne _ _ (by decide) h1.symm (by rw [sequencerFault_link _ (main c hn)]; exact hn)]
      simp only [sequencerFault, ha', endAbortedReturn, raiseRunEnd]
      rw [raise_slot_ne _ _ (by decide) h2.symm (by simp [abortCore_link _ _ (main c hn)]; exact hn)]
      rfl
    refine ⟨hplan, ?_, ?_, ?_, ?_, ?_, ?_, ?_, ?_, ?_, ?_, ?_⟩
    · rw [hrun]; unfold abortCore; dsimp only; split <;> simp [abandonExposure_run, storeVertical_run]
    · rw [hrun]; unfold abortCore; dsimp only; split <;> simp [abandonExposure_run, storeVertical_run]
    · rw [hrun]
    · rw [hrun]; unfold abortCore; dsimp only; split <;> simp [abandonExposure_run, storeVertical_run]
    · rw [hrun]; unfold abortCore; dsimp only; split <;> simp [abandonExposure_run, storeVertical_run]
    · rw [hrun]; unfold abortCore; dsimp only; split <;> simp [abandonExposure_run, storeVertical_run] <;> rfl
    · rw [hrun]; unfold abortCore; dsimp only; split <;> simp [abandonExposure_run, storeVertical_run,
          presentMoment] <;> exact ⟨rfl, rfl, rfl, rfl⟩
    · rw [htime]; unfold abortCore; dsimp only; split <;> simp [abandonExposure_time] <;> rfl
    · intro hp
      refine ⟨?_, ?_⟩
      · rw [hrun]; unfold abortCore; dsimp only
        have hp' : (enterFaulted c s).run.phase = none ∨ (enterFaulted c s).run.phase = some .travel := hp
        rcases hp' with h|h <;> simp [h, abandonExposure_run] <;> rfl
      · intro hn
        rw [hnot _ (by decide) (by decide) hn]
        exact ((abortCore_active (enterFaulted c s) (main c hn)).1 hp).2 _
    · intro p hp hne
      have hp' : (enterFaulted c s).run.phase = some p := hp
      refine ⟨verticalResult (abandonExposure ((enterFaulted c s).setRun { s.run with
        state := .aborted, reason := some .motionFault, vertical := { s.run.vertical with skipMark :=
            false } })) (some (s.run.vertical.marked.getD .motionFault)),
        ?_, ?_, ?_, ?_, ?_, ?_, ?_⟩
      · rw [hrun]; unfold abortCore; dsimp only; rw [hp']; cases p <;> simp_all [storeVertical_run,
            abandonExposure_run, skipOfAbort] <;> exact ⟨rfl, rfl⟩
      · simp [verticalResult, abandonExposure_run]
      · simp [verticalResult, abandonExposure_run]
      · simp [verticalResult, abandonExposure_run]
      · simp [verticalResult]
      · simp [verticalResult]
      · intro hn'
        rw [hnot _ (by decide) (by decide) hn']
        unfold abortCore; dsimp only; rw [hp']
        cases p <;> first | exact absurd rfl hne | skip
        all_goals
          simp only [State.setRun_notices, storeVertical_eq_raise, skipOfAbort]
          rw [raise_slot _ _ (by decide) (by simpa using main c hn')]
          simp [abandonExposure_run, State.progressOf, verticalResult]
          first | rfl | exact ⟨⟨rfl, rfl, rfl⟩, rfl⟩
    · intro hn
      have e : endOf (takeFault c s).run = runEndContent ((abortCore .motionFault (enterFaulted c s)).setRun
          { (abortCore .motionFault (enterFaulted c s)).run with outcome := some .faulted }) := by
        rw [runEndContent_eq, hrun]; rfl
      rw [e]
      simp only [takeFault]
      rw [raise_slot_ne _ _ (by decide) (by decide) (by rw [sequencerFault_link _ (main c hn)]; exact hn)]
      simp only [sequencerFault, ha', endAbortedReturn, raiseRunEnd]
      rw [raise_slot _ _ (by decide) (by simp [abortCore_link _ _ (main c hn)]; exact hn)]
      congr 2
      simp only [State.setRun_notices]
      congr 1
      have q := abortCore_active (enterFaulted c s) (main c hn)
      rcases hp : (enterFaulted c s).run.phase with _|p
      · exact (q.1 (.inl hp)).2 _
      · by_cases h : p = .travel
        · exact (q.1 (.inr (h ▸ hp))).2 _
        · obtain ⟨v, -, -, -, -, -, -, -, h⟩ := q.2 p hp h
          exact h _ (by decide)
  · intro ha
    have ha' : (enterFaulted c s).run.state = .returning := ha
    have hr : (takeFault c s).run = { s.run with
        state := .complete, outcome := some .faulted, finish := some (presentMoment s)
        results := (takeFault c s).run.results, tooFew := (takeFault c s).run.tooFew
        stageChanging := (takeFault c s).run.stageChanging } := by
      simp [takeFault, sequencerFault, ha', completeRun, raiseRunEnd]
      exact ⟨rfl, rfl, rfl, rfl, rfl, rfl, rfl⟩
    refine ⟨?_, by rw [hr], by rw [hr], by rw [hr], by rw [hr]; rfl, ?_⟩
    · simp [takeFault, sequencerFault, ha', completeRun, raiseRunEnd]; rfl
    · intro hn
      simp only [takeFault]
      rw [raise_slot_ne _ _ (by decide) (by decide) (by rw [sequencerFault_link _ (main c hn)]; exact hn)]
      simp only [sequencerFault, ha', completeRun, raiseRunEnd, raise_run]
      rw [raise_slot _ _ (by decide) (by simpa using main c hn), runEndContent_eq]
      rfl
  · intro ha ho
    have ha' : (enterFaulted c s).run.state = .aborted := ha
    have ho' : (enterFaulted c s).run.outcome = some .inProgress := ho
    refine ⟨?_, ?_, ?_⟩
    · simp [takeFault, sequencerFault, ha', ho', endAbortedReturn, raiseRunEnd]; rfl
    · simp [takeFault, sequencerFault, ha', ho', endAbortedReturn, raiseRunEnd]
      rw [ha]; rfl
    · intro hn
      simp only [takeFault]
      rw [raise_slot_ne _ _ (by decide) (by decide) (by rw [sequencerFault_link _ (main c hn)]; exact hn)]
      simp only [sequencerFault, ha', ho', if_true, endAbortedReturn, raiseRunEnd, raise_run]
      rw [raise_slot _ _ (by decide) (by simpa using main c hn), runEndContent_eq]
      rfl
  · intro h
    have e : sequencerFault (enterFaulted c s) = enterFaulted c s := by
      unfold sequencerFault
      rcases h with h|h|⟨h,h'⟩
      · have : (enterFaulted c s).run.state = .idle := h
        simp [this]
      · have : (enterFaulted c s).run.state = .complete := h
        simp [this]
      · have : (enterFaulted c s).run.state = .aborted := h
        have : (enterFaulted c s).run.outcome ≠ some .inProgress := h'
        simp [*]
    refine ⟨?_, ?_, ?_⟩
    · simp [takeFault, e]; rfl
    · simp [takeFault, e]; rfl
    · intro hn
      simp only [takeFault, e]
      rw [raise_slot_ne _ _ (by decide) (by decide) (main c hn)]; rfl

end Sys2Proof.Machine
end

