-- ==== Sys2Proof/Laws/Levels.lean ====
section
/-! SUPPORT. What a level change and the hand-overs of stage and rate can do to the rest of the machine (R69, R77, R85,
R91), and that the level is computed at their end (R89). -/

namespace Sys2Proof.Machine

/-- From `s` to `t` only what a level change reaches has changed: the level, the rate rules and the rate input, the
siren, the beacons, the spell and the monitor; the ring and its counters; the transmitter's choice; the carriage and
the run record; notices; the marks of the spans; and, in quiet mode alone, the supervisor. -/
structure LevelOnly (s t : State) : Prop where
  time : t.time = { s.time with stepPending := t.time.stepPending, recordMark := t.time.recordMark
                                exposureSpan := t.time.exposureSpan }
  field : t.field = { s.field with tx := t.field.tx, transaction := t.field.transaction
                                   deferral := t.field.deferral, management := t.field.management
                                   warn := t.field.warn }
  channels : t.channels = s.channels
  stage : t.stage = { s.stage with ring := t.stage.ring, nextSequence := t.stage.nextSequence
                                   waiting := t.stage.waiting, rate := t.stage.rate
                                   warmRestart := t.stage.warmRestart }
  definitions : ∀ i : Fin 8, t.warning.rules[i].definition = s.warning.rules[i].definition
  stageRules : ∀ i : Fin 8, s.warning.rules[i].definition.kind = .stage → t.warning.rules[i] = s.warning.rules[i]
  disabled : ∀ i : Fin 8, s.warning.rules[i].definition.enable = false → t.warning.rules[i] = s.warning.rules[i]
  floor : t.warning.floor = s.warning.floor
  stageInput : t.warning.stageInput = s.warning.stageInput
  warningSettings : t.warning.settings = s.warning.settings
  monitorSettings : t.warning.monitorSettings = s.warning.monitorSettings
  autonomous : t.warning.autonomous = s.warning.autonomous
  settings : t.cable.settings = s.cable.settings
  switches : t.cable.switches = s.cable.switches
  plan : t.gauging.plan = s.gauging.plan
  rating : t.gauging.rating = s.gauging.rating
  noticeSettings : t.notices.settings = s.notices.settings
  hold : t.notices.hold = s.notices.hold
  link : t.link = { s.link with notice := t.link.notice, line := t.link.line }
  supervisor : s.supervisor.quiet ≠ .quiet → t.supervisor = s.supervisor
  freeCount : t.freeCount = s.freeCount
  pending : t.pending = s.pending

namespace LevelOnly

theorem refl (s : State) : LevelOnly s s where
  time := rfl
  field := rfl
  channels := rfl
  stage := rfl
  definitions _ := rfl
  stageRules _ _ := rfl
  disabled _ _ := rfl
  floor := rfl
  stageInput := rfl
  warningSettings := rfl
  monitorSettings := rfl
  autonomous := rfl
  settings := rfl
  switches := rfl
  plan := rfl
  rating := rfl
  noticeSettings := rfl
  hold := rfl
  link := rfl
  supervisor _ := rfl
  freeCount := rfl
  pending := rfl

theorem trans {a b c : State} (h : LevelOnly a b) (k : LevelOnly b c) : LevelOnly a c where
  time := by rw [k.time, h.time]
  field := by rw [k.field, h.field]
  channels := k.channels.trans h.channels
  stage := by rw [k.stage, h.stage]
  definitions i := (k.definitions i).trans (h.definitions i)
  stageRules i x := (k.stageRules i (by rw [h.definitions i]; exact x)).trans (h.stageRules i x)
  disabled i x := (k.disabled i (by rw [h.definitions i]; exact x)).trans (h.disabled i x)
  floor := k.floor.trans h.floor
  stageInput := k.stageInput.trans h.stageInput
  warningSettings := k.warningSettings.trans h.warningSettings
  monitorSettings := k.monitorSettings.trans h.monitorSettings
  autonomous := k.autonomous.trans h.autonomous
  settings := k.settings.trans h.settings
  switches := k.switches.trans h.switches
  plan := k.plan.trans h.plan
  rating := k.rating.trans h.rating
  noticeSettings := k.noticeSettings.trans h.noticeSettings
  hold := k.hold.trans h.hold
  link := by rw [k.link, h.link]
  supervisor x := by rw [k.supervisor (by rw [h.supervisor x]; exact x), h.supervisor x]
  freeCount := k.freeCount.trans h.freeCount
  pending := k.pending.trans h.pending

/-- Orders and their completions are within a level change's reach (R91, step 7). -/
theorem ofRunOnly {s t : State} (h : RunOnly s t) : LevelOnly s t where
  time := by rw [h.time]
  field := by rw [h.field]
  channels := h.channels
  stage := by rw [h.stage]
  definitions _ := by rw [h.warning]
  stageRules _ _ := by rw [h.warning]
  disabled _ _ := by rw [h.warning]
  floor := by rw [h.warning]
  stageInput := by rw [h.warning]
  warningSettings := by rw [h.warning]
  monitorSettings := by rw [h.warning]
  autonomous := by rw [h.warning]
  settings := h.settings
  switches := h.switches
  plan := h.plan
  rating := h.rating
  noticeSettings := h.noticeSettings
  hold := h.hold
  link := h.link
  supervisor _ := h.supervisor
  freeCount := h.freeCount
  pending := h.pending

/-- A change of the transmitter's choice (R28, R39). -/
theorem setField (s : State) (x : FieldLine)
    (h : x = { s.field with tx := x.tx, transaction := x.transaction, deferral := x.deferral
                            management := x.management, warn := x.warn } := by rfl) : LevelOnly s (s.setField x) :=
  { refl s with field := h }

/-- A change of what a level change reaches in the warning unit. -/
theorem setWarning (s : State) (x : WarningUnit)
    (h : x = { s.warning with level := x.level, lastChange := x.lastChange, beaconA := x.beaconA
                              beaconB := x.beaconB, siren := x.siren, spell := x.spell
                              monitor := x.monitor } := by rfl) : LevelOnly s (s.setWarning x) where
  time := rfl
  field := rfl
  channels := rfl
  stage := rfl
  definitions _ := by rw [h]; rfl
  stageRules _ _ := by rw [h]; rfl
  disabled _ _ := by rw [h]; rfl
  floor := by rw [h]; rfl
  stageInput := by rw [h]; rfl
  warningSettings := by rw [h]; rfl
  monitorSettings := by rw [h]; rfl
  autonomous := by rw [h]; rfl
  settings := rfl
  switches := rfl
  plan := rfl
  rating := rfl
  noticeSettings := rfl
  hold := rfl
  link := rfl
  supervisor _ := rfl
  freeCount := rfl
  pending := rfl

theorem chooseTransaction (s : State) (k : TxKind) (f : FieldFrame) : LevelOnly s (chooseTransaction k f s) :=
  setField s _

theorem arbitrate (s : State) : LevelOnly s (arbitrate s) := by
  unfold Machine.arbitrate
  split
  · split
    · exact trans (setField s _) (chooseTransaction _ _ _)
    · split
      · exact trans (setField s _) (chooseTransaction _ _ _)
      · split
        · exact chooseTransaction s _ _
        · exact refl s
  · exact refl s

theorem requestWarn (s : State) : LevelOnly s (requestWarn s) := trans (setField s _) (arbitrate _)

theorem fillSlot (s : State) (src : NoticeSource) (c : List Field) : LevelOnly s (fillSlot src c s) :=
  ofRunOnly (RunOnly.fillSlot s src c)

theorem monitorWoken (s : State) : LevelOnly s (monitorWoken s) := by
  unfold Machine.monitorWoken
  split
  · exact setWarning s _
  · exact refl s

theorem wake (s : State) (r : WakeReason) : LevelOnly s (wake r s) := by
  unfold Machine.wake
  split
  · rename_i h
    refine trans (trans ?_ (fillSlot _ _ _)) (monitorWoken _)
    exact { refl s with supervisor := fun x => absurd h.1 x }
  · exact refl s

theorem raise (s : State) (src : NoticeSource) (c : List Field) : LevelOnly s (raise src c s) := by
  unfold Machine.raise
  dsimp only
  split
  · exact trans (fillSlot s _ _) (wake _ _)
  · exact fillSlot s _ _

theorem setSiren (s : State) (x : Siren) : LevelOnly s (setSiren x s) := setWarning s _

theorem startSiren (s : State) : LevelOnly s (startSiren s) := trans (setWarning s _) (requestWarn _)

theorem stopSiren (s : State) (x : Siren) : LevelOnly s (stopSiren x s) := trans (setSiren s x) (requestWarn _)

theorem silenceSiren (s : State) : LevelOnly s (silenceSiren s) := by
  unfold Machine.silenceSiren
  split
  · exact stopSiren s _
  · exact setSiren s _

theorem judgeSiren (s : State) (old new : Nat) : LevelOnly s (judgeSiren old new s) := by
  unfold Machine.judgeSiren
  split
  · exact silenceSiren s
  · split
    · split
      · exact setSiren s _
      · exact startSiren s
    · exact refl s

theorem placeLevel (s : State) (c : LevelCause) (n : Nat) : LevelOnly s (placeLevel c n s) := setWarning s _

theorem raiseSpell (s : State) (n : Nat) : LevelOnly s (raiseSpell n s) := by
  unfold Machine.raiseSpell
  split
  · exact setWarning s _
  · exact refl s

theorem judgeWithdraw (s : State) : LevelOnly s (judgeWithdraw s) := ofRunOnly (RunOnly.judgeWithdraw s)

/-- R91: a level change whose event record is asked for in a way that keeps within this reach. -/
theorem changeLevel (ask : State → State) (ha : ∀ s, LevelOnly s (ask s)) (s : State) (c : LevelCause) (n : Nat) :
    LevelOnly s (changeLevel ask c n s) := by
  unfold Machine.changeLevel
  dsimp only
  refine trans ?_ (wake _ _)
  refine trans ?_ (judgeWithdraw _)
  refine trans ?_ (requestWarn _)
  refine trans ?_ (ha _)
  refine trans ?_ (raise _ _ _)
  exact trans (trans (placeLevel s c n) (judgeSiren _ _ _)) (raiseSpell _ _)

theorem recompute (ask : State → State) (ha : ∀ s, LevelOnly s (ask s)) (before : Vector Rule 8)
    (forced : Option LevelCause) (s : State) : LevelOnly s (recompute ask before forced s) := by
  unfold Machine.recompute
  dsimp only
  split
  · exact refl s
  · exact changeLevel ask ha s _ _

theorem reportBlind (s : State) (b : Bool) : LevelOnly s (reportBlind b s) := by
  unfold Machine.reportBlind
  split
  · exact raise s _ _
  · exact refl s

/-- R85: a hand-over's rules before the level is computed: only enabled rules of its kind are judged. -/
theorem handRules_get (kind : RuleKind) (now : Nat) (input : Option Int) (rules : Vector Rule 8) (i : Fin 8) :
    (handRules kind now input rules)[i]
      = if watches kind rules[i] then handRule now input rules[i] else rules[i] := by
  unfold handRules; exact mapTable_get _ _ _

theorem ruleStep_definition (now : Nat) (v : Int) (r : Rule) : (ruleStep now v r).definition = r.definition := by
  unfold ruleStep moveRule
  cases r.state <;> dsimp only <;> (repeat' split) <;> rfl

/-- R86: judging keeps the definition. -/
theorem handRule_definition (now : Nat) (input : Option Int) (r : Rule) :
    (handRule now input r).definition = r.definition := by
  cases input with
  | none => rfl
  | some v => exact ruleStep_definition _ _ _

/-- R77, R85: a rate handed over. -/
theorem handRateInput (ask : State → State) (ha : ∀ s, LevelOnly s (ask s)) (rate : Option Int) (s : State) :
    LevelOnly s (handInput ask .rate rate s) := by
  unfold handInput
  dsimp only
  refine trans ?_ (reportBlind _ _)
  refine trans ?_ (recompute ask ha _ _ _)
  refine { refl s with definitions := ?_, stageRules := ?_, disabled := ?_, .. }
  · intro i
    simp only [State.setWarning, handRules_get]
    split
    · exact handRule_definition _ _ _
    · rfl
  · intro i h
    simp only [State.setWarning, handRules_get]
    rw [if_neg (by unfold watches; rw [h]; simp)]
  · intro i h
    simp only [State.setWarning, handRules_get]
    rw [if_neg (by unfold watches; rw [h]; simp)]

theorem handRate (ask : State → State) (ha : ∀ s, LevelOnly s (ask s)) (rate : Option Int) (s : State) :
    LevelOnly s (handRate ask rate s) := by
  unfold Machine.handRate
  dsimp only
  split
  · exact trans (handRateInput ask ha _ s) (wake _ _)
  · exact handRateInput ask ha _ s

theorem queueAppend (s : State) (k : Append) : LevelOnly s (queueAppend k s) := { refl s with stage := rfl }

/-- R77: an event record. -/
theorem appendEvent (s : State) : LevelOnly s (append .event s) := by
  unfold Machine.append
  dsimp only
  refine trans ?_ (handRate _ (fun x => queueAppend x .event) _ _)
  exact { refl s with time := rfl, stage := rfl }

/-- R73: the event record a level change asks for. -/
theorem askEvent (s : State) : LevelOnly s (askEvent s) := by
  unfold Machine.askEvent requestAppend
  split
  · exact appendEvent s
  · exact queueAppend s _

end LevelOnly

/-! ## The level at the end (R89) -/

/-- What decides whether the level is held: the level, the floor and the rules are as they were. -/
theorem levelHeld_of_same {s t : State} (h : s.LevelHeld) (l : t.warning.level = s.warning.level)
    (f : t.warning.floor = s.warning.floor) (r : t.warning.rules = s.warning.rules) : t.LevelHeld := by
  unfold State.LevelHeld computedLevel at *; rw [l, f, r]; exact h

theorem levelHeld_ofWarning {s t : State} (h : s.LevelHeld) (w : t.warning = s.warning) : t.LevelHeld := by
  unfold State.LevelHeld at *; rw [w]; exact h

theorem sameBut_level {a b : WarningUnit} (h : sameBut a b) : b.level = a.level ∧ b.floor = a.floor ∧ b.rules = a.rules := by
  unfold sameBut at h; rw [← h]; exact ⟨rfl, rfl, rfl⟩

theorem levelHeld_sameBut {s t : State} (h : s.LevelHeld) (k : sameBut s.warning t.warning) : t.LevelHeld :=
  have := sameBut_level k
  levelHeld_of_same h this.1 this.2.1 this.2.2

/-- The three parts on which R89 rests stay as they are under a siren's start or stop. -/
theorem judgeSiren_level (old new : Nat) (s : State) :
    (judgeSiren old new s).warning.level = s.warning.level
      ∧ (judgeSiren old new s).warning.floor = s.warning.floor
      ∧ (judgeSiren old new s).warning.rules = s.warning.rules := by
  unfold judgeSiren silenceSiren
  split
  · split <;> simp [stopSiren, setSiren]
  · split
    · split <;> simp [startSiren, setSiren]
    · simp

/-- R91: after a level change to the computed level, the level is held, when asking for the event record holds it. -/
theorem changeLevel_held (ask : State → State) (ha : ∀ x : State, x.LevelHeld → (ask x).LevelHeld) (s : State)
    (c : LevelCause) (n : Nat) (h : n = computedLevel s.warning) : (changeLevel ask c n s).LevelHeld := by
  have j := judgeSiren_level s.warning.level n (placeLevel c n s)
  have p : (placeLevel c n s).LevelHeld := by
    simp only [State.LevelHeld, placeLevel, State.setWarning, computedLevel] at *; exact h
  have q := levelHeld_of_same p j.1 j.2.1 j.2.2
  have told : (raiseSpell n (judgeSiren s.warning.level n (placeLevel c n s))).LevelHeld := by
    unfold raiseSpell
    split
    · exact q
    · exact q
  unfold changeLevel
  dsimp only
  have warned := levelHeld_sameBut told (raise_warning .warning
    (warningContent s.warning.level n c (raiseSpell n (judgeSiren s.warning.level n (placeLevel c n s)))) _)
  have asked := levelHeld_ofWarning (ha _ warned) (requestWarn_warning _)
  have withdrawn := levelHeld_ofWarning asked (RunOnly.judgeWithdraw _).warning
  exact levelHeld_sameBut withdrawn (wake_warning _ _)

/-- R89: whenever the level is computed, it is held afterwards. -/
theorem recompute_held (ask : State → State) (ha : ∀ x : State, x.LevelHeld → (ask x).LevelHeld)
    (before : Vector Rule 8) (forced : Option LevelCause) (s : State) : (recompute ask before forced s).LevelHeld := by
  unfold recompute
  dsimp only
  split
  · rename_i h; exact h.symm
  · exact changeLevel_held ask ha s _ _ rfl

theorem handInput_held (ask : State → State) (ha : ∀ x : State, x.LevelHeld → (ask x).LevelHeld) (kind : RuleKind)
    (input : Option Int) (s : State) : (handInput ask kind input s).LevelHeld := by
  unfold handInput reportBlind
  dsimp only
  split
  · exact levelHeld_sameBut (recompute_held ask ha _ _ _) (raise_warning _ _ _)
  · exact recompute_held ask ha _ _ _

theorem handRate_held (ask : State → State) (ha : ∀ x : State, x.LevelHeld → (ask x).LevelHeld) (rate : Option Int)
    (s : State) : (handRate ask rate s).LevelHeld := by
  unfold handRate
  dsimp only
  split
  · exact levelHeld_sameBut (handInput_held ask ha _ _ s) (wake_warning _ _)
  · exact handInput_held ask ha _ _ s

/-- R77: an append ends with the level computed. -/
theorem append_held (k : Append) (s : State) : (append k s).LevelHeld := by
  unfold append
  dsimp only
  exact handRate_held (queueAppend .event) (fun _ h => h) _ _

theorem requestAppend_held (k : Append) (s : State) (h : s.LevelHeld) : (requestAppend k s).LevelHeld := by
  unfold requestAppend
  split
  · exact append_held k s
  · exact h

theorem askEvent_held (s : State) (h : s.LevelHeld) : (askEvent s).LevelHeld := requestAppend_held _ s h

end Sys2Proof.Machine
end

