-- ==== Sys2Proof/Laws/River.lean ====
section
/-! SUPPORT. What the votes and the events at a channel can do to the rest of the machine (R47, R60, R65, R69, R72, R79): a
vote's results, what a stage update makes of the rules, and within these what a level change reaches. -/

namespace Sys2Proof.Machine

/-- From `s` to `t` only what a vote and its stage update reach has changed. -/
structure VoteOnly (s t : State) : Prop where
  time : t.time = { s.time with stepPending := t.time.stepPending, recordMark := t.time.recordMark
                                exposureSpan := t.time.exposureSpan }
  field : t.field = { s.field with tx := t.field.tx, transaction := t.field.transaction
                                   deferral := t.field.deferral, management := t.field.management
                                   warn := t.field.warn }
  channels : t.channels = s.channels
  stageSettings : t.stage.settings = s.stage.settings
  items : t.stage.items = s.stage.items
  recordExpiry : t.stage.recordExpiry = s.stage.recordExpiry
  definitions : ∀ i : Fin 8, t.warning.rules[i].definition = s.warning.rules[i].definition
  disabled : ∀ i : Fin 8, s.warning.rules[i].definition.enable = false → t.warning.rules[i] = s.warning.rules[i]
  floor : t.warning.floor = s.warning.floor
  warningSettings : t.warning.settings = s.warning.settings
  monitorSettings : t.warning.monitorSettings = s.warning.monitorSettings
  autonomous : t.warning.autonomous = s.warning.autonomous
  settings : t.cable.settings = s.cable.settings
  switches : t.cable.switches = s.cable.switches
  plan : t.gauging.plan = s.gauging.plan
  rating : t.gauging.rating = s.gauging.rating
  noticeSettings : t.notices.settings = s.notices.settings
  hold : t.notices.hold = s.notices.hold
  link : t.link = { s.link with notice := t.link.notice, line := t.link.line }
  supervisor : s.supervisor.quiet ≠ .quiet → t.supervisor = s.supervisor
  freeCount : t.freeCount = s.freeCount
  pending : t.pending = s.pending

namespace VoteOnly

theorem trans {a b c : State} (h : VoteOnly a b) (k : VoteOnly b c) : VoteOnly a c where
  time := by rw [k.time, h.time]
  field := by rw [k.field, h.field]
  channels := k.channels.trans h.channels
  stageSettings := k.stageSettings.trans h.stageSettings
  items := k.items.trans h.items
  recordExpiry := k.recordExpiry.trans h.recordExpiry
  definitions i := (k.definitions i).trans (h.definitions i)
  disabled i x := (k.disabled i (by rw [h.definitions i]; exact x)).trans (h.disabled i x)
  floor := k.floor.trans h.floor
  warningSettings := k.warningSettings.trans h.warningSettings
  monitorSettings := k.monitorSettings.trans h.monitorSettings
  autonomous := k.autonomous.trans h.autonomous
  settings := k.settings.trans h.settings
  switches := k.switches.trans h.switches
  plan := k.plan.trans h.plan
  rating := k.rating.trans h.rating
  noticeSettings := k.noticeSettings.trans h.noticeSettings
  hold := k.hold.trans h.hold
  link := by rw [k.link, h.link]
  supervisor x := by rw [k.supervisor (by rw [h.supervisor x]; exact x), h.supervisor x]
  freeCount := k.freeCount.trans h.freeCount
  pending := k.pending.trans h.pending

theorem ofLevelOnly {s t : State} (h : LevelOnly s t) : VoteOnly s t where
  time := h.time
  field := h.field
  channels := h.channels
  stageSettings := by rw [h.stage]
  items := by rw [h.stage]
  recordExpiry := by rw [h.stage]
  definitions := h.definitions
  disabled := h.disabled
  floor := h.floor
  warningSettings := h.warningSettings
  monitorSettings := h.monitorSettings
  autonomous := h.autonomous
  settings := h.settings
  switches := h.switches
  plan := h.plan
  rating := h.rating
  noticeSettings := h.noticeSettings
  hold := h.hold
  link := h.link
  supervisor := h.supervisor
  freeCount := h.freeCount
  pending := h.pending

theorem refl (s : State) : VoteOnly s s := ofLevelOnly (LevelOnly.refl s)

/-- A vote's results (R65 to R68, R70). -/
theorem setStage (s : State) (x : StageUnit) (a : x.settings = s.stage.settings := by rfl)
    (b : x.items = s.stage.items := by rfl) (c : x.recordExpiry = s.stage.recordExpiry := by rfl) :
    VoteOnly s (s.setStage x) := { refl s with stageSettings := a, items := b, recordExpiry := c }

/-- R85: any input handed over. -/
theorem handInput (ask : State → State) (ha : ∀ s, LevelOnly s (ask s)) (kind : RuleKind) (input : Option Int)
    (s : State) : VoteOnly s (handInput ask kind input s) := by
  unfold Machine.handInput
  dsimp only
  refine trans ?_ (ofLevelOnly (LevelOnly.reportBlind _ _))
  refine trans ?_ (ofLevelOnly (LevelOnly.recompute ask ha _ _ _))
  refine { refl s with definitions := ?_, disabled := ?_, floor := ?_, warningSettings := ?_,
                       monitorSettings := ?_, autonomous := ?_ }
  · intro i
    simp only [State.setWarning, LevelOnly.handRules_get]
    split
    · exact LevelOnly.handRule_definition _ _ _
    · rfl
  · intro i h
    simp only [State.setWarning, LevelOnly.handRules_get]
    rw [if_neg (by unfold watches; rw [h]; simp)]
  all_goals cases kind <;> rfl

theorem handStage (ask : State → State) (ha : ∀ s, LevelOnly s (ask s)) (stage : Option Int) (s : State) :
    VoteOnly s (handStage ask stage s) := by
  unfold Machine.handStage
  dsimp only
  split
  · exact trans (handInput ask ha _ _ s) (ofLevelOnly (LevelOnly.wake _ _))
  · exact handInput ask ha _ _ s

/-- R69: what a vote hands on. -/
theorem handVote (before : StageUnit) (s : State) : VoteOnly s (handVote before s) := by
  unfold Machine.handVote
  dsimp only
  split
  · refine trans ?_ (ofLevelOnly (LevelOnly.raise _ _ _))
    split
    · exact refl s
    · exact handStage _ LevelOnly.askEvent _ s
  · split
    · exact refl s
    · exact handStage _ LevelOnly.askEvent _ s

/-- R65: a vote. -/
theorem runVote (s : State) : VoteOnly s (runVote s) := trans (setStage s _) (handVote _ _)

end VoteOnly

/-- R65: a channel's item is replaced, and a vote follows. -/
theorem takeItem_votes (i : Fin 4) (x : ChannelItem) (s : State) :
    VoteOnly (s.setStage { s.stage with items := s.stage.items.set i x }) (takeItem i x s) := VoteOnly.runVote _

/-- R65, R69, R89: a vote keeps the level held: it is computed when the stage changes, and else nothing it rests on does. -/
theorem runVote_held (s : State) (h : s.LevelHeld) : (runVote s).LevelHeld := by
  have updated : ∀ (b : StageUnit) (x : State), x.LevelHeld →
      (if x.stage.stage = b.stage then x else handStage askEvent x.stage.stage x).LevelHeld := by
    intro b x hx
    split
    · exact hx
    · unfold handStage
      dsimp only
      split
      · exact levelHeld_sameBut (handInput_held _ askEvent_held _ _ _) (wake_warning _ _)
      · exact handInput_held _ askEvent_held _ _ _
  unfold runVote handVote
  dsimp only
  have voted := updated s.stage (s.setStage (voted (ranksOf s) s.stage)) (levelHeld_ofWarning h rfl)
  split
  · exact levelHeld_sameBut voted (raise_warning _ _ _)
  · exact voted

/-- R60: what an event at one channel leaves as it was, and where the channel and its item come from. -/
theorem channelEvent_effect (i : Fin 4) (f : Channel → Channel) (s : State) :
    ∃ u : State, VoteOnly u (channelEvent i f s)
      ∧ u = (s.setChannels (s.channels.set i (f s.channels[i]))).setStage
          { s.stage with
            items := if (f s.channels[i]).state = s.channels[i].state
                ∧ filteredValue (f s.channels[i]) = filteredValue s.channels[i] then s.stage.items
              else s.stage.items.set i
                { state := (f s.channels[i]).state, filtered := filteredValue (f s.channels[i]) } } := by
  refine ⟨_, ?_, rfl⟩
  unfold channelEvent State.setChannel
  dsimp only
  by_cases h : (f s.channels[i]).state = s.channels[i].state
      ∧ filteredValue (f s.channels[i]) = filteredValue s.channels[i]
  · rw [if_pos h, if_pos h, if_pos h.1]
    exact VoteOnly.refl _
  · rw [if_neg h, if_neg h]
    have k := takeItem_votes i { state := (f s.channels[i]).state, filtered := filteredValue (f s.channels[i]) }
      (s.setChannels (s.channels.set i (f s.channels[i])))
    have e : handChannel i (s.setChannels (s.channels.set i (f s.channels[i])))
        = takeItem i { state := (f s.channels[i]).state, filtered := filteredValue (f s.channels[i]) }
          (s.setChannels (s.channels.set i (f s.channels[i]))) := by
      unfold handChannel; simp
    rw [e]
    split
    · exact k
    · exact VoteOnly.trans k (VoteOnly.ofLevelOnly (LevelOnly.raise _ _ _))

theorem channelEvent_held (i : Fin 4) (f : Channel → Channel) (s : State) (h : s.LevelHeld) :
    (channelEvent i f s).LevelHeld := by
  have handed : ∀ x : State, x.LevelHeld → (handChannel i x).LevelHeld := by
    intro x hx
    unfold handChannel takeItem
    exact runVote_held _ (levelHeld_ofWarning hx rfl)
  have placed : (s.setChannel i (f s.channels[i])).LevelHeld := levelHeld_ofWarning h rfl
  unfold channelEvent raiseChannelState
  dsimp only
  split
  · split
    · exact placed
    · exact handed _ placed
  · split
    · exact levelHeld_sameBut placed (raise_warning _ _ _)
    · exact levelHeld_sameBut (handed _ placed) (raise_warning _ _ _)

/-! ## The ring (R71) -/

/-- R71: removing the oldest record, where the ring is full, leaves room for one. -/
theorem ringRoom_length (ring : List StageRecord) (h : ring.length ≤ Config.ringSize) :
    (ringRoom ring).length + 1 ≤ Config.ringSize := by
  unfold ringRoom; split
  · simp only [List.length_drop]; simp only [Config.ringSize] at *; omega
  · omega

/-- R71: a record joins a ring at the end, and the ring stays a chain when it follows the newest. -/
theorem ringRoom_getLast (ring : List StageRecord) (r : StageRecord) (h : (ringRoom ring).getLast? = some r) :
    ring.getLast? = some r := by
  unfold ringRoom at h; split at h
  · rw [List.getLast?_drop] at h; split at h
    · simp at h
    · exact h
  · exact h

theorem ringRoom_chain (ring : List StageRecord) (h : ring.IsChain recordFollows) :
    (ringRoom ring).IsChain recordFollows := by
  unfold ringRoom; split
  · exact h.drop 1
  · exact h

/-- R71, R77: joining the ring keeps it as R71 has it, when a later millisecond has come. -/
theorem joinRing_held (kind : Append) (s : State) (h : s.RingHeld) (o : ringOpen s = true) : (joinRing kind s).RingHeld := by
  obtain ⟨hl, hc, hn⟩ := h
  unfold State.RingHeld joinRing
  dsimp only [State.setStage, State.setTime]
  refine ⟨?_, ?_, ?_⟩
  · simpa using ringRoom_length _ hl
  · rw [List.isChain_append]
    refine ⟨ringRoom_chain _ hc, by simp, ?_⟩
    intro x hx y hy
    simp only [List.head?_cons, Option.mem_def, Option.some.injEq] at hx hy
    subst hy
    have l := ringRoom_getLast _ _ hx
    unfold nextAfter at hn; unfold ringOpen at o
    rw [l] at hn o
    exact ⟨by simpa [builtRecord] using hn, by simpa [builtRecord] using o⟩
  · unfold nextAfter
    simp [builtRecord]

end Sys2Proof.Machine
end

