-- ==== Sys2Proof/Laws/Time.lean ====
section
/-! SUPPORT. What the clocks can do: a count of ms moves run time and station time alone (R3, R9), a tick under RC counts
at most one ms, and a change of the source leaves the rest of the machine alone (R3, R6, R13). -/

namespace Sys2Proof.Machine

/-- From `t` to `u` the two clocks alone may have moved. -/
def ClocksOnly (t u : TimeBase) : Prop :=
  u = { t with runTime := u.runTime, stationTime := u.stationTime }

theorem countMillisecond_clocksOnly (t : TimeBase) : ClocksOnly t (countMillisecond t) := rfl

/-- R3: whatever stood before, a ms counted leaves run time within 0..2⁴⁸−1. -/
theorem countMillisecond_runTime_le (t : TimeBase) : (countMillisecond t).runTime ≤ Config.lastRunTime := by
  show (if t.runTime < Config.lastRunTime then t.runTime + 1
    else Config.runTimeAfterLast t.runTime % (Config.lastRunTime + 1)) ≤ Config.lastRunTime
  split
  · assumption
  · exact Nat.le_of_lt_succ (Nat.mod_lt _ (Nat.succ_pos _))

theorem countMilliseconds_clocksOnly (n : Nat) (t : TimeBase) : ClocksOnly t (countMilliseconds n t) := by
  induction n generalizing t with
  | zero => rfl
  | succ n ih => unfold countMilliseconds; rw [ih (countMillisecond t)]; rfl

/-- R3: short of 2⁴⁸−1, `n` ms counted are `n` ms of run time. -/
theorem countMilliseconds_runTime (n : Nat) (t : TimeBase) (h : t.runTime + n ≤ Config.lastRunTime) :
    (countMilliseconds n t).runTime = t.runTime + n := by
  induction n generalizing t with
  | zero => rfl
  | succ n ih =>
    have one : (countMillisecond t).runTime = t.runTime + 1 := if_pos (by omega)
    unfold countMilliseconds
    rw [ih _ (by rw [one]; omega), one]
    omega

/-- R9: station time, once set, goes on with run time and stays at 2⁴⁷−1. -/
theorem countMilliseconds_stationTime (n : Nat) (t : TimeBase) (h : ∀ v, t.stationTime = some v → v ≤ Config.lastStationTime) :
    (countMilliseconds n t).stationTime = t.stationTime.map fun v => min (v + n) Config.lastStationTime := by
  induction n generalizing t with
  | zero =>
    show t.stationTime = _
    cases e : t.stationTime with
    | none => rfl
    | some v => simp [h v e]
  | succ n ih =>
    have one : (countMillisecond t).stationTime = t.stationTime.map fun v => min (v + 1) Config.lastStationTime := rfl
    unfold countMilliseconds
    rw [ih _ (by rw [one]; intro v; cases t.stationTime <;> simp; omega), one]
    cases t.stationTime with
    | none => rfl
    | some v => simp only [Option.map_some, Option.some.injEq]; omega

/-- Everything a tick under RC can do (R3): the factory-trimmed ms ends with no ms of run time or with its last, or one
of several is counted within it. -/
theorem tickRc_cases (t : TimeBase) :
    (leftOfTick t = 0 ∧ tickRc t = endTick t) ∨ (leftOfTick t = 1 ∧ tickRc t = countMillisecond (endTick t))
      ∨ (2 ≤ leftOfTick t ∧ tickRc t = countEarly t) := by
  unfold tickRc
  match h : leftOfTick t with
  | 0 => exact .inl ⟨rfl, rfl⟩
  | 1 => exact .inr (.inl ⟨rfl, rfl⟩)
  | n + 2 => exact .inr (.inr ⟨by omega, rfl⟩)

/-- A ms counted early leaves the factory-trimmed ms one less to give. -/
theorem leftOfTick_countEarly (t : TimeBase) : leftOfTick (countEarly t) = leftOfTick t - 1 := by
  unfold countEarly leftOfTick
  cases h : t.completing <;> simp [countMillisecond, earnedInBlock]; omega

/-- Everything the choice of RC can do (R3, R6, R13): the time base alone changes, and there the clocks, the source, the
block and the marks of the spans. -/
theorem selectRc_only (n : Nat) (s : State) : ∃ t : TimeBase, selectRc n s = s.setTime t ∧ t.source = .rc
    ∧ t.crystal = s.time.crystal ∧ t.reference = s.time.reference ∧ t.correction = s.time.correction
    ∧ t.edgeGap = s.time.edgeGap ∧ t.qualification = s.time.qualification ∧ t.arm = s.time.arm := by
  unfold selectRc
  split <;> rename_i h
  · exact ⟨s.time, rfl, h, rfl, rfl, rfl, rfl, rfl, rfl⟩
  · refine ⟨_, rfl, rfl, ?_⟩
    rw [countMilliseconds_clocksOnly n s.time]
    exact ⟨rfl, rfl, rfl, rfl, rfl, rfl⟩

/-- R3, R6: what a change from XTAL counts: `n` of the ms left uncounted at once; the ms in progress gives the others, or one. -/
theorem selectRc_counts (n : Nat) (s : State) (x : s.time.source = .xtal) (h : s.time.runTime + n ≤ Config.lastRunTime) :
    (selectRc n s).time.runTime = s.time.runTime + n ∧ (selectRc n s).time.edgeless = 0
      ∧ (selectRc n s).time.completing = some (max 1 (s.time.edgeless - n)) := by
  unfold selectRc
  rw [x]
  exact ⟨countMilliseconds_runTime n s.time h, rfl, rfl⟩

/-- R3: under XTAL a factory-trimmed ms counts no run time; it is one more without an edge. -/
theorem tickTime_xtal (t : TimeBase) (h : t.source = .xtal) :
    tickTime t = { t with reference := t.reference + 1, edgeless := t.edgeless + 1 } := by
  unfold tickTime; rw [h]

theorem cycleOfGroup_edgeless (t : TimeBase) : (cycleOfGroup t).edgeless = t.edgeless := by
  unfold cycleOfGroup
  split
  · split <;> rfl
  · dsimp only; split <;> rfl

/-- R3: an edge under XTAL leaves none uncounted. -/
theorem crystalEdge_edgeless (t : TimeBase) (h : t.source = .xtal) : (crystalEdge t).edgeless = 0 := by
  have e : (crystalSeesEdge t).source = .xtal := by unfold crystalSeesEdge crystalStarts; split <;> exact h
  simp only [crystalEdge, e, cycleOfGroup_edgeless]

end Sys2Proof.Machine
end

