-- ==== Sys2Proof/Tests/Slice0.lean ====
section
/-! SUPPORT. Own tests: what WellFormed refuses, worked examples of the manual, and for every statement with premises a state
and operands that meet them. -/

namespace Sys2Proof.Tests

open Sys2Proof Sys2Proof.Machine

/-! ## WellFormed: an ill-formed command for each check, which the check refuses -/

theorem test_illFormed_numbers :
    (Request.linkSet 65536).wellFormed = false ∧ (Request.timeSet (2 ^ 48)).wellFormed = false
      ∧ (Request.timeSource 256).wellFormed = false ∧ (Request.trimSet 32768).wellFormed = false
      ∧ (Request.headRead 256).wellFormed = false ∧ (Request.channelRead 256).wellFormed = false
      ∧ (Request.recordRead (2 ^ 32) 1).wellFormed = false ∧ (Request.ruleRead 256).wellFormed = false
      ∧ (Request.warningFloor 256).wellFormed = false ∧ (Request.monitorSet 0 256).wellFormed = false
      ∧ (Request.planClear 256 0).wellFormed = false ∧ (Request.planRead 256).wellFormed = false
      ∧ (Request.resultRead 256).wellFormed = false ∧ (Request.noticeSet 256 none).wellFormed = false
      ∧ (Request.hold 65536).wellFormed = false := by decide

theorem test_illFormed_field_and_river :
    (Request.fieldSet ⟨1, 1, 65536, 0, 0, 128, 0, 1, 0⟩).wellFormed = false
      ∧ (Request.headSet ⟨1, 1, 1, 0, some 256, 60, 60⟩).wellFormed = false
      ∧ (Request.headParam ⟨1, 1, 0, some (2 ^ 31)⟩).wellFormed = false
      ∧ (Request.channelSet ⟨1, 1, 1000000, -8388609, 0, 0, 1, 0, 5, 60, 1⟩).wellFormed = false
      ∧ (Request.stageSet ⟨0, 65536, 1, 60, 60, 300⟩).wellFormed = false
      ∧ (Request.ruleSet ⟨1, 1, 0, 1, 8388608, 0, 0, 0⟩).wellFormed = false
      ∧ (Request.warningSet ⟨1, 65536, 0, 1⟩).wellFormed = false := by decide

set_option maxRecDepth 4000 in
theorem test_illFormed_cableway_and_rest :
    (Request.carriageSet ⟨100, 100, 2 ^ 24, 20, 2, 50, 500, 5⟩).wellFormed = false
      ∧ (Request.meterSet ⟨1, 0, List.replicate 25 ⟨0, 0, 0⟩⟩).wellFormed = false
      ∧ (Request.meterSet ⟨1, 0, [⟨0, 32768, 0⟩]⟩).wellFormed = false
      ∧ (Request.planPut ⟨1, 0, 0, some 65536, none, none⟩).wellFormed = false
      ∧ (Request.wakeSet ⟨1, 1, 0, 1, 8388608, 1, 1⟩).wellFormed = false
      ∧ (Request.noticeSet 1 (some ⟨4, 1, 256⟩)).wellFormed = false := by decide

set_option maxRecDepth 4000 in
theorem test_illFormed_events :
    (Instr.pollDue 0).wellFormed = false ∧ (Instr.pollDue 9).wellFormed = false
      ∧ (Instr.staleExpiry 5).wellFormed = false ∧ (Instr.confirmTimerExpiry 9).wellFormed = false
      ∧ (Instr.clearTimerExpiry 0).wellFormed = false ∧ (Instr.unknownKind 0x01 0).wellFormed = false
      ∧ (Instr.hostFrameArrival (List.replicate 206 0)).wellFormed = false
      ∧ (Instr.fieldFrameReceived (List.replicate 55 0)).wellFormed = false
      ∧ (Instr.identify 0).wellFormed = true ∧ (Instr.unknownKind 0x03 0).wellFormed = true := by decide

/-! ## Worked examples of the manual -/

set_option maxRecDepth 20000 in
/-- R167: the check value of the CRC over the nine characters 1 to 9. -/
theorem test_crc : crc [0x31, 0x32, 0x33, 0x34, 0x35, 0x36, 0x37, 0x38, 0x39] = 0x29B1 := by decide

/-- 3.2, worked correction. -/
theorem test_correction :
    correctedValue { defaultChannel 1 with gain := 1002500, offset := 415 } 18432 = 2263
      ∧ correctedValue { defaultChannel 2 with offset := 8200, sense := .inverted } 59370 = 2263
      ∧ correctedValue (defaultChannel 1) (-18475) = -1848 := by decide

/-- 4.2, worked vote, its second and fourth rows. -/
theorem test_vote :
    (let item (x : Int) : ChannelItem := { state := .valid, filtered := some x }
     let gone : ChannelItem := { state := .stale, filtered := none }
     let u : StageUnit := { resetStage with settings := { defaultStage with agreement := 100 } }
     let v := voted (fun i => i.val + 1) { u with items := #v[item 2263, item 2380, item 2270, gone] }
     let w := voted (fun i => i.val + 1) { u with items := #v[gone, gone, item 2270, gone] }
     v.stage = some 2270 ∧ v.spread = some 117 ∧ v.disagree = true ∧ v.quality = .degraded
       ∧ w.stage = some 2270 ∧ w.spread = some 0 ∧ w.disagree = false ∧ w.quality = .degraded) := by decide

/-- A record of this number, stamp and stage. -/
def recordAt (n at' : Nat) (stage : Option Int) : StageRecord :=
  { sequence := n, runTime := at', stationTime := none, stage := stage, quality := .good, rate := none, level := 0
    channels := [], flags := { timingRC := false, timeStepped := false, event := false, runActive := false
                               autonomous := false, warmRestart := false } }

/-- 4.5, worked rate: a present and an absent stage at the window's edge, and the falling limb. -/
theorem test_rate :
    rateOf [recordAt 4000 7200000 (some 2262), recordAt 4001 7260000 (some 2270)] 900 8100000 2415 = some 612
      ∧ rateOf [recordAt 4000 7200000 none, recordAt 4001 7260000 (some 2270)] 900 8100000 2415 = some 621
      ∧ rateOf [recordAt 1 100000 (some 500)] 900 800000 400 = some (-514) := by decide

/-- 7.6, worked point. -/
theorem test_velocity :
    (let rating : Rating := { ratio := 1, startRate := 30, segments := [⟨0, 25, 238000⟩, ⟨400, 18, 251000⟩] }
     revolutionRate 1 52 50320 = 1033 ∧ pointVelocity rating 1033 = (277, false, false)
       ∧ revolutionRate 1 1 45000 = 22 ∧ pointVelocity rating 22 = (0, true, false)) := by decide

/-- 6.7, the table of placements. -/
theorem test_meterDepth :
    meterDepth .six 1240 150 = (744, false) ∧ meterDepth .eight 2010 150 = (1608, false)
      ∧ meterDepth .eight 600 150 = (450, true) ∧ meterDepth .two 600 150 = (120, false) := by decide

/-- A stored vertical with what discharge is formed from. -/
def vertical (n distance depth velocity : Nat) (skip : Option SkipReason) : VerticalResult :=
  { index := n, method := .onePoint, distance := distance, arrival := 0, depth := some depth
    depthSource := some .sounded, failed := none, points := [], mean := some velocity, skip := skip
    retried := false, partialPoints := false }

/-- 7.9, worked run and worked skip. -/
theorem test_discharge :
    (let run (skip : Option SkipReason) : Run := { noRun with verticals :=
      [vertical 1 2000 0 0 none, vertical 2 6000 1240 277 none, vertical 3 11000 2010 357 skip,
       vertical 4 16500 1650 318 none, vertical 5 21000 0 0 none] }
     (runResults (run none)).discharge = some 7936 ∧ (runResults (run none)).area = some 243825
       ∧ (runResults (run none)).mean = some 325 ∧ (runResults (run (some .byRequest))).discharge = some 6425
       ∧ (runResults (run (some .byRequest))).area = some 213650
       ∧ (runResults (run (some .byRequest))).mean = some 301) := by decide

/-! ## Witnesses: for each statement with premises, a state and operands that meet them, clause by clause -/

def time (f : TimeBase → TimeBase) (s : State) : State := s.setTime (f s.time)
def field (f : FieldLine → FieldLine) (s : State) : State := s.setField (f s.field)
def stage (f : StageUnit → StageUnit) (s : State) : State := s.setStage (f s.stage)
def warning (f : WarningUnit → WarningUnit) (s : State) : State := s.setWarning (f s.warning)
def cable (f : Cableway → Cableway) (s : State) : State := s.setCable (f s.cable)
def gauging (f : Gauging → Gauging) (s : State) : State := s.setGauging (f s.gauging)
def running (f : Run → Run) (s : State) : State := s.setRun (f s.run)
def notices (f : Dispatcher → Dispatcher) (s : State) : State := s.setNotices (f s.notices)
def link (f : HostLink → HostLink) (s : State) : State := s.setLink (f s.link)
def supervisor (f : Supervisor → Supervisor) (s : State) : State := s.setSupervisor (f s.supervisor)

/-- The part after its first reset: calm. -/
def base : State := State.reset

/-- The same, a SAVE running. -/
def saving : State := supervisor (fun x => { x with saving := some { copy := defaultStored, start := 0 } }) base

/-- The same at a run time. -/
def later (now : Nat) (s : State) : State := time (fun x => { x with runTime := now }) s

/-- The same with a request in hand. -/
def asked : State := link (fun x => { x with inHand := some { kind := 0x01, tag := 7 } }) base

theorem base_calm : base.Calm := by unfold State.Calm; decide
theorem saving_calm : saving.Calm ∧ saving.supervisor.saving ≠ none := by unfold State.Calm; decide

theorem test_witness_StepTakesTheFrontCommand :
    step (base.setPending [.identify 1, .crystalEdge]) = exec (.identify 1) (base.setPending [.crystalEdge]) := rfl

theorem test_witness_QueueStandsAndIdleStep :
    base.pending = [] ∧ dueEvents base = [.lineIdle]
      ∧ dueEvents (field (fun x => { x with tx := .sending }) base) = [] := by decide

theorem test_witness_WarmReset :
    base.LevelHeld ∧ base.warning.level = base.warning.floor
      ∧ (link (fun x => { x with restart := .due }) base).link.restart = .due := by
  unfold State.LevelHeld; decide

theorem test_witness_CrystalMonitor :
    (let s := time (fun x => { x with crystal := .stopped }) base
     s.time.crystal = .stopped ∧ s.time.source = .rc)
    ∧ (let s := time (fun x => { x with crystal := .running, source := .xtal, reference := 4 }) base
       s.supervisor.quiet ≠ .quiet ∧ s.time.crystal ≠ .stopped ∧ reached s.time.edgeGap s.time.reference = true
         ∧ s.time.source = .xtal)
    ∧ (let s := time (fun x => { x with reference := 1000 }) base
       s.supervisor.quiet ≠ .quiet ∧ s.time.crystal = .starting
         ∧ reached s.time.qualification s.time.reference = true ∧ s.time.arm = true)
    ∧ (let s := time (fun x => { x with reference := 1000, arm := false }) base
       s.time.crystal = .starting ∧ reached s.time.qualification s.time.reference = true ∧ s.time.arm = false) := by
  decide

theorem test_witness_RunTimeAdvance :
    (let t : TimeBase := { resetTime with source := .xtal, runTime := 2 ^ 48 - 126 }
     t.source = .xtal ∧ t.completing = none ∧ t.groupCycles = 0 ∧ t.runTime + 125 ≤ Config.lastRunTime)
    ∧ (-2000 : Int) ≤ -2000 ∧ (2000 : Int) ≤ 2000
    ∧ ({ resetTime with runTime := 2 ^ 48 - 1 } : TimeBase).runTime ≤ Config.lastRunTime := by decide

theorem test_witness_RequestFrameRoundTrip :
    (Request.timeSet (2 ^ 48 - 1)).wellFormed = true ∧ (Request.trimSet (-32768)).wellFormed = true
      ∧ (Request.headParam ⟨255, 255, 255, some (2 ^ 31 - 1)⟩).wellFormed = true
      ∧ (Request.noticeSet 1 (some ⟨15, 1, 255⟩)).wellFormed = true := by decide

set_option maxRecDepth 20000 in
/-- A frame of KIND 01 whose payload is one octet too long, one of KIND 03, and one that carries CAUSE_READ. -/
theorem test_witness_HostReceiver :
    hostFrameOf [0, 0x36, 7, 0, 0] = none
      ∧ hostFrameOf (hostBody 0x01 7 [0]) = some { kind := 0x01, tag := 7, content := .error .length }
      ∧ hostFrameOf (hostBody 0x03 7 []) = some { kind := 0x03, tag := 7, content := .error .unknownKind }
      ∧ hostFrameOf (requestOctets 7 .causeRead) = some { kind := 0x36, tag := 7, content := .ok .causeRead }
      ∧ (let s := link (fun x => { x with assembling := some [] }) (later 51 base)
         s.link.assembling = some [] ∧ s.link.lastOctet + 50 < s.now)
      ∧ (let s := link (fun x => { x with assembling := some [0, 0x36, 7, 1] }) (later 50 base)
         s.link.assembling = some [0, 0x36, 7, 1] ∧ s.now ≤ s.link.lastOctet + 50)
      ∧ base.link.assembling = none ∧ 200 < (201 : Byte).toNat ∧ (200 : Byte).toNat ≤ 200 := by decide

theorem test_witness_FrameGone :
    (link (fun x => { x with line := none }) base).link.line = none ∧ base.link.line = some .notice
      ∧ (let s := link (fun x => { x with line := some .reply, notice := none }) asked
         s.link.line = some .reply ∧ s.link.restart ≠ .accepted ∧ s.link.waiting = none)
      ∧ (let f : HostFrame := { kind := 0x03, tag := 9, content := .error .unknownKind }
         let s := link (fun x => { x with line := some .reply, waiting := some f }) asked
         s.link.line = some .reply ∧ s.link.restart ≠ .accepted ∧ s.link.waiting = some f)
      ∧ (let s := link (fun x => { x with line := some .reply, restart := .accepted }) asked
         s.link.line = some .reply ∧ s.link.restart = .accepted) := by decide

theorem test_witness_FrameArrival :
    base.Calm ∧ base.warning.monitorSettings.enable = true
      ∧ (warning (fun x => { x with autonomous := true }) base).warning.autonomous = true
      ∧ asked.link.inHand ≠ none ∧ asked.supervisor.quiet = .normal ∧ asked.warning.autonomous = false
      ∧ Instr.hold 7 0 = requestCommand 7 (.hold 0) := by
  unfold State.Calm; decide

theorem test_witness_PlainReads : base.Calm := base_calm

/-- A stored vertical 40 of a run. -/
def measured : State := running (fun x => { x with verticals := [vertical 40 6000 1240 277 none] }) base

theorem test_witness_IndexedReads :
    base.Calm ∧ place 8 8 = some (7 : Fin 8) ∧ place 4 4 = some (3 : Fin 4) ∧ place 1 8 = some (0 : Fin 8)
      ∧ 0 ≤ base.gauging.plan.entries.length ∧ measured.Calm
      ∧ measured.run.verticals.find? (fun v => v.index == 40) = some (vertical 40 6000 1240 277 none) := by
  unfold State.Calm; decide

theorem test_witness_RecordAndCaptureReading : base.Calm ∧ 1 ≤ 8 ∧ 8 < 9 := by unfold State.Calm; decide

theorem test_witness_TimeRequests :
    base.Calm ∧ base.supervisor.saving = none ∧ base.time.crystal ≠ .running
      ∧ (let s := time (fun x => { x with crystal := .running }) base
         s.Calm ∧ s.time.crystal = .running)
      ∧ (let s := time (fun x => { x with crystal := .running, source := .xtal }) base
         s.Calm ∧ s.time.source = .xtal) := by unfold State.Calm; decide

theorem test_witness_LinkAndCauseRequests :
    base.Calm ∧ base.supervisor.saving = none ∧ 9600 ∈ [9600, 19200, 38400, 57600]
      ∧ 9601 ∉ [9600, 19200, 38400, 57600] ∧ saving.Calm ∧ saving.supervisor.saving ≠ none
      ∧ heldWake ⟨1, 0, 2000000, 0, 0, 1, 1⟩ = some
          { levelChange := true, stage := false, wakeStage := 999999, rate := false, wakeRate := 0
            levelFive := true, postFault := true } := by unfold State.Calm; decide

/-- The fields of a FIELD_SET at the ends of their ranges. -/
def fieldArgs : FieldSetArgs := ⟨126, 1, 65535, 0, 0, 254, 1, 9, 1⟩

/-- Entry 8 enabled at address 126. -/
def headed : State :=
  field (fun x => { x with heads := x.heads.set 7 { resetHead with config :=
    { defaultHead with enable := true, address := 126, channel := some 4 } } }) base

theorem test_witness_FieldSet :
    base.Calm ∧ 1 ≤ fieldArgs.ownAddress ∧ fieldArgs.ownAddress ≤ 126 ∧ 128 ≤ fieldArgs.postGroup
      ∧ fieldArgs.postGroup ≤ 254 ∧ fieldArgs.acceptBroadcast ≤ 1 ∧ fieldArgs.inverseGroups ≤ 1
      ∧ fieldArgs.passAllGroups ≤ 1 ∧ fieldArgs.capture ≤ 1 ∧ fieldArgs.singleAttempt ≤ 1
      ∧ base.supervisor.saving = none
      ∧ (∀ i : Fin 8, base.field.heads[i].config.enable = true →
          base.field.heads[i].config.address ≠ fieldArgs.ownAddress)
      ∧ saving.Calm ∧ saving.supervisor.saving ≠ none ∧ headed.Calm ∧ headed.supervisor.saving = none
      ∧ headed.field.heads[(7 : Fin 8)].config.enable = true
      ∧ headed.field.heads[(7 : Fin 8)].config.address = fieldArgs.ownAddress := by unfold State.Calm; decide

/-- HEAD_SET of entry 1 to a stage head on channel 4, and of entry 8 to a post. -/
def stageHead : HeadSetArgs := ⟨1, 1, 126, 0, some 4, 0, 3601⟩
def postHead : HeadSetArgs := ⟨8, 0, 1, 1, none, 60, 0⟩

/-- A poll of entry 1 under way; entry 1 in a management transaction. -/
def polling : State :=
  field (fun x => { x with transaction := x.transaction.map fun t => { t with kind := .poll 0 } }) base
def managing : State :=
  field (fun x => { x with
    management := some { entry := 0, op := .get, parameter := 0, value := none, inFlight := false } }) base

theorem test_witness_HeadSet :
    base.Calm ∧ stageHead.entry = (0 : Fin 8).val + 1 ∧ stageHead.kind = 0 ∧ stageHead.channel = some 4
      ∧ postHead.entry = (7 : Fin 8).val + 1 ∧ postHead.kind = 1 ∧ base.supervisor.saving = none
      ∧ base.field.management = none ∧ stageHead.address ≠ base.field.settings.ownAddress
      ∧ (∀ j : Fin 8, j ≠ 0 → base.field.heads[j].config.enable = false)
      ∧ saving.Calm ∧ saving.supervisor.saving ≠ none ∧ polling.Calm
      ∧ polling.field.transaction.map (·.kind) = some (.poll 0) ∧ managing.Calm
      ∧ managing.field.management.map (·.entry) = some 0 ∧ headed.Calm
      ∧ headed.field.heads[(7 : Fin 8)].config.address = stageHead.address
      ∧ headed.field.heads[(7 : Fin 8)].config.channel = some 4 := by unfold State.Calm; decide

/-- A field line whose transmitter is FREE, entry 1 enabled. -/
def freeLine : State :=
  field (fun x => { x with
    tx := .free, transaction := none, deferral := none
    heads := x.heads.set 0 { resetHead with config := { defaultHead with enable := true } } }) base

theorem test_witness_HeadParam :
    freeLine.Calm ∧ freeLine.field.management = none ∧ freeLine.field.heads[(0 : Fin 8)].config.enable = true
      ∧ freeLine.field.tx = .free ∧ freeLine.field.warn ≠ .standing ∧ headed.Calm ∧ headed.field.tx ≠ .free
      ∧ headed.field.heads[(7 : Fin 8)].config.enable = true ∧ headed.field.management = none
      ∧ managing.Calm ∧ managing.field.management ≠ none ∧ base.Calm
      ∧ base.field.heads[(0 : Fin 8)].config.enable = false := by unfold State.Calm; decide

/-- CHANNEL_SET of channel 4 with every value outside its range, and one whose minimum is not below its maximum. -/
def channelArgs : ChannelSetArgs := ⟨4, 1, 0, -8000000, 1, -8000000, 8000000, 5001, 16, 0, 1⟩
def emptyRange : ChannelSetArgs := { channelArgs with minimum := 5, maximum := 5 }

/-- Channel 1 enabled, with rank 1. -/
def ranked : State :=
  base.setChannels (base.channels.set 0 { resetChannel 1 with settings := { defaultChannel 1 with enable := true } })

theorem test_witness_ChannelSet :
    base.Calm ∧ channelArgs.channel = (3 : Fin 4).val + 1 ∧ channelArgs.enable ≤ 1 ∧ channelArgs.sense ≤ 1
      ∧ 1 ≤ channelArgs.rank ∧ channelArgs.rank ≤ 4
      ∧ max (-999999) (min 999999 channelArgs.minimum) < max (-999999) (min 999999 channelArgs.maximum)
      ∧ (∀ j : Fin 4, base.channels[j].settings.enable = false) ∧ base.supervisor.saving = none
      ∧ saving.Calm ∧ saving.supervisor.saving ≠ none ∧ ranked.Calm ∧ ranked.supervisor.saving = none
      ∧ ranked.channels[(0 : Fin 4)].settings.enable = true ∧ ranked.channels[(0 : Fin 4)].settings.rank = 1
      ∧ max (-999999) (min 999999 emptyRange.maximum) ≤ max (-999999) (min 999999 emptyRange.minimum) := by
  unfold State.Calm; decide

theorem test_witness_StageSet :
    base.Calm ∧ (⟨1, 0, 0, 0, 0, 0⟩ : StageSetArgs).method ≤ 1 ∧ base.supervisor.saving = none ∧ saving.Calm
      ∧ saving.supervisor.saving ≠ none ∧ 1 < (⟨2, 0, 0, 0, 0, 0⟩ : StageSetArgs).method := by
  unfold State.Calm; decide

/-- RULE_SET of rule 8, with and without a confirm time; a part whose warning unit holds a stage input. -/
def ruleArgs : RuleSetArgs := ⟨8, 1, 0, 3, 2000, 1900, 0, 60⟩
def wet (stage : Int) : State := warning (fun x => { x with stageInput := some stage }) base

theorem test_witness_RuleSet :
    base.Calm ∧ ruleArgs.rule = (7 : Fin 8).val + 1 ∧ ruleArgs.enable ≤ 1 ∧ ruleArgs.kind ≤ 1 ∧ 1 ≤ ruleArgs.level
      ∧ ruleArgs.level ≤ 3 ∧ base.supervisor.saving = none ∧ base.warning.stageInput = none
      ∧ (wet 1999).Calm ∧ (wet 1999).warning.stageInput = some 1999 ∧ (wet 2000).Calm
      ∧ (wet 2000).warning.stageInput = some 2000 ∧ saving.Calm ∧ saving.supervisor.saving ≠ none := by
  unfold State.Calm; decide

theorem test_witness_WarningFloor :
    base.Calm ∧ max 0 (rulesLevel base.warning.rules) = base.warning.level
      ∧ max 3 (rulesLevel base.warning.rules) ≠ base.warning.level ∧ 3 < 4 := by unfold State.Calm; decide

/-- A siren that sounds until 1000, and one that rests until then. -/
def loud : State := warning (fun x => { x with siren := .sounding 1000 }) base
def resting : State := warning (fun x => { x with siren := .repeatWait 1000 }) base

theorem test_witness_Siren :
    loud.Calm ∧ loud.warning.siren = .sounding 1000 ∧ loud.field.tx ≠ .free
      ∧ (field (fun x => { x with tx := .free }) loud).field.tx = .free
      ∧ base.Calm ∧ (∀ e, base.warning.siren ≠ .sounding e) ∧ 1000 ≤ (later 1000 loud).now
      ∧ (later 999 loud).now < 1000 ∧ resting.warning.siren = .repeatWait 1000
      ∧ (∀ e, base.warning.siren ≠ .repeatWait e) := by
  unfold State.Calm
  exact ⟨by decide, by decide, by decide, by decide, by decide, nofun, by decide, by decide, by decide, nofun⟩

/-- An ACTIVE run in a phase. -/
def active (p : RunPhase) : State :=
  running (fun x => { x with state := .active, phase := some p, vertical := freshVertical 2 }) base

theorem test_witness_WarningSet :
    base.Calm ∧ (⟨1, 0, 0, 3⟩ : WarningSetArgs).sirenLevel ≤ 3 ∧ base.supervisor.saving = none
      ∧ base.run.state ≠ .active ∧ saving.Calm ∧ saving.supervisor.saving ≠ none
      ∧ (let s := warning (fun x => { x with level := 3 }) (active .travel)
         s.Calm ∧ s.run.state = .active ∧ 3 ≤ s.warning.level ∧ s.supervisor.saving = none)
      ∧ 3 < (⟨4, 0, 0, 3⟩ : WarningSetArgs).sirenLevel := by unfold State.Calm; decide

theorem test_witness_HostSilence :
    base.Calm ∧ base.supervisor.saving = none ∧ saving.Calm ∧ saving.supervisor.saving ≠ none
      ∧ base.warning.monitor = .running 120000 ∧ (later 120000 base).now = 120000
      ∧ (active .travel).run.state = .active ∧ (later 119999 base).now < 120000
      ∧ (∀ e, (warning (fun x => { x with monitor := .off }) base).warning.monitor ≠ .running e) := by
  unfold State.Calm
  exact ⟨by decide, by decide, by decide, by decide, by decide, by decide, by decide, by decide, nofun⟩

/-- A configured carriage, at rest in a motion state, with REEL_TOP closed. -/
def carriage (m : Motion) : Cableway :=
  { resetCable with
    settings := { defaultCarriage with traverseScale := some 1000, reelScale := some 1000, span := some 21000
                                       maxDepth := some 5000 }
    motion := m, positionKnown := true, payoutKnown := true
    switches := { resetCable.switches with reelTop := true } }

/-- The same, driven. -/
def driven (m : Motion) (d : Drive) : Cableway := { carriage m with drive := some d, stall := some 5000 }

/-- The same, the weight in the water under it: surface point 0, reel depth 1 m, REEL_TOP open. -/
def wetted (c : Cableway) : Cableway :=
  { c with surfacePoint := some 0, reelCount := 1000000, switches := { c.switches with reelTop := false } }

def placed (c : Cableway) (s : State) : State := s.setCable c

/-- CARRIAGE_SET with the scales of `carriage`, and with others. -/
def sameScales : CarriageSetArgs := ⟨1000, 1000, 300001, 0, 0, 0, 0, 0⟩
def otherScales : CarriageSetArgs := ⟨99, 50001, 300001, 0, 0, 0, 0, 0⟩

theorem test_witness_CarriageSet :
    (let s := placed (carriage .parked) base
     s.Calm ∧ s.supervisor.saving = none ∧ s.run.state ≠ .active ∧ s.cable.motion ≠ .homing
       ∧ s.cable.motion ≠ .retracting
       ∧ some (max 100 (min 50000 sameScales.traverseScale)) = s.cable.settings.traverseScale
       ∧ some (max 100 (min 50000 sameScales.reelScale)) = s.cable.settings.reelScale
       ∧ some (max 100 (min 50000 otherScales.traverseScale)) ≠ s.cable.settings.traverseScale)
    ∧ base.cable.settings.reelScale = none
    ∧ (let s := placed (carriage .homing) base
       s.Calm ∧ s.supervisor.saving = none ∧ s.cable.motion = .homing)
    ∧ saving.Calm ∧ saving.supervisor.saving ≠ none := by unfold State.Calm; decide

theorem test_witness_CarriageHome :
    (let s := placed (carriage .unreferenced) base
     s.Calm ∧ s.run.state ≠ .active ∧ s.cable.settings.traverseScale ≠ none ∧ s.cable.settings.reelScale ≠ none
       ∧ s.cable.settings.span ≠ none ∧ s.cable.settings.maxDepth ≠ none ∧ s.cable.switches.overload = false
       ∧ s.cable.drive = none ∧ s.cable.motion = .unreferenced ∧ s.cable.switches.reelTop = true
       ∧ s.cable.switches.homeLimit = false)
    ∧ (placed (wetted (carriage .faulted)) base).cable.switches.reelTop = false
    ∧ (let c := carriage .parked
       { c with switches := { c.switches with homeLimit := true } }.switches.homeLimit = true)
    ∧ base.Calm ∧ base.run.state ≠ .active ∧ base.cable.settings.traverseScale = none := by
  unfold State.Calm; decide

/-- A plan of two edges and a middle, its first edge at `d`. -/
def plan (d : Nat) : Plan :=
  { defaultPlan with entries :=
      [⟨d, .edge, none, none, none⟩, ⟨6000, .onePoint, none, none, none⟩, ⟨21000, .edge, none, none, none⟩] }

def rating : Rating := { ratio := 1, startRate := 30, segments := [⟨0, 25, 238000⟩, ⟨400, 18, 251000⟩] }

/-- Parked at home with a plan and a rating. -/
def ready (d : Nat) : State :=
  gauging (fun x => { x with plan := plan d, rating := some rating }) (placed (carriage .parked) base)

/-- PLAN_PUT of a new entry behind the three. -/
def behind : PlanPutArgs := ⟨4, 21001, 1, none, none, some 10⟩

def meterArgs : MeterSetArgs := ⟨5, 201, [⟨0, 501, 0⟩, ⟨100000, 0, 0⟩]⟩

theorem test_witness_PlanAndMeter :
    base.Calm ∧ base.run.state ≠ .active ∧ base.supervisor.saving = none ∧ saving.Calm
      ∧ saving.supervisor.saving ≠ none ∧ (active .travel).Calm ∧ (active .travel).run.state = .active
      ∧ (ready 0).Calm ∧ methodOf behind.method = some .onePoint ∧ behind.index ≤ 40 ∧ behind.distance ≤ 300000
      ∧ behind.index ≤ (ready 0).gauging.plan.entries.length + 1
      ∧ (∀ e ∈ (ready 0).gauging.plan.entries.take (behind.index - 1), e.distance < behind.distance)
      ∧ (∀ e ∈ (ready 0).gauging.plan.entries.drop behind.index, behind.distance < e.distance)
      ∧ (∃ e ∈ (ready 0).gauging.plan.entries.take (4 - 1), 21000 ≤ e.distance)
      ∧ (ready 0).gauging.plan.entries.length + 1 < 5 ∧ methodOf 4 = some .surface ∧ 300000 < 300001
      ∧ meterArgs.ratio = 5 ∧ meterArgs.segments.length ≤ 3 ∧ (∀ g ∈ meterArgs.segments, g.lower ≤ 100000)
      ∧ (meterArgs.segments.map (·.lower)).IsChain (· < ·)
      ∧ ¬ ([0, 100, 100] : List Nat).IsChain (· < ·) := by unfold State.Calm; decide

theorem test_witness_RunStart :
    (let s := ready 51
     s.Calm ∧ s.run.state ≠ .active ∧ s.run.state ≠ .returning ∧ s.cable.motion = .parked
       ∧ s.cable.positionKnown = true ∧ s.cable.traverseCount = 0 ∧ s.cable.switches.farLimit = false
       ∧ s.cable.drive = none
       ∧ s.gauging.plan.entries = ⟨51, .edge, none, none, none⟩ :: ⟨6000, .onePoint, none, none, none⟩
           :: [⟨21000, .edge, none, none, none⟩]
       ∧ (∀ e ∈ s.gauging.plan.entries, e.distance ≤ s.cable.settings.span.getD 0) ∧ s.gauging.rating ≠ none
       ∧ s.warning.level < s.warning.settings.withdrawLevel ∧ s.cable.settings.tolerance < 51)
    ∧ (let s := ready 0
       s.gauging.plan.entries.head?.map (·.distance) = some 0 ∧ s.cable.settings.tolerance < 6000)
    ∧ base.Calm ∧ base.cable.motion ≠ .parked
    ∧ (let s := placed (carriage .parked) base
       s.Calm ∧ s.run.state ≠ .active ∧ s.run.state ≠ .returning ∧ s.cable.motion = .parked
         ∧ s.gauging.plan.entries.length < 3)
    ∧ (let s := gauging (fun x => { x with rating := none }) (ready 0)
       s.Calm ∧ s.cable.motion = .parked ∧ planUnfit s = false ∧ s.gauging.rating = none)
    ∧ (let s := warning (fun x => { x with level := 2 }) (ready 0)
       s.Calm ∧ planUnfit s = false ∧ s.gauging.rating ≠ none ∧ s.cable.motion = .parked
         ∧ s.warning.settings.withdrawLevel ≤ s.warning.level) := by unfold State.Calm; decide

/-- An ACTIVE run at vertical 2 of `plan`, in a phase, with this cableway. -/
def gaugingAt (p : RunPhase) (c : Cableway) : State :=
  running (fun x => { x with state := .active, phase := some p, vertical := freshVertical 2 }) (placed c (ready 0))

/-- The exposure of an ACTIVE run, the meter at its only point. -/
def exposed (e : Exposure) : State :=
  running
    (fun x => { x with
      exposure := some e
      vertical := { freshVertical 2 with
        point := some { fraction := .six, meterDepth := 744, clamped := false, bedStop := false } } })
    (gaugingAt .expose (wetted (carriage .atPoint)))

def exposure (state : ExposureState) (start last : Option Nat) (contacts : Nat) (expiry : Option Nat) : Exposure :=
  { state := state, length := 60000, start := start, contacts := contacts, lastCounted := last, expiry := expiry }

theorem test_witness_RunSkipAndAbort :
    (let s := gaugingAt .travel (driven (.travelling 6000) .traverseOut)
     s.Calm ∧ s.run.state = .active ∧ (entryInHand s).method ≠ .edge ∧ s.run.vertical.skipMark = false
       ∧ s.run.vertical.marked = none ∧ s.run.phase = some .travel ∧ s.cable.motion ≠ .parked
       ∧ s.cable.motion ≠ .retracting)
    ∧ (let s := exposed (exposure .waitingFirst none none 0 (some 30000))
       s.Calm ∧ s.run.state = .active ∧ (entryInHand s).method ≠ .edge ∧ s.run.phase = some .expose
         ∧ s.cable.motion = .atPoint ∧ s.cable.switches.reelTop = false ∧ s.run.exposure ≠ none)
    ∧ (let s := gaugingAt .sound (driven (.seekingSurface .full) .reelDown)
       s.Calm ∧ s.run.phase = some .sound ∧ s.cable.motion = .seekingSurface .full ∧ s.run.exposure = none)
    ∧ base.Calm ∧ base.run.state ≠ .active
    ∧ (gaugingAt .raise (driven .raising .reelUp)).run.phase = some .raise
    ∧ (let s := gaugingAt .travel (carriage .parked)
       s.Calm ∧ s.run.state = .active ∧ s.cable.motion = .parked) := by unfold State.Calm; decide

theorem test_witness_Quiet :
    base.Calm ∧ base.run.state ≠ .active ∧ base.cable.motion = .unreferenced ∧ base.field.management = none
      ∧ base.supervisor.saving = none ∧ base.supervisor.wake.stage = false ∧ base.supervisor.wake.rate = false
      ∧ base.warning.monitorSettings.enable = true
      ∧ (let s := supervisor (fun x => { x with wake := { x.wake with stage := true, wakeStage := 2000 } }) (wet 2000)
         s.Calm ∧ s.supervisor.wake.stage = true ∧ s.warning.stageInput = some 2000
           ∧ s.supervisor.wake.wakeStage ≤ 2000)
      ∧ (active .travel).Calm ∧ (active .travel).run.state = .active ∧ managing.Calm
      ∧ managing.field.management ≠ none ∧ saving.Calm ∧ saving.supervisor.saving ≠ none
      ∧ saving.cable.motion = .unreferenced := by unfold State.Calm; decide

theorem test_witness_NoticeRequests :
    base.Calm ∧ base.supervisor.saving = none ∧ (⟨15, 1, 9⟩ : NoticeItem).source = (14 : Fin 15).val + 1
      ∧ (⟨4, 0, 0⟩ : NoticeItem).source = (3 : Fin 15).val + 1 ∧ (⟨3, 1, 1⟩ : NoticeItem).source < 4
      ∧ 15 < (⟨16, 1, 1⟩ : NoticeItem).source ∧ 5 ∈ base.notices.inService
      ∧ (∀ l ∈ base.notices.inService, l ≤ 5)
      ∧ (let s := notices (fun x => { x with inService := [] }) base
         s.Calm ∧ s.notices.inService = [])
      ∧ (notices (fun x => { x with hold := some 10 }) (later 10 base)).notices.hold = some 10
      ∧ 10 ≤ (later 10 base).now ∧ base.link.notice ≠ none := by unfold State.Calm; decide

/-- The link ready, nothing in service, every slot empty. -/
def silent : State :=
  notices (fun x => { x with inService := [] }) (link (fun x => { x with notice := none, line := none }) base)

theorem test_witness_NoticeRaised :
    base.supervisor.quiet ≠ .quiet ∧ base.link.notice ≠ none
      ∧ base.notices.slots[sourcePlace .warning] = none
      ∧ (notices (fun x => { x with slots := x.slots.set 1 (some { content := [.num 1 0], merged := 255 }) })
          base).notices.slots[sourcePlace .warning] = some { content := [.num 1 0], merged := 255 }
      ∧ silent.link.notice = none ∧ silent.link.waiting = none ∧ silent.link.unready = false
      ∧ silent.link.line = none ∧ silent.link.reply = none ∧ silent.warning.autonomous = false
      ∧ silent.notices.hold = none ∧ silent.notices.inService = [] ∧ silent.notices.settings.master = true
      ∧ (sourceSetting silent .warning).enable = true ∧ 1 ≤ (sourceSetting silent .warning).level
      ∧ (∀ i : Fin 15, silent.notices.slots[i] = none) := by decide

theorem test_witness_Save :
    base.Calm ∧ base.supervisor.saving = none ∧ saving.Calm
      ∧ saving.supervisor.saving = some { copy := defaultStored, start := 0 } := by unfold State.Calm; decide

theorem test_witness_GroupTest :
    base.field.settings.passAllGroups = false ∧ base.field.settings.inverseGroups = false
      ∧ ({ defaultField with inverseGroups := true } : FieldSettings).inverseGroups = true
      ∧ ({ defaultField with passAllGroups := true } : FieldSettings).passAllGroups = true
      ∧ 130 % 16 = 146 % 16 ∧ 128 ≤ 254 ∧ base.field.settings.ownAddress ≤ 126 := by decide

/-- A field frame after SYNC. -/
def fieldBody (dst src kind : Byte) (payload : List Byte) : List Byte :=
  let body := [dst, src, kind, BitVec.ofNat 8 payload.length] ++ payload
  body ++ crcOctets body

/-- A line outside a transaction, capture ON. -/
def capturing (held : List Captured) (overflow : Bool) : State :=
  field (fun x => { x with settings := { x.settings with capture := true }, captured := held, overflow := overflow })
    freeLine

/-- A record of the capture queue. -/
def caught : Captured :=
  { runTime := 0, frame := { destination := 99, source := 1, kind := 0x11, payload := [] }
    result := .failedDestination }

set_option maxRecDepth 20000 in
/-- A READING of 18,432 tenths of a millimetre for address 99, which this part's filter fails. -/
theorem test_witness_FieldReceiver :
    (field (fun x => { x with tx := .sending }) base).field.tx = .sending ∧ base.field.tx ≠ .sending
      ∧ fieldFrameOf [16, 1, 0x11, 0, 0, 0] = none
      ∧ fieldFrameOf (fieldBody 99 1 0x11 [0, 0, 0x48, 0, 0])
          = some { destination := 99, source := 1, kind := 0x11, payload := [0, 0, 0x48, 0, 0] }
      ∧ (filterFrame (capturing [] false)
          { destination := 99, source := 1, kind := 0x11, payload := [0, 0, 0x48, 0, 0] }).2 = none
      ∧ (capturing [] false).field.settings.capture = true ∧ (capturing [] false).field.captured.length < 8
      ∧ 8 ≤ (capturing (List.replicate 8 caught) true).field.captured.length
      ∧ (capturing (List.replicate 8 caught) true).field.overflow = true
      ∧ base.field.gathering = none
      ∧ (let s := field (fun x => { x with gathering := some [16, 1, 0x11], lastOctet := some 0 }) (later 2 base)
         s.field.gathering = some [16, 1, 0x11] ∧ s.field.lastOctet = some 0 ∧ s.now ≤ 0 + 2
           ∧ ([16, 1, 0x11] ++ [49] : List Byte)[3]? = some 49 ∧ 48 < (49 : Byte).toNat
           ∧ ([16, 1, 0x11, 0, 1] ++ [2] : List Byte)[3]? = some 0)
      ∧ 0 + 2 < (later 3 base).now := by decide

set_option maxRecDepth 20000 in
/-- A READING from entry 1's stage head for channel 1. -/
theorem test_witness_ReadingDelivered :
    (let f : FieldFrame := { destination := 16, source := 1, kind := 0x11, payload := [0, 0, 0x48, 0, 0] }
     freeLine.field.tx ≠ .sending ∧ freeLine.field.tx ≠ .replyWindow
       ∧ fieldFrameOf (fieldBody 16 1 0x11 [0, 0, 0x48, 0, 0]) = some f
       ∧ freeLine.field.settings.capture = false ∧ f.payload.length = 5
       ∧ f.destination = freeLine.field.settings.ownAddress
       ∧ freeLine.field.heads[(0 : Fin 8)].config.enable = true
       ∧ freeLine.field.heads[(0 : Fin 8)].config.kind = .stage
       ∧ freeLine.field.heads[(0 : Fin 8)].config.address = f.source
       ∧ (∀ j : Fin 8, j ≠ 0 → freeLine.field.heads[j].config.enable = false)
       ∧ freeLine.field.heads[(0 : Fin 8)].config.channel = some ((0 : Fin 4).val + 1)) := by decide

/-- A channel of three accepted values in a state. -/
def live (state : ChannelState) (held : List Int) (rejections : Nat) : Channel :=
  { resetChannel 1 with
    settings := { defaultChannel 1 with enable := true, minimum := 0, maximum := 5000, stepLimit := 100 }
    state := state, window := held, rejections := rejections, staleExpiry := some 300000 }

theorem test_witness_Correction :
    (live .valid [] 0).state ≠ .off ∧ (resetChannel 1).state = .off ∧ (950000 : Nat) ≤ (live .valid [] 0).settings.gain
      ∧ (live .valid [] 0).settings.gain ≤ 1050000 ∧ -99999 ≤ (live .valid [] 0).settings.offset
      ∧ (live .valid [] 0).settings.offset ≤ 99999 ∧ (-2000000 : Int) ≤ 2000000 := by decide

/-- Channel 1 VALID until its stale time. -/
def stageLive : State := base.setChannels (base.channels.set 0 (live .valid [2263, 2263, 2263] 0))

theorem test_witness_ChannelStates :
    stageLive.channels[(0 : Fin 4)].staleExpiry = some 300000 ∧ stageLive.channels[(0 : Fin 4)].state = .valid
      ∧ 300000 ≤ (later 300000 stageLive).now ∧ (later 299999 stageLive).now < 300000
      ∧ 1 ≤ (live .valid [] 0).settings.window
      ∧ correctedValue (live .valid [] 0).settings (-10) < (live .valid [] 0).settings.minimum
      ∧ (live .filling [1] 6).rejections < 7 ∧ (live .valid [1] 7).rejections = 7
      ∧ (live .valid [2263] 0).window.getLast? = some 2263
      ∧ (correctedValue (live .valid [2263] 0).settings 23630 - 2263).natAbs
          ≤ (live .valid [2263] 0).settings.stepLimit
      ∧ (live .faulted [] 0).state = .faulted := by decide

/-- A poll, a WARN and a management transaction in the transmitter. -/
def underWay (tx : TxState) (kind : TxKind) (attempts : Nat) : State :=
  field (fun x => { x with
    tx := tx, deferral := some 1500, window := some 250, backoff := some 10
    transaction := some { kind := kind, attempts := attempts, backoffBits := 6, singleAttempt := false
                          frame := { destination := 1, source := 16, kind := 0x10, payload := [] } } }) freeLine

theorem test_witness_Transmit :
    (let s := field (fun x => { x with heads := x.heads.set 0 { x.heads[0] with nextDue := some 0 } }) freeLine
     s.field.tx = .free ∧ s.field.warn ≠ .standing ∧ s.field.management = none
       ∧ s.field.heads[(0 : Fin 8)].config.enable = true ∧ s.field.heads[(0 : Fin 8)].nextDue = some 0 ∧ 0 ≤ s.now
       ∧ (∀ j : Fin 8, j ≠ 0 → s.field.heads[j].config.enable = false))
    ∧ (∀ i : Fin 8, base.field.heads[i].config.enable = false)
    ∧ base.field.tx = .waitingIdle ∧ base.field.transaction ≠ none ∧ base.field.lastOctet = none
    ∧ freeLine.field.tx ≠ .waitingIdle
    ∧ (underWay .sending (.poll 0) 0).field.tx = .sending
    ∧ (underWay .sending (.warn 2) 0).field.transaction.map (·.kind) = some (.warn 2)
    ∧ (later 30000 base).field.refresh ≤ (later 30000 base).now
    ∧ (field (fun x => { x with warn := .heldBack }) base).field.warn = .heldBack
    ∧ base.field.warn ≠ .heldBack ∧ base.warning.level = 0 ∧ anyMismatch base = false
    ∧ (later 29999 base).now < (later 29999 base).field.refresh := by decide

theorem test_witness_Backoff :
    (let s := underWay .sending (.poll 0) 6
     s.field.tx = .sending ∧ s.field.transaction.map (·.singleAttempt) = some false ∧ s.field.transaction.map (·.attempts) = some 6)
    ∧ (let s := underWay .sending (.poll 0) 7
       s.field.transaction.map (·.attempts) = some 7 ∧ s.supervisor.quiet = .normal)
    ∧ base.field.tx ≠ .sending
    ∧ (let s := later 10 (underWay .backoff (.poll 0) 1)
       s.field.tx = .backoff ∧ s.field.backoff = some 10 ∧ 10 ≤ s.now)
    ∧ (later 9 (underWay .backoff (.poll 0) 1)).now < 10 := by decide

theorem test_witness_LineFailures :
    (let s := later 1500 (underWay .waitingIdle (.poll 0) 0)
     s.field.tx = .waitingIdle ∧ s.field.deferral = some 1500 ∧ 1500 ≤ s.now ∧ s.supervisor.quiet = .normal
       ∧ s.field.transaction.map (·.kind) = some (.poll 0))
    ∧ (underWay .waitingIdle (.warn 1) 0).field.transaction.map (·.kind) = some (.warn 1)
    ∧ (underWay .waitingIdle .management 0).field.transaction.map (·.kind) = some .management
    ∧ (later 1499 base).now < 1500 ∧ base.field.deferral = some 1500
    ∧ (let s := later 250 (underWay .replyWindow (.poll 0) 0)
       s.field.tx = .replyWindow ∧ s.field.window = some 250 ∧ 250 ≤ s.now
         ∧ s.field.heads[(0 : Fin 8)].noReply ≠ 2
         ∧ (let t := field (fun x => { x with heads := x.heads.set 0 { x.heads[0] with noReply := 2 } }) s
            t.field.heads[(0 : Fin 8)].noReply = 2 ∧ t.field.heads[(0 : Fin 8)].config.kind = .stage
              ∧ t.field.heads[(0 : Fin 8)].config.channel = some ((0 : Fin 4).val + 1)))
    ∧ (later 249 (underWay .replyWindow (.poll 0) 0)).now < 250 := by decide

theorem test_witness_Vote :
    (∀ i : Fin 4, resetStage.items[i].state ≠ .valid)
      ∧ (let item (x : Int) : ChannelItem := { state := .valid, filtered := some x }
         let u : StageUnit := { resetStage with items := #v[item 2263, item 2380, item 2270, item 2270] }
         u.settings.method = .middle ∧ u.items[(0 : Fin 4)].state = .valid
           ∧ ({ u with settings := { u.settings with method := .ranked } } : StageUnit).settings.method = .ranked
           ∧ (∀ j : Fin 4, j ≠ 0 → (0 : Fin 4).val + 1 < j.val + 1)) := by decide

theorem test_witness_StageRecords :
    (let s := stage (fun x => { x with ring := [recordAt 1 59999 none], nextSequence := 2 }) (later 60000 base)
     s.stage.recordExpiry ≤ s.now ∧ s.stage.waiting = [] ∧ s.stage.ring.getLast? = some (recordAt 1 59999 none)
       ∧ (recordAt 1 59999 none).runTime < s.now ∧ s.supervisor.quiet = .normal ∧ s.stage.stage = none)
    ∧ (let s := stage (fun x => { x with ring := [recordAt 1 60000 none] }) (later 60000 base)
       s.stage.ring.getLast? = some (recordAt 1 60000 none) ∧ s.now ≤ (recordAt 1 60000 none).runTime
         ∧ Append.interval ∉ s.stage.waiting)
    ∧ (let s := stage (fun x => { x with waiting := [.event, .interval] }) base
       s.stage.waiting = .event :: [.interval] ∧ s.stage.ring = [])
    ∧ base.stage.waiting = [] ∧ (later 59999 base).now < (later 59999 base).stage.recordExpiry := by decide

/-- A rule of level 3 and kind STAGE in a state, its timer running to 1000. -/
def ruleIn (state : RuleState) : Rule :=
  { definition := ⟨true, .stage, 3, 2000, 1900, 60, 60⟩, state := state, blind := false, timer := .running 1000
    lastValue := some 2000, judged := true, lastChange := none }

/-- The same as rule 8. -/
def ruled (state : RuleState) : State := warning (fun x => { x with rules := x.rules.set 7 (ruleIn state) }) base

theorem test_witness_RuleStates :
    (let s := later 1000 (ruled .confirming)
     s.warning.rules[(7 : Fin 8)].timer = .running 1000 ∧ s.warning.rules[(7 : Fin 8)].definition.kind = .stage
       ∧ 1000 ≤ s.now ∧ s.warning.rules[(7 : Fin 8)].state = .confirming)
    ∧ (ruled .clearing).warning.rules[(7 : Fin 8)].state = .clearing ∧ (later 999 (ruled .clearing)).now < 1000
    ∧ (ruled .active).warning.rules[(7 : Fin 8)].definition.setThreshold ≤ 2000
    ∧ (1999 : Int) < (ruled .idle).warning.rules[(7 : Fin 8)].definition.setThreshold
    ∧ (1900 : Int) ≤ (ruled .active).warning.rules[(7 : Fin 8)].definition.clearThreshold := by decide

theorem test_witness_EncoderPulses :
    (let s := placed (carriage .parked) base
     s.cable.settings.traverseScale = some 1000 ∧ (∀ x, s.cable.motion ≠ .travelling x))
    ∧ (let s := placed { driven (.travelling 6000) .traverseOut with traverseCount := 5949000 } base
       s.cable.motion = .travelling 6000 ∧ s.cable.drive = some .traverseOut ∧ s.cable.positionKnown = true
         ∧ s.run.state ≠ .active
         ∧ (s.cable.traverseCount + 1000 - (6000 : Int) * 1000).natAbs ≤ s.cable.settings.tolerance * 1000
         ∧ s.cable.settings.tolerance * 1000 < (5949000 - (6000 : Int) * 1000).natAbs)
    ∧ base.cable.settings.traverseScale = none ∧ base.cable.drive = none
    ∧ (carriage .parked).settings.reelScale = some 1000 ∧ (carriage .parked).switches.reelTop = true
    ∧ (wetted (carriage .atPoint)).switches.reelTop = false
    ∧ (let c := wetted (driven (.toPoint 999) .reelUp)
       c.motion = .toPoint 999 ∧ c.drive = some .reelUp ∧ c.surfacePoint = some 0
         ∧ c.reelCount - 1000 - 0 ≤ 999 * 1000 ∧ (998 : Int) * 1000 < c.reelCount - 1000 - 0)
    ∧ (let c := wetted (driven (.seekingSurface .full) .reelDown)
       c.motion = .seekingSurface .full ∧ c.drive = some .reelDown ∧ c.reelCount + 1000 < 30000000
         ∧ (30000000 : Int) ≤ { c with reelCount := 29999000 }.reelCount + 1000) := by
  refine ⟨⟨by decide, nofun⟩, ?_⟩
  decide

theorem test_witness_SwitchesAlone :
    (let c := carriage .parked
     { c with switches := { c.switches with homeLimit := true } }.switches.homeLimit = true
       ∧ c.switches.reelTop = true ∧ c.switches.bottom = false)
    ∧ base.cable.switches.overload = false ∧ base.cable.motion = .unreferenced ∧ base.cable.drive = none
    ∧ (driven .homing .traverseIn).stall = some 5000 ∧ (later 4999 base).now < 5000 := by decide

/-- A run that returns. -/
def returning (c : Cableway) (vs : List VerticalResult) : State :=
  running (fun x => { x with
    state := .returning, verticals := vs
    start := some { runTime := 0, stationTime := none, stage := some 2263, quality := .good } })
    (stage (fun x => { x with stage := some 2281 }) (placed c (ready 0)))

theorem test_witness_TopAndLimitSwitches :
    (let s := placed (driven .homing .traverseIn) base
     s.cable.switches.homeLimit = false ∧ s.cable.motion = .homing ∧ s.cable.drive = some .traverseIn
       ∧ s.run.state ≠ .returning ∧ s.run.state ≠ .aborted)
    ∧ (driven (.travelling 0) .traverseIn).motion = .travelling 0
    ∧ (driven (.travelling 1) .traverseIn).motion = .travelling 1 ∧ (carriage .parked).drive ≠ some .traverseIn
    ∧ (driven (.travelling 6000) .traverseOut).drive = some .traverseOut
    ∧ (driven (.travelling 6000) .traverseOut).switches.farLimit = false
    ∧ (let s := placed (wetted (driven .homing .reelUp)) base
       s.cable.switches.reelTop = false ∧ s.cable.motion = .homing ∧ s.cable.switches.homeLimit = false)
    ∧ (wetted (driven .raising .reelUp)).motion = .raising ∧ (wetted (carriage .atVertical)).motion = .atVertical
    ∧ (driven .homing .traverseIn).switches.reelTop = true ∧ traverseMotion .homing = true
    ∧ traverseMotion .parked = false := by decide

theorem test_witness_RunCompletes :
    (let s := returning (driven .retracting .traverseIn) [vertical 1 2000 0 0 none, vertical 2 6000 1240 277 none]
     s.run.state = .returning ∧ s.cable.motion = .retracting ∧ s.cable.drive = some .traverseIn
       ∧ s.cable.switches.homeLimit = false ∧ s.run.start.bind (·.stage) = some 2263 ∧ s.stage.stage = some 2281
       ∧ (s.run.verticals.filter fun v => v.skip.isNone).length < 3)
    ∧ 3 ≤ ([vertical 1 2000 0 0 none, vertical 2 6000 1240 277 none, vertical 5 21000 0 0 none].filter
        fun v => v.skip.isNone).length := by decide

theorem test_witness_Velocity :
    29 < rating.startRate ∧ rating.startRate ≤ 400 ∧ (rating.segments.map (·.lower)).IsChain (· < ·)
      ∧ ⟨400, 18, 251000⟩ ∈ rating.segments ∧ (∀ h ∈ rating.segments, h.lower ≤ 400 → h.lower ≤ 400)
      ∧ (ready 0).gauging.rating = some rating ∧ 0 < 15 := by decide

theorem test_witness_Contacts :
    (let s := placed (wetted (driven (.seekingSurface .full) .reelDown)) base
     s.cable.motion = .seekingSurface .full ∧ s.cable.drive = some .reelDown ∧ s.cable.switches.surface = false
       ∧ s.cable.switches.bottom = false)
    ∧ (let s := placed (wetted (driven (.seekingSurface .surface) .reelDown)) base
       s.cable.motion = .seekingSurface .surface ∧ s.run.state ≠ .active)
    ∧ (wetted (driven (.seekingBottom .seek) .reelDown)).motion = .seekingBottom .seek
    ∧ (wetted (driven (.toPoint 5) .reelDown)).motion = .toPoint 5 ∧ (carriage .parked).drive = none
    ∧ (let c (n : Nat) : Cableway :=
         { wetted (carriage (.seekingBottom .hold)) with
           hold := some 1000, sounding := some { failed := n, depth := none }
           switches := { resetCable.switches with bottom := true } }
       (c 1).switches.bottom = true ∧ (c 1).motion = .seekingBottom .hold ∧ (c 1).hold = some 1000
         ∧ (c 1).drive = none ∧ (c 1).sounding = some { failed := 1, depth := none } ∧ (c 1).surfacePoint = some 0
         ∧ (c 1).reelCount - 0 = 1000000 ∧ (0 : Int) < 1000000
         ∧ (gaugingAt .sound (c 2)).run.state = .active ∧ (gaugingAt .sound (c 2)).run.phase = some .sound
         ∧ (gaugingAt .sound (c 2)).cable.switches.reelTop = false
         ∧ (gaugingAt .sound (c 2)).cable.sounding = some { failed := 2, depth := none }) := by decide

theorem test_witness_MotionFaults :
    (carriage .parked).switches.overload = false ∧ (carriage .parked).motion ≠ .unreferenced
      ∧ (carriage .parked).motion ≠ .faulted
      ∧ (let s := later 5000 (gaugingAt .travel (driven (.travelling 6000) .traverseOut))
         s.cable.stall = some 5000 ∧ 5000 ≤ s.now ∧ s.cable.drive ≠ none ∧ s.run.state = .active)
      ∧ (returning (carriage .retracting) []).run.state = .returning ∧ base.run.state = .idle := by decide

/-- The hold of a sounding at reel depth 1 m that has failed twice. -/
def holding : Cableway :=
  { wetted (carriage (.seekingBottom .hold)) with
    hold := some 1000, sounding := some { failed := 2, depth := none }
    switches := { resetCable.switches with bottom := true } }

/-- The weight at a point, settling until 10000. -/
def settling : Cableway := { wetted (carriage .atPoint) with settle := some 10000 }

theorem test_witness_HoldAndSettle :
    (let s := later 1000 (placed holding base)
     s.cable.hold = some 1000 ∧ s.cable.surfacePoint = some 0
       ∧ s.cable.sounding = some { failed := 2, depth := none } ∧ 1000 ≤ s.now ∧ s.run.state ≠ .active)
    ∧ (let s := later 1000 (gaugingAt .sound holding)
       s.run.state = .active ∧ s.run.phase = some .sound ∧ (entryInHand s).method = .onePoint
         ∧ s.cable.settings.weightOffset < (millimetres (s.cable.reelCount - 0)).toNat
         ∧ s.cable.motion = .seekingBottom .hold ∧ s.cable.switches.bottom = true
         ∧ s.cable.switches.reelTop = false)
    ∧ (millimetres ({ holding with reelCount := 150000 }.reelCount - 0)).toNat ≤ holding.settings.weightOffset
    ∧ (later 999 base).now < 1000
    ∧ (let s := later 10000 (gaugingAt .place settling)
       s.cable.motion = .atPoint ∧ s.cable.settle = some 10000 ∧ 10000 ≤ s.now ∧ s.run.state = .active
         ∧ s.run.phase = some .place)
    ∧ (later 9999 base).now < 10000 := by decide

theorem test_witness_ExposureCourse :
    (let e := exposure .waitingFirst none none 0 (some 30000)
     (exposed e).run.exposure = some e ∧ e.state = .waitingFirst ∧ e.start = none ∧ e.lastCounted = none
       ∧ e.expiry = some 30000 ∧ (exposed e).run.vertical.remaining = [] ∧ (exposed e).cable.motion = .atPoint
       ∧ (exposed e).cable.switches.reelTop = false ∧ 30000 ≤ (later 30000 (exposed e)).now
       ∧ (later 29999 (exposed e)).now < 30000)
    ∧ (let e := exposure .counting (some 0) none 0 none
       e.state = .counting ∧ e.start = some 0 ∧ (later 14 (exposed e)).now < e.lastCounted.getD 0 + 15
         ∧ e.lastCounted.getD 0 + 15 ≤ (later 15 (exposed e)).now ∧ (later 15 (exposed e)).now < 0 + e.length
         ∧ 0 + e.length ≤ (later 60000 (exposed e)).now)
    ∧ (let e := exposure .ending (some 0) (some 59999) 52 (some 90000)
       e.state = .ending ∧ e.start = some 0 ∧ e.lastCounted.getD 0 + 15 ≤ (later 60014 (exposed e)).now
         ∧ e.expiry = some 90000 ∧ 90000 ≤ (later 90000 (exposed e)).now ∧ e.lastCounted = some 59999
         ∧ 0 < e.contacts)
    ∧ (exposure .ending (some 0) none 0 (some 90000)).contacts = 0 ∧ base.run.exposure = none := by decide

/-- A step that changes the level, one that appends a record and one that drives the carriage. -/
theorem test_witness_BeaconsAlwaysFollowTheLevel :
    base.BeaconsHeld ∧ ∃ t, step (base.setPending [.warningFloor 1 3]) = .next t ∧ t.warning.level = 3 := by
  refine ⟨by unfold State.BeaconsHeld; decide, _, rfl, by decide⟩

theorem test_witness_LevelAlwaysHeld :
    base.LevelHeld ∧ ∃ t, step ((later 1000 (ruled .confirming)).setPending [.confirmTimerExpiry 8]) = .next t
      ∧ t.warning.level = 3 := by
  refine ⟨by unfold State.LevelHeld; decide, _, rfl, by decide⟩

theorem test_witness_RingAlwaysHeld :
    base.RingHeld ∧ ∃ t, step ((later 60000 base).setPending [.recordTimerExpiry]) = .next t
      ∧ t.stage.ring.length = 1 ∧ t.stage.nextSequence = 1 := by
  refine ⟨⟨by decide, .nil, trivial⟩, _, rfl, by decide⟩

theorem test_witness_DriveAlwaysHeld :
    base.DriveHeld ∧ ∃ t, step ((placed (carriage .unreferenced) base).setPending [.carriageHome 1]) = .next t
      ∧ t.cable.drive = some .traverseIn := by
  refine ⟨by unfold State.DriveHeld; decide, _, rfl, by decide⟩


/-! ## Witnesses of the clauses on runs, quiet mode, the field line's replies and RC -/

/-- 1.10, the worked fallback: the last edge at 7,203,110 and four ms without one; and one a ms after the automatic switch,
three of them counted on RC already. -/
theorem test_fallback :
    (edgeGapExpires (time (fun x => { x with
      source := .xtal, crystal := .running, runTime := 7203110, reference := 7203114, edgeless := 4
      edgeGap := some 7203114 }) base)).now = 7203114
    ∧ (let u := qualificationExpires (time (fun x => { x with
         crystal := .starting, arm := true, runTime := 1000, reference := 1000, edgeGap := some 1001
         qualification := some 1000 }) base)
       u.time.source = .xtal ∧ u.now = 1000
         ∧ (edgeGapExpires (u.setTime (tickTime u.time))).now = 1001) := by decide

theorem test_witness_RcTick :
    (let t (k : Nat) (c : Int) : TimeBase := { resetTime with correction := c, blockCount := k }
     (t 0 0).source = .rc ∧ (t 0 0).completing = none ∧ (t 0 0).early = 0
       ∧ blockAdvance 0 1 - blockAdvance 0 0 = 1 ∧ blockAdvance 2000 500 - blockAdvance 2000 499 = 2
       ∧ blockAdvance (-2000) 501 - blockAdvance (-2000) 500 = 0 ∧ (t 499 2000).blockCount = 499
       ∧ (t 499 2000).runTime + 2 ≤ Config.lastRunTime)
    ∧ ({ resetTime with source := .xtal } : TimeBase).source = .xtal := by decide

theorem test_witness_WarmResetLevel :
    (let s := warning (fun x => { x with level := 3 }) (later 1000 (ruled .active))
     s.LevelHeld ∧ s.warning.rules[(7 : Fin 8)].definition ≠ defaultStored.rules[(7 : Fin 8)]
       ∧ s.stage.ring = []
       ∧ (let t := stage (fun x => { x with ring := [recordAt 7 1000 none] }) s
          t.stage.ring.getLast? = some (recordAt 7 1000 none) ∧ t.now ≤ (recordAt 7 1000 none).runTime))
    ∧ (let s := supervisor (fun x => { x with
         storeValid := true, store := { x.store with rules := x.store.rules.set 7 (ruleIn .active).definition } })
         (ruled .active)
       s.warning.rules[(7 : Fin 8)].definition = s.supervisor.store.rules[(7 : Fin 8)]
         ∧ s.supervisor.store.rules[(7 : Fin 8)].enable = true) := by unfold State.LevelHeld; decide

theorem test_witness_MonitorExpiries :
    (let s := time (fun x => { x with
       source := .xtal, crystal := .running, reference := 7203114, edgeGap := some (7203110 + 4), edgeless := 4
       stationTime := some Config.lastStationTime }) base
     reached s.time.edgeGap s.time.reference = true ∧ s.time.runTime + s.time.edgeless ≤ Config.lastRunTime
       ∧ s.time.stationTime = some Config.lastStationTime ∧ s.link.notice ≠ none)
    ∧ (time (fun x => { x with crystal := .running, source := .rc }) base).time.source = .rc := by decide

theorem test_witness_TimeRequests_rc :
    (leftOfTick base.time = 1 ∧ base.time.source = .rc ∧ base.time.runTime + 1 ≤ Config.lastRunTime)
    ∧ leftOfTick { base.time with correction := 2000, blockCount := 499 } = 2
    ∧ leftOfTick { base.time with correction := -2000, blockCount := 500 } = 0
    ∧ (let s := time (fun x => { x with source := .xtal, edgeless := 3 }) base
       s.Calm ∧ s.time.source = .xtal ∧ 3 = max 1 s.time.edgeless ∧ s.time.runTime + 3 ≤ Config.lastRunTime)
    ∧ saving.Calm ∧ saving.supervisor.saving ≠ none ∧ (2 : Nat) ^ 47 - 1 < 2 ^ 47 ∧ (0 : Nat) ≤ 2 ^ 47 - 1 := by unfold State.Calm; decide

theorem test_witness_WakeSet :
    (let a : WakeSetArgs := ⟨1, 0, 2000000, 0, 0, 1, 1⟩
     a.levelChange ≤ 1 ∧ a.stage ≤ 1 ∧ a.rate ≤ 1 ∧ a.levelFive ≤ 1 ∧ a.postFault ≤ 1)
    ∧ 1 < (⟨0, 0, 0, 0, 0, 0, 2⟩ : WakeSetArgs).postFault := by decide

set_option maxRecDepth 20000 in
/-- Eight records with station time and rate: the reply ends before the eighth. -/
theorem test_witness_RecordReading :
    (let s := stage (fun x => { x with
       ring := (List.range 8).map fun i => { recordAt i i (some 2263) with stationTime := some 5, rate := some 612 }
       nextSequence := 8 }) base
     s.Calm ∧ 200 < (payloadOctets ([.flag false, .num 1 8] ++ optNum 4 (some 0) ++ [.num 4 8]
       ++ (s.stage.ring.map recordFields).flatten)).length) := by unfold State.Calm; decide

/-- A poll of entry 1 whose reply window is open, and its post. -/
def awaiting : State := underWay .replyWindow (.poll 0) 0
def postLine : State :=
  field (fun x => { x with
    heads := x.heads.set 0 { x.heads[0] with config := { x.heads[0].config with kind := .post, channel := none } } })
    awaiting

set_option maxRecDepth 20000 in
theorem test_witness_PollAnswered :
    awaiting.field.tx = .replyWindow ∧ awaiting.supervisor.quiet = .normal
      ∧ awaiting.field.transaction.map (·.kind) = some (.poll 0)
      ∧ fieldFrameOf (fieldBody 16 1 0x11 [0, 0, 0x48, 0, 0])
          = some { destination := 16, source := 1, kind := 0x11, payload := [0, 0, 0x48, 0, 0] }
      ∧ awaiting.field.settings.capture = false ∧ (16 : Byte) = awaiting.field.settings.ownAddress
      ∧ awaiting.field.heads[(0 : Fin 8)].config.enable = true
      ∧ awaiting.field.heads[(0 : Fin 8)].config.kind = .stage
      ∧ awaiting.field.heads[(0 : Fin 8)].config.address = 1
      ∧ (∀ j : Fin 8, j ≠ 0 → awaiting.field.heads[j].config.enable = false)
      ∧ awaiting.field.heads[(0 : Fin 8)].config.channel = some ((0 : Fin 4).val + 1) := by decide

set_option maxRecDepth 20000 in
theorem test_witness_PostStatusDelivered :
    fieldFrameOf (fieldBody 16 1 0x21 [3, 1, 1])
        = some { destination := 16, source := 1, kind := 0x21, payload := [3, 1, 1] }
      ∧ postLine.field.tx ≠ .sending ∧ postLine.supervisor.quiet = .normal ∧ postLine.field.settings.capture = false
      ∧ postLine.field.heads[(0 : Fin 8)].config.enable = true
      ∧ postLine.field.heads[(0 : Fin 8)].config.kind = .post
      ∧ postLine.field.heads[(0 : Fin 8)].config.address = 1
      ∧ (∀ j : Fin 8, j ≠ 0 → postLine.field.heads[j].config.enable = false)
      ∧ (16 : Byte) = postLine.field.settings.ownAddress ∧ postLine.field.tx = .replyWindow
      ∧ postLine.link.notice ≠ none ∧ postFault postLine 0 ≠ true
      ∧ (let s := field (fun x => { x with
           tx := .free, heads := x.heads.set 0 { x.heads[0] with
             state := .answering, post := some { displayed := 3, siren := true, fault := true } } }) postLine
         s.field.tx ≠ .replyWindow ∧ s.field.heads[(0 : Fin 8)].state = .answering ∧ postFault s 0 = true) := by decide

/-- The management transaction of entry 1's parameter 5 awaits its reply. -/
def asking : State :=
  field (fun x => { x with
    management := some { entry := 0, op := .get, parameter := 5, value := none, inFlight := true } })
    (underWay .replyWindow .management 0)

set_option maxRecDepth 20000 in
theorem test_witness_ParamAnswered :
    asking.field.tx = .replyWindow ∧ asking.field.management.map (·.entry) = some 0
      ∧ asking.field.management.map (·.parameter) = some (5 : Byte).toNat
      ∧ asking.field.management.map (·.parameter) ≠ some (6 : Byte).toNat
      ∧ asking.field.transaction.map (·.kind) = some .management ∧ asking.field.settings.capture = false
      ∧ fieldFrameOf (fieldBody 16 1 0x14 [5, 1])
          = some { destination := 16, source := 1, kind := 0x14, payload := [5, 1] }
      ∧ fieldFrameOf (fieldBody 16 1 0x14 [5, 0, 0, 0, 1, 2])
          = some { destination := 16, source := 1, kind := 0x14, payload := [5, 0, 0, 0, 1, 2] }
      ∧ asking.field.heads[(0 : Fin 8)].config.enable = true
      ∧ asking.field.heads[(0 : Fin 8)].config.address = 1 ∧ asking.link.notice ≠ none
      ∧ (∀ j : Fin 8, j ≠ 0 → asking.field.heads[j].config.enable = false) := by decide

/-- 23,630 is 1,263 mm off the last accepted 1,100; 12,263 tenths agrees with a candidate of 1,263 mm within the limit. -/
theorem test_witness_StepRejections :
    (let c := live .valid [1100] 7
     c.state ≠ .off ∧ correctedValue c.settings 23630 = 2363 ∧ c.settings.minimum ≤ 2363 ∧ 2363 ≤ c.settings.maximum
       ∧ c.window.getLast? = some 1100 ∧ c.settings.stepLimit ≠ 0
       ∧ c.settings.stepLimit < ((2363 : Int) - 1100).natAbs ∧ c.chainLength = 0 ∧ c.rejections = 7
       ∧ c.state ≠ .faulted)
    ∧ (let c := { live .valid [1100] 1 with chainLength := 1, candidate := some 2300 }
       c.chainLength = 1 ∧ c.rejections < 7 ∧ ((2363 : Int) - 2300).natAbs ≤ c.settings.stepLimit)
    ∧ (let c := { live .valid [1100] 2 with chainLength := 2, candidate := some 2300 }
       2 ≤ c.chainLength ∧ c.candidate = some 2300)
    ∧ (live .faulted [1100] 8).state = .faulted ∧ 7 ≤ (live .faulted [1100] 8).rejections := by decide

/-- In quiet mode, with every wake condition enabled. -/
def dozing (s : State) : State :=
  supervisor (fun x => { x with quiet := .quiet, wake := ⟨true, true, 2000, true, 100, true, true⟩ }) s

set_option maxRecDepth 20000 in
theorem test_witness_Wakes :
    (dozing base).supervisor.quiet = .quiet ∧ (dozing base).link.notice ≠ none ∧ base.supervisor.quiet ≠ .quiet
      ∧ (dozing base).supervisor.wake.wakeStage ≤ 2000 ∧ (dozing base).supervisor.wake.wakeRate ≤ 100
      ∧ (let s := dozing (later 1000 (ruled .confirming))
         s.LevelHeld ∧ s.warning.rules[(7 : Fin 8)].timer = .running 1000 ∧ 1000 ≤ s.now
           ∧ s.warning.rules[(7 : Fin 8)].state = .confirming
           ∧ s.warning.level < s.warning.rules[(7 : Fin 8)].definition.level
           ∧ (∀ j : Fin 8, s.warning.rules[j].definition.kind = .stage)
           ∧ s.supervisor.wake.levelFive = true ∧ s.notices.slots[sourcePlace .warning] = none)
      ∧ (let s := dozing (field (fun x => { x with tx := .free }) postLine)
         s.field.tx ≠ .sending ∧ s.field.heads[(0 : Fin 8)].post = none
           ∧ fieldFrameOf (fieldBody 16 1 0x21 [0, 0, 1])
               = some { destination := 16, source := 1, kind := 0x21, payload := [0, 0, 1] })
      ∧ (let s := dozing (stage (fun x => { x with
           stage := some 2415, ring := [recordAt 7 7200000 (some 2262)] }) (later 8100000 base))
         s.stage.recordExpiry ≤ s.now ∧ s.stage.waiting = []
           ∧ s.stage.ring.getLast? = some (recordAt 7 7200000 (some 2262))
           ∧ (recordAt 7 7200000 (some 2262)).runTime < s.now
           ∧ rateOf s.stage.ring s.stage.settings.rateWindow s.now 2415 = some 612) := by
  unfold State.LevelHeld; decide

theorem test_witness_Backoff_ends :
    (let s := underWay .sending (.warn 2) 7
     s.field.tx = .sending ∧ s.field.transaction.map (·.kind) = some (.warn 2) ∧ s.link.notice ≠ none)
    ∧ (let s := field (fun x => { x with
         management := asking.field.management
         transaction := x.transaction.map fun t => { t with singleAttempt := true } })
         (underWay .sending .management 0)
       s.field.transaction.map (·.singleAttempt) = some true ∧ s.field.management ≠ none
         ∧ s.field.transaction.map (·.kind) = some .management) := by decide

theorem test_witness_Save_notice : saving.link.notice ≠ none ∧ saving.notices.slots[sourcePlace .saveDone] = none := by
  decide

/-- RUN_START waits for the line while the part is AUTONOMOUS. -/
def startWaits : State :=
  warning (fun x => { x with autonomous := true })
    (link (fun x => { x with line := some .reply, waiting := some { kind := 0x2F, tag := 1, content := .ok .runStart } })
      (ready 51))

theorem test_witness_RunStartInAutonomy :
    startWaits.warning.autonomous = true ∧ startWaits.run.state ≠ .active ∧ startWaits.run.state ≠ .returning
      ∧ startWaits.link.line = some .reply ∧ startWaits.link.restart ≠ .accepted
      ∧ startWaits.link.waiting = some { kind := 0x2F, tag := 1, content := .ok .runStart }
      ∧ startWaits.cable.motion = .parked ∧ planUnfit startWaits = false ∧ startWaits.gauging.rating ≠ none
      ∧ (∃ e ∈ startWaits.gauging.plan.entries, e.method ≠ .edge)
      ∧ startWaits.cable.switches.surface = false
      ∧ startWaits.warning.level < startWaits.warning.settings.withdrawLevel := by decide

/-- An ACTIVE run in phase TRAVEL to entry `n` of `plan 51`, 1 m of count short of it. -/
def arriving (n : Nat) (at' : Int) (skip : Bool) : State :=
  running (fun x => { x with vertical := { freshVertical n with skipMark := skip } })
    (gauging (fun x => { x with plan := plan 51 })
      (gaugingAt .travel { driven (.travelling (at'.toNat / 1000)) .traverseOut with traverseCount := at' - 1000 }))

theorem test_witness_ArrivalInRun :
    (let s := arriving 2 6000000 false
     s.cable.settings.traverseScale = some 1000 ∧ s.cable.motion = .travelling 6000
       ∧ s.cable.drive = some .traverseOut ∧ s.cable.positionKnown = true ∧ s.cable.switches.reelTop = true
       ∧ s.run.state = .active ∧ s.run.phase = some .travel ∧ s.run.vertical = { freshVertical 2 with skipMark := false }
       ∧ (planEntry s 2).method ≠ .edge ∧ s.cable.switches.surface = false ∧ s.cable.reelCount < 30000000
       ∧ (s.cable.traverseCount + 1000 - (6000 : Int) * 1000).natAbs ≤ s.cable.settings.tolerance * 1000)
    ∧ (let s := arriving 2 6000000 true
       s.run.vertical.skipMark = true ∧ 2 < s.gauging.plan.entries.length ∧ s.cable.switches.farLimit = false
         ∧ (6000000 : Int) + s.cable.settings.tolerance * 1000 < (planEntry s (2 + 1)).distance * 1000)
    ∧ (let s := arriving 3 21000000 false
       (planEntry s 3).method = .edge ∧ s.gauging.plan.entries.length ≤ 3 ∧ s.cable.switches.homeLimit = false) := by
  decide

theorem test_witness_WeightGoesDown :
    (let c := { wetted (driven (.seekingBottom .seek) .reelDown) with reelCount := 5000000 }
     c.settings.reelScale = some 1000 ∧ c.switches.reelTop = false ∧ c.switches.bottom = false
       ∧ c.drive = some .reelDown ∧ c.surfacePoint = some 0 ∧ c.settings.maxDepth = some 5000
       ∧ (5000 : Int) * 1000 < c.reelCount + 1000 - 0 ∧ (c.reelCount - 1000) + 1000 - 0 ≤ (5000 : Int) * 1000)
    ∧ (let c := wetted (driven (.toPoint 1001) .reelDown)
       c.motion = .toPoint 1001 ∧ (1001 : Int) * 1000 ≤ c.reelCount + 1000 - 0)
    ∧ (let c := wetted (driven (.toPoint 1002) .reelDown)
       c.reelCount + 1000 - 0 < (1002 : Int) * 1000)
    ∧ (let c := wetted (driven (.seekingBottom (.bounce 1299000)) .reelUp)
       c.motion = .seekingBottom (.bounce 1299000) ∧ c.drive = some .reelUp
         ∧ c.reelCount - 1000 - 0 ≤ (1299000 : Int) - 300000 ∧ (1298999 : Int) - 300000 < c.reelCount - 1000 - 0
         ∧ 0 < c.reelCount - 1000 - 0 ∧ c.reelCount - 1000 - 0 ≤ (5000 : Int) * 1000) := by decide

theorem test_witness_HomeInRun :
    (let s := running (fun x => { x with state := .aborted, outcome := some .inProgress })
       (placed (driven .retracting .traverseIn) (ready 0))
     s.cable.switches.homeLimit = false ∧ s.cable.motion = .retracting ∧ s.cable.drive = some .traverseIn
       ∧ s.run.state = .aborted ∧ s.run.outcome = some .inProgress ∧ s.link.notice ≠ none)
    ∧ (let s := running (fun x => { x with vertical := freshVertical 1 })
         (gaugingAt .travel (driven (.travelling 0) .traverseIn))
       s.cable.switches.homeLimit = false ∧ s.cable.motion = .travelling 0 ∧ s.cable.drive = some .traverseIn
         ∧ s.cable.positionKnown = true ∧ s.cable.switches.reelTop = true ∧ s.run.state = .active
         ∧ s.run.phase = some .travel ∧ s.run.vertical = freshVertical 1 ∧ (planEntry s 1).method = .edge
         ∧ 1 < s.gauging.plan.entries.length ∧ s.cable.settings.tolerance < (planEntry s (1 + 1)).distance
         ∧ s.cable.switches.farLimit = false) := by decide

theorem test_witness_RaiseInRun :
    (let s := gaugingAt .raise { wetted (driven .raising .reelUp) with traverseCount := 6000000 }
     s.cable.switches.reelTop = false ∧ s.cable.motion = .raising ∧ s.cable.positionKnown = true
       ∧ s.run.state = .active ∧ s.run.phase = some .raise
       ∧ s.run.vertical.index < s.gauging.plan.entries.length ∧ s.cable.switches.farLimit = false
       ∧ s.cable.traverseCount + s.cable.settings.tolerance * 1000
          < (planEntry s (s.run.vertical.index + 1)).distance * 1000)
    ∧ (let s := running (fun x => { x with vertical := { freshVertical 3 with marked := some .byRequest } })
         (gaugingAt .raise (wetted (driven .raising .reelUp)))
       s.gauging.plan.entries.length ≤ s.run.vertical.index ∧ s.cable.switches.homeLimit = false) := by decide

/-- An ACTIVE run whose SURFACE sounding of a vertical with a depth override of `d` mm is under way. -/
def surfacing (d : Nat) (m : Method) : State :=
  gauging (fun x => { x with plan := { x.plan with entries :=
      [⟨0, .edge, none, none, none⟩, ⟨6000, m, some d, none, none⟩, ⟨21000, .edge, none, none, none⟩] } })
    (gaugingAt .sound { wetted (driven (.seekingSurface .surface) .reelDown) with surfacePoint := none })

theorem test_witness_SurfaceInRun :
    (let s := surfacing 1240 .onePoint
     s.cable.motion = .seekingSurface .surface ∧ s.cable.drive = some .reelDown ∧ s.cable.switches.surface = false
       ∧ s.cable.switches.bottom = false ∧ s.cable.switches.reelTop = false ∧ s.run.state = .active
       ∧ s.run.phase = some .sound ∧ (entryInHand s).depth = some 1240 ∧ 1 ≤ s.cable.settings.weightOffset
       ∧ (entryInHand s).method = .onePoint ∧ s.cable.settings.weightOffset < 1240)
    ∧ (entryInHand (surfacing 1240 .twoPoint)).method = .twoPoint
    ∧ (entryInHand (surfacing 1240 .threePoint)).method = .threePoint
    ∧ (entryInHand (surfacing 5 .surface)).method = .surface
    ∧ (let s := surfacing 5 .onePoint
       (entryInHand s).depth = some 5 ∧ 5 ≤ s.cable.settings.weightOffset) := by decide

theorem test_witness_MeanVelocity :
    (let p (f : Fraction) (v : Nat) : PointRecord :=
       { fraction := f, meterDepth := 0, contacts := 0, time := none, rate := none, velocity := v
         flags := ⟨false, false, false, false, false, false, false⟩ }
     (∀ f ∈ [Fraction.eight, .two], (∃ q ∈ [p .eight 5, p .two 8], q.fraction = f)
       ∧ ∀ q ∈ [p .eight 5, p .two 8], q.fraction = f → q.velocity = (if f = .two then 8 else 5))
     ∧ meanVelocity ⟨6000, .twoPoint, none, none, none⟩ [p .eight 5, p .two 8] = 7) := by decide

/-! ## Witnesses of the clauses on what a reset loads, on refusals, and on motions and exposures that go on -/

theorem test_witness_ResetLoads :
    (Instr.powerOn = .powerOn ∧ base.supervisor.storeValid = false ∧ saving.supervisor.saving ≠ none)
    ∧ (supervisor (fun x => { x with storeValid := true }) base).supervisor.storeValid = true
    ∧ (link (fun x => { x with restart := .due }) base).link.restart = .due := by decide

theorem test_witness_CarriageHomeRefused :
    (let s := gaugingAt .travel (driven .homing .traverseIn)
     s.Calm ∧ s.run.state = .active)
    ∧ (let s := placed (driven .retracting .traverseIn) base
       s.Calm ∧ s.run.state ≠ .active ∧ s.cable.settings.traverseScale ≠ none ∧ s.cable.settings.reelScale ≠ none
         ∧ s.cable.settings.span ≠ none ∧ s.cable.settings.maxDepth ≠ none ∧ s.cable.switches.overload = false
         ∧ s.cable.motion = .retracting)
    ∧ (driven .homing .traverseIn).motion = .homing
    ∧ (carriage .atVertical).motion ∉ [.unreferenced, .parked, .faulted, .homing, .retracting] := by
  unfold State.Calm; decide

/-- The management transaction of `asking` in flight. -/
def flying (tx : TxState) : State :=
  field (fun x => { x with management := asking.field.management }) (underWay tx .management 0)

theorem test_witness_ManagementUnanswered :
    (let s := later 250 (flying .replyWindow)
     s.field.transaction.map (·.kind) = some .management ∧ s.field.management ≠ none ∧ s.field.tx = .replyWindow
       ∧ s.field.window = some 250 ∧ 250 ≤ s.now ∧ s.link.notice ≠ none)
    ∧ (let s := later 1500 (flying .waitingIdle)
       s.field.tx = .waitingIdle ∧ s.field.deferral = some 1500 ∧ 1500 ≤ s.now) := by decide

theorem test_witness_ReelTopInMotion :
    (let c := wetted (driven (.travelling 6000) .reelUp)
     c.switches.reelTop = false ∧ c.drive = some .reelUp ∧ c.positionKnown = true
       ∧ c.settings.tolerance * 1000 < ((6000 : Int) * 1000 - c.traverseCount).natAbs
       ∧ 0 < (6000 : Int) * 1000 - c.traverseCount ∧ c.switches.farLimit = false ∧ c.switches.homeLimit = false)
    ∧ (let c := { wetted (driven (.travelling 0) .reelUp) with traverseCount := 51000 }
       c.settings.tolerance * 1000 < ((0 : Int) * 1000 - c.traverseCount).natAbs
         ∧ (0 : Int) * 1000 - c.traverseCount < 0 ∧ base.run.state ≠ .active
         ∧ ({ c.switches with homeLimit := true, farLimit := true } : Switches).homeLimit = true)
    ∧ (let c := { wetted (driven (.travelling 6000) .reelUp) with traverseCount := 5950000 }
       ((6000 : Int) * 1000 - c.traverseCount).natAbs ≤ c.settings.tolerance * 1000)
    ∧ (wetted (driven .retracting .reelUp)).motion = .retracting
    ∧ (let c := wetted (driven .retracting .reelUp)
       let s := returning { c with switches := { c.switches with homeLimit := true } } []
       s.cable.switches.homeLimit = true ∧ s.run.state = .returning)
    ∧ (wetted (driven .homing .reelUp)).motion = .homing ∧ base.run.state ∉ [.returning, .aborted] := by decide

/-- The same as `exposed`, the weight at 0.8 and the point at 0.2 still to come. -/
def halfway (e : Exposure) : State :=
  running
    (fun x => { x with vertical := { x.vertical with
      depth := some 1240, remaining := [.two]
      point := some { fraction := .eight, meterDepth := 992, clamped := false, bedStop := false } } })
    (exposed e)

theorem test_witness_ExposureNextPoint :
    (let s := later 60000 (halfway (exposure .counting (some 0) (some 59000) 52 none))
     s.cable.motion = .atPoint ∧ s.cable.drive = none ∧ s.cable.stall = none ∧ s.cable.switches.reelTop = false
       ∧ s.cable.surfacePoint = some 0 ∧ s.run.vertical.remaining = .two :: [] ∧ 59000 + 15 ≤ s.now
       ∧ 0 + 60000 ≤ s.now
       ∧ (248, false) = meterDepth .two (s.run.vertical.depth.getD 0) s.cable.settings.weightOffset
       ∧ ((248 + s.cable.settings.weightOffset : Nat) : Int) * 1000 < s.cable.reelCount - 0
       ∧ ((248 + 150 : Nat) : Int) * 1000 = 398000 - 0 ∧ 397999 - 0 < ((248 + 150 : Nat) : Int) * 1000
       ∧ s.cable.settings.maxDepth = some 5000 ∧ s.cable.switches.bottom = false)
    ∧ (let s := cable (fun x => { x with reelCount := 397999, settings := { x.settings with maxDepth := some 300 } })
         (halfway (exposure .ending (some 0) (some 59000) 52 (some 90000)))
       s.cable.reelCount - 0 < ((248 + s.cable.settings.weightOffset : Nat) : Int) * 1000
         ∧ s.cable.switches.bottom = false ∧ s.cable.settings.maxDepth = some 300
         ∧ (300 : Int) * 1000 < s.cable.reelCount - 0 ∧ s.run.state = .active)
    ∧ (let s := later 90000 (halfway (exposure .ending (some 0) none 0 (some 90000)))
       s.run.exposure.map (·.expiry) = some (some 90000) ∧ 90000 ≤ s.now)
    ∧ 30000 ≤ (later 30000 (halfway (exposure .waitingFirst none none 0 (some 30000)))).now := by decide

/-- R132: the contact that comes at t0 + E ends the exposure, though it counts still. -/
theorem test_witness_ExposureCounts_late :
    (let e := exposure .counting (some 0) (some 59000) 52 none
     e.state = .counting ∧ e.start = some 0 ∧ 0 + e.length ≤ (later 60000 (exposed e)).now
       ∧ e.lastCounted.getD 0 + 15 ≤ (later 60000 (exposed e)).now) := by decide

/-- The whole window: a record 900 s back with a stage, behind one without. -/
theorem test_witness_StageRecords_rate :
    (let s := stage (fun x => { x with
       stage := some 2415, ring := [recordAt 1 7199999 none, recordAt 2 7200000 (some 2262)] }) (later 8100000 base)
     s.stage.stage = some 2415 ∧ 0 < s.stage.settings.rateWindow
       ∧ s.heldRecords = [recordAt 1 7199999 none] ++ recordAt 2 7200000 (some 2262) :: []
       ∧ s.now ≤ 7200000 + s.stage.settings.rateWindow * 1000
       ∧ (∀ j ∈ [recordAt 1 7199999 none], j.stage = none)
       ∧ s.stage.settings.rateWindow * 500 ≤ s.now - 7200000 ∧ 8100000 - 7700000 < 900 * 500)
    ∧ (∀ j ∈ base.heldRecords, j.stage = none) := by decide

theorem test_witness_IndexedReads_notFound :
    base.Calm ∧ 40 ≤ 40 ∧ base.gauging.plan.entries.length < 40 ∧ ∀ v ∈ base.run.verticals, v.index ≠ 40 := by
  unfold State.Calm; decide

/-- Rule 8 as a RATE rule of level 3, its timer running to 1000. -/
def rateRuled (state : RuleState) : State :=
  warning (fun x => { x with
    rules := x.rules.set 7 { ruleIn state with definition := { (ruleIn state).definition with kind := .rate } } }) base

theorem test_witness_RuleStates_rate :
    (let s := later 1000 (rateRuled .confirming)
     s.warning.rules[(7 : Fin 8)].timer = .running 1000 ∧ s.warning.rules[(7 : Fin 8)].definition.kind = .rate
       ∧ 1000 ≤ s.now ∧ s.warning.rules[(7 : Fin 8)].state = .confirming ∧ s.LevelHeld
       ∧ s.warning.level < s.warning.rules[(7 : Fin 8)].definition.level ∧ s.stage.waiting = []
       ∧ s.stage.ring.getLast? = none)
    ∧ (let s := stage (fun x => { x with ring := [recordAt 1 1000 none] }) (later 1000 (rateRuled .confirming))
       s.stage.ring.getLast? = some (recordAt 1 1000 none) ∧ s.now ≤ (recordAt 1 1000 none).runTime ∧ s.LevelHeld)
    ∧ (let s := warning (fun x => { x with floor := 3, level := 3 }) (later 1000 (rateRuled .confirming))
       s.LevelHeld ∧ s.warning.rules[(7 : Fin 8)].definition.level ≤ s.warning.level)
    ∧ (rateRuled .clearing).warning.rules[(7 : Fin 8)].state = .clearing := by unfold State.LevelHeld; decide

theorem test_witness_RuleSet_rate :
    ({ ruleArgs with kind := 1 } : RuleSetArgs).enable = 1 ∧ base.Calm ∧ base.warning.rateInput = none
      ∧ (let s := warning (fun x => { x with rateInput := some 2000 }) base
         s.Calm ∧ s.warning.rateInput = some 2000 ∧ s.supervisor.saving = none) := by unfold State.Calm; decide

/-- The hold of a sounding at vertical 2, planned with another method. -/
def heldWith (m : Method) : State :=
  gauging (fun x => { x with plan := { x.plan with entries := x.plan.entries.map fun e => { e with method := m } } })
    (later 1000 (gaugingAt .sound holding))

theorem test_witness_HoldAndSettle_methods :
    (∀ m ∈ [Method.twoPoint, .threePoint, .surface],
      (entryInHand (heldWith m)).method = m ∧ (heldWith m).run.state = .active
        ∧ (heldWith m).run.phase = some .sound ∧ (heldWith m).cable.motion = .seekingBottom .hold
        ∧ (heldWith m).cable.settings.weightOffset < (millimetres ((heldWith m).cable.reelCount - 0)).toNat
        ∧ (heldWith m).cable.switches.bottom = true ∧ (heldWith m).cable.hold = some 1000
        ∧ 1000 ≤ (heldWith m).now) := by decide

/-- The end of a spell of AUTONOMOUS, with a notice in the holder; and the same with the transmitter FREE. -/
def spelled : State :=
  warning (fun x => { x with
    autonomous := true
    spell := some { enteredRunTime := 5, enteredStation := none, leftRunTime := none, leftStation := none, highest := 2
                    atDeparture := none, sirenStarts := 1 } }) base

theorem test_witness_FrameArrival_spell :
    spelled.warning.autonomous = true ∧ spelled.link.notice ≠ none ∧ spelled.warning.spell ≠ none
      ∧ spelled.warning.monitorSettings.enable = true ∧ spelled.field.tx ≠ .free
      ∧ (field (fun x => { x with tx := .free }) spelled).field.tx = .free
      ∧ Instr.timeRead 7 = requestCommand 7 .timeRead ∧ (∀ tag, Instr.timeRead 7 ≠ .quiet tag)
      ∧ (∀ tag e n, Instr.timeRead 7 ≠ .monitorSet tag e n)
      ∧ (warning (fun x => { x with monitorSettings := { x.monitorSettings with enable := false } })
          base).warning.monitorSettings.enable = false :=
  ⟨by decide, by decide, by decide, by decide, by decide, by decide, by decide, nofun, nofun, by decide⟩

theorem test_witness_WarningFloor_changes :
    (∀ j : Fin 8, base.warning.rules[j].definition.enable = true → base.warning.rules[j].definition.kind = .stage)
      ∧ ¬ base.AppendWaits ∧ base.link.notice ≠ none
      ∧ (stage (fun x => { x with waiting := [.interval] }) base).AppendWaits
      ∧ max 3 (rulesLevel base.warning.rules) = 3 ∧ base.warning.level < 3 ∧ base.warning.settings.sirenLevel ≤ 3
      ∧ base.warning.siren = .off ∧ loud.warning.siren = .sounding 1000
      ∧ (active .travel).run.state = .active ∧ (active .travel).warning.settings.withdrawLevel ≤ 3 := by
  refine ⟨by decide, ?_, by decide, .inl (by decide), by decide, by decide, by decide, by decide, by decide, by decide,
    by decide⟩
  unfold State.AppendWaits
  rw [not_or]
  exact ⟨by decide, nofun⟩

theorem test_witness_RuleStates_level :
    (let s := later 1000 (ruled .confirming)
     s.LevelHeld ∧ (∀ j : Fin 8, s.warning.rules[j].definition.enable = true → s.warning.rules[j].definition.kind = .stage)
       ∧ max s.warning.floor (rulesLevel (s.warning.rules.set 7
          { s.warning.rules[(7 : Fin 8)] with state := .active, timer := .none, lastChange := some 1000 })) = 3
       ∧ s.warning.level = 0)
    ∧ (let s := warning (fun x => { x with level := 3 }) (later 1000 (ruled .clearing))
       s.LevelHeld ∧ max s.warning.floor (rulesLevel (s.warning.rules.set 7
          { s.warning.rules[(7 : Fin 8)] with state := .idle, timer := .none, lastChange := some 1000 })) = 0)
    ∧ (let s := warning (fun x => { x with floor := 3, level := 3 }) (later 1000 (ruled .confirming))
       s.LevelHeld ∧ max s.warning.floor (rulesLevel (s.warning.rules.set 7
          { s.warning.rules[(7 : Fin 8)] with state := .active, timer := .none, lastChange := some 1000 }))
        = s.warning.level) := by unfold State.LevelHeld; decide

/-- Two notices wait at level 5 and one below, while a notice of level 3 is in service. -/
def crowded : State :=
  notices (fun x => { x with
    inService := [3]
    slots := ((x.slots.set 1 (some { content := [.num 1 1], merged := 0 })).set 2
      (some { content := [.num 1 2], merged := 4 })).set 3 (some { content := [.num 1 3], merged := 1 }) }) silent

/-- The statement's own condition for a slot, and its level. -/
def levelIn (s : State) (j : NoticeSource) : Nat :=
  if sourceNumber j ≤ 3 then 5 else s.notices.settings.sources[sourcePlace j].level
def okIn (s : State) (j : NoticeSource) : Prop :=
  s.notices.slots[sourcePlace j] ≠ none ∧ s.warning.autonomous = false ∧ 0 < levelIn s j
    ∧ (∀ l ∈ s.notices.inService, l < levelIn s j)
    ∧ (sourceNumber j ≤ 3 ∨ s.notices.settings.sources[sourcePlace j].enable = true)
    ∧ (s.notices.settings.master = true ∨ levelIn s j = 5) ∧ (s.notices.hold = none ∨ levelIn s j = 5)

theorem test_witness_NoticeRaised_chosen :
    (let s := link (fun x => { x with line := some .notice }) crowded
     s.link.line = some .notice ∧ s.link.reply = none ∧ s.link.waiting = none ∧ s.link.unready = false)
    ∧ crowded.notices.slots[sourcePlace .warning] = some { content := [.num 1 1], merged := 0 }
    ∧ okIn crowded .warning
    ∧ (∀ k ∈ noticeSources, okIn crowded k →
        levelIn crowded k < levelIn crowded .warning
          ∨ (levelIn crowded k = levelIn crowded .warning ∧ sourceNumber .warning ≤ sourceNumber k))
    ∧ okIn crowded .link
    ∧ (let s := notices (fun x => { x with hold := some 1000 }) (later 1000 crowded)
       s.link.line = none ∧ s.link.notice = none ∧ s.notices.hold = some 1000 ∧ 1000 ≤ s.now)
    ∧ (∀ k ∈ noticeSources, ¬ okIn silent k) := by unfold okIn; decide

/-! ## The widened statements -/

/-- Quiet mode over an entry without a next-due time and one that is due later than its normal interval from now. -/
def drowsy : State :=
  dozing (field (fun x => { x with
    heads := x.heads.set 1 { resetHead with
      config := { defaultHead with enable := true, address := 2 }, nextDue := some 60001 } }) freeLine)

theorem test_witness_FrameArrival_quiet :
    drowsy.supervisor.quiet ≠ .normal ∧ drowsy.field.heads[(0 : Fin 8)].config.enable = true
      ∧ drowsy.field.heads[(0 : Fin 8)].nextDue = none
      ∧ drowsy.now + drowsy.field.heads[(1 : Fin 8)].config.normal * 1000 < 60001
      ∧ drowsy.field.heads[(2 : Fin 8)].config.enable = false
      ∧ drowsy.now + drowsy.stage.settings.normalInterval * 1000 ≤ drowsy.stage.recordExpiry := by decide

/-- Channel 1 VALID at 2,263 mm in the vote, which it has decided. -/
def voting : State :=
  stage (fun x => { x with
    stage := some 2263, quality := .degraded, spread := some 0, chosen := some 1
    items := x.items.set 0 { state := .valid, filtered := some 2263 } }) stageLive

/-- The stale timer of channel 1 takes the stage away; a rank of 1 in STAGE_SET leaves it; a vote without a change. -/
theorem test_witness_Voted :
    (let s := later 300000 voting
     let v := voted (fun i => s.channels[i].settings.rank)
       { s.stage with items := s.stage.items.set 0 { state := .stale, filtered := none } }
     s.channels[(0 : Fin 4)].staleExpiry = some 300000 ∧ s.channels[(0 : Fin 4)].state = .valid ∧ 300000 ≤ s.now
       ∧ v.stage ≠ s.stage.stage ∧ v.quality ≠ s.stage.quality ∧ s.link.notice ≠ none)
    ∧ (let v := voted (fun i => voting.channels[i].settings.rank) voting.stage
       v.stage = voting.stage.stage ∧ v.quality = voting.stage.quality) := by decide

/-- The step itself: the stage goes, rule 8 on it is BLIND, CHANNEL_STATE and STAGE_QUALITY stand in their slots. -/
theorem test_staleExpiry_votes :
    let s := later 300000 (warning (fun x => { x with
      stageInput := some 2263, rules := x.rules.set 7 { ruleIn .idle with timer := .none } }) voting)
    let t := channelEvent 0 (goStale s.now) s
    exec (.staleExpiry 1) s = .next t ∧ t.stage.stage = none ∧ t.warning.stageInput = none ∧ t.stage.quality = .none
      ∧ t.stage.previousQuality = some .degraded ∧ t.warning.rules[(7 : Fin 8)].blind = true
      ∧ t.notices.slots[sourcePlace .channelState] ≠ none
      ∧ (t.notices.slots[sourcePlace .stageQuality]).map (·.merged) = some 1 := by
  refine ⟨rfl, ?_⟩
  decide

theorem test_witness_RuleSet_blind :
    base.warning.rules[(7 : Fin 8)].blind = false ∧ ({ ruleArgs with kind := 1 } : RuleSetArgs).kind = 1
      ∧ base.link.notice ≠ none := by decide

set_option maxRecDepth 20000 in
theorem test_witness_FieldReceiver_filter :
    (16 : Nat) = freeLine.field.settings.ownAddress ∧ freeLine.field.settings.acceptBroadcast = true
      ∧ groupPasses { defaultField with passAllGroups := true } 128 = true
      ∧ groupPasses { defaultField with passAllGroups := true } 254 = true
      ∧ groupPasses freeLine.field.settings 128 = false
      ∧ ([0, 0, 0x48, 0, 0] : List Byte).length = 5 ∧ ([3, 1, 1] : List Byte).length = 3
      ∧ (let s := capturing (List.replicate 7 caught) false
         let f : FieldFrame := { destination := 16, source := 1, kind := 0x11, payload := [0, 0, 0x48, 0, 0] }
         s.field.tx ≠ .sending ∧ fieldFrameOf (fieldBody 16 1 0x11 [0, 0, 0x48, 0, 0]) = some f
           ∧ filterFrame s f = (.passed, some 0) ∧ s.field.captured.length < 8 ∧ s.link.notice ≠ none)
      ∧ (filterFrame freeLine { destination := 127, source := 1, kind := 0x11, payload := [0, 0, 0x48, 0, 0] }).1
          = .failedDestination
      ∧ (filterFrame freeLine { destination := 255, source := 1, kind := 0x10, payload := [] }).1 = .notTaken
      ∧ (filterFrame freeLine { destination := 16, source := 1, kind := 0x21, payload := [3, 1, 1] }).1
          = .failedSource
      ∧ (capturing (List.replicate 8 caught) false).field.captured.getLast? = some caught
      ∧ freeLine.field.settings.capture = false := by decide

set_option maxRecDepth 20000 in
theorem test_witness_ParamUnawaited :
    freeLine.field.tx ≠ .sending ∧ freeLine.field.tx ≠ .replyWindow
      ∧ fieldFrameOf (fieldBody 16 1 0x14 [5, 1])
          = some { destination := 16, source := 1, kind := 0x14, payload := [5, 1] }
      ∧ freeLine.field.heads[(0 : Fin 8)].config.enable = true
      ∧ freeLine.field.heads[(0 : Fin 8)].config.address = 1
      ∧ (∀ j : Fin 8, j ≠ 0 → freeLine.field.heads[j].config.enable = false)
      ∧ asking.field.tx = .replyWindow ∧ asking.field.management.map (·.parameter) ≠ some (6 : Byte).toNat
      ∧ (let s := field (fun x => { x with heads := x.heads.set 0 { x.heads[0] with state := .silent } }) postLine
         s.field.heads[(0 : Fin 8)].config.kind = .post ∧ s.field.heads[(0 : Fin 8)].state = .silent
           ∧ s.field.tx = .replyWindow ∧ s.field.transaction.map (·.kind) ≠ some .management ∧ s.link.notice ≠ none)
      ∧ freeLine.field.heads[(0 : Fin 8)].config.kind = .stage := by decide

theorem test_witness_ChannelStates_range :
    (2000000 : Int) < 2000001 ∧ (-2000001 : Int) < -2000000 ∧ (live .faulted [5] 7).state = .faulted
      ∧ (live .faulted [5] 7).rejections = 7 ∧ (live .faulted [] 8).rejections ≤ 8
      ∧ 1 ≤ (live .faulted [] 8).settings.window ∧ (live .faulted [] 8).state ≠ .off
      ∧ (takeReading 5 (-10) false (live .faulted [] 7)).rejections = 8
      ∧ (takeReading 5 2000001 false (live .faulted [] 8)).rejections = 8 := by decide

theorem test_witness_EncoderPulses_motions :
    (let s := gaugingAt .travel { driven (.travelling 6000) .traverseIn with traverseCount := 6051001 }
     s.cable.motion = .travelling 6000 ∧ drivesTraverse s.cable.drive = true ∧ s.run.state = .active
       ∧ s.cable.settings.tolerance * 1000 < (s.cable.traverseCount - 1000 - (6000 : Int) * 1000).natAbs)
    ∧ (let c := wetted (driven (.travelling 6000) .reelUp)
       drivesTraverse c.drive = false ∧ c.motion = .travelling 6000)
    ∧ (let c := wetted (driven .raising .reelUp)
       c.motion = .raising ∧ c.drive = some .reelUp ∧ c.settings.reelScale = some 1000 ∧ c.switches.reelTop = false)
    ∧ (wetted (driven .homing .reelUp)).drive = some .reelUp
    ∧ (wetted (driven .retracting .reelUp)).motion = .retracting
    ∧ (holding.motion = .seekingBottom .hold ∧ holding.drive = none)
    ∧ ((carriage .parked).switches.reelTop = true ∧ base.cable.settings.reelScale = none)
    ∧ (let c := { wetted (driven (.seekingSurface .full) .reelDown) with reelCount := 29999000 }
       c.motion = .seekingSurface .full ∧ (30000000 : Int) ≤ c.reelCount + 1000)
    ∧ (let c (bottom : Bool) (at' : Int) : Cableway :=
         { wetted (driven (.seekingBottom (.bounce 5400000)) .reelUp) with
           reelCount := at', switches := { resetCable.switches with bottom := bottom } }
       (c true 5101000).switches.bottom = true ∧ (c true 5101000).reelCount - 1000 - 0 ≤ 5400000 - 300000
         ∧ (c false 5101000).switches.bottom = false ∧ (c false 5101000).settings.maxDepth = some 5000
         ∧ (5000 : Int) * 1000 < (c false 5101000).reelCount - 1000 - 0) := by decide

/-- The contacts closed as a travel of the run arrives. -/
theorem test_witness_ArrivalInRun_closed :
    (let s := cable (fun x => { x with switches := { x.switches with surface := true, bottom := true } })
       (arriving 2 6000000 false)
     s.cable.switches.surface = true ∧ s.cable.switches.bottom = true ∧ (planEntry s 2).method = .onePoint
       ∧ (planEntry s 2).depth = none ∧ s.run.vertical = { freshVertical 2 with skipMark := false }) := by decide

theorem test_witness_SwitchesAlone_contacts :
    ((carriage .parked).switches.surface = false ∧ ∀ x, (carriage .parked).motion ≠ .seekingSurface x)
    ∧ (let c := wetted (carriage (.seekingSurface .surface))
       c.motion = .seekingSurface .surface ∧ c.drive ≠ some .reelDown)
    ∧ (let c := wetted (driven (.seekingBottom (.bounce 1299000)) .reelUp)
       c.switches.bottom = false ∧ c.drive ≠ some .reelDown)
    ∧ (wetted (driven .raising .reelUp)).drive ≠ some .reelDown
    ∧ (driven .retracting .traverseIn).drive ≠ some .reelDown
    ∧ (let c := { holding with hold := none }
       c.switches.bottom = true ∧ c.motion = .seekingBottom .hold ∧ c.hold = none)
    ∧ (let c := { wetted (driven .raising .reelUp) with switches := { resetCable.switches with bottom := true } }
       c.switches.bottom = true ∧ c.motion ≠ .seekingBottom .hold) :=
  ⟨⟨by decide, nofun⟩, by decide, by decide, by decide, by decide, by decide, by decide⟩

theorem test_witness_Contacts_held :
    (let c := { wetted (driven (.seekingSurface .full) .reelDown) with
                switches := { resetCable.switches with bottom := true } }
     c.motion = .seekingSurface .full ∧ c.drive = some .reelDown ∧ c.switches.surface = false
       ∧ c.switches.bottom = true) := by decide

/-- A motion fault in the return of an ABORTED run, in each phase of an ACTIVE one, and in a run already ended. -/
theorem test_witness_MotionFaults_return :
    (let s := later 5000 (running (fun x => { x with state := .aborted, outcome := some .inProgress })
       (placed (driven .retracting .traverseIn) (ready 0)))
     s.cable.stall = some 5000 ∧ 5000 ≤ s.now ∧ s.cable.drive ≠ none ∧ s.run.state = .aborted
       ∧ s.run.outcome = some .inProgress ∧ s.link.notice ≠ none)
    ∧ (let s := later 5000 (gaugingAt .sound (wetted (driven (.seekingSurface .full) .reelDown)))
       s.cable.stall = some 5000 ∧ s.run.state = .active ∧ s.run.phase = some .sound)
    ∧ (running (fun x => { x with state := .aborted, outcome := some .parked })
        (placed (driven .homing .traverseIn) base)).run.outcome ≠ some .inProgress := by decide

theorem test_witness_HoldAndSettle_bed :
    (let s := running (fun x => { x with vertical := { x.vertical with
         point := some { fraction := .six, meterDepth := 744, clamped := false, bedStop := false } } })
       (later 10000 (gaugingAt .place { settling with bedStop := true, pointDepth := some 149 }))
     s.cable.motion = .atPoint ∧ s.cable.settle = some 10000 ∧ 10000 ≤ s.now ∧ s.run.state = .active
       ∧ s.run.phase = some .place ∧ s.cable.bedStop = true ∧ s.cable.pointDepth = some 149
       ∧ s.run.vertical.point.map (·.meterDepth) = some 744 ∧ s.cable.settings.weightOffset = 150)
    ∧ settling.bedStop = false := by decide

end Sys2Proof.Tests
end

namespace Sys2Proof.Machine

/-! ## The group test (R20) and the destination check on a group address (R19) -/

@[simp] theorem groupPasses_of_passAllGroups {x : FieldSettings} (all : x.passAllGroups = true) (g : Nat) :
    groupPasses x g = true := by
  simp [groupPasses, all]

/-- R20: with PASS-ALL OFF the bucket's bit decides, turned over under INVERSE. -/
theorem groupPasses_of_not_passAllGroups {x : FieldSettings} (notAll : x.passAllGroups = false) (g : Nat) :
    groupPasses x g = (x.groupSet.testBit (g % 16) != x.inverseGroups) := by
  simp [groupPasses, notAll]

theorem groupPasses_iff_of_not_inverse {x : FieldSettings} (notAll : x.passAllGroups = false)
    (plain : x.inverseGroups = false) (g : Nat) :
    groupPasses x g = true ↔ x.groupSet.testBit (g % 16) = true := by
  rw [groupPasses_of_not_passAllGroups notAll, plain, Bool.bne_false]

theorem groupPasses_iff_of_inverse {x : FieldSettings} (notAll : x.passAllGroups = false)
    (inverse : x.inverseGroups = true) (g : Nat) :
    groupPasses x g = true ↔ x.groupSet.testBit (g % 16) = false := by
  rw [groupPasses_of_not_passAllGroups notAll, inverse, Bool.bne_true, Bool.not_eq_true']

/-- R20: addresses of one bucket pass or fail together. -/
theorem groupPasses_congr_bucket (x : FieldSettings) {g h : Nat} (bucket : g % 16 = h % 16) :
    groupPasses x g = groupPasses x h := by
  rw [groupPasses, bucket, groupPasses]

/-- R19: the destination check case by case: the own address, a broadcast that is accepted, a group that passes. -/
theorem destinationPasses_iff (x : FieldSettings) (d : Nat) :
    destinationPasses x d = true ↔
      d = x.ownAddress ∨ (d = 255 ∧ x.acceptBroadcast = true)
        ∨ (128 ≤ d ∧ d ≤ 254 ∧ groupPasses x d = true) := by
  simp [destinationPasses, or_assoc, and_assoc]

/-- R19: for a group address the first two cases of the check are shut out: an own address is at most 126, and the
broadcast address is 255. -/
theorem destinationPasses_of_group {x : FieldSettings} {g : Nat} (low : 128 ≤ g) (high : g ≤ 254)
    (own : x.ownAddress ≤ 126) : destinationPasses x g = groupPasses x g := by
  have notOwn : g ≠ x.ownAddress := by omega
  have notBroadcast : g ≠ 255 := by omega
  rw [Bool.eq_iff_iff, destinationPasses_iff]
  simp [notOwn, notBroadcast, low, high]

/-- Settles O36: the bucket's bit under each setting (R20), and the destination check of a group address (R19). -/
theorem groupTest : Obligations.GroupTest := by
  unfold Obligations.GroupTest
  refine ⟨?plain, ?inverse, ?passAll, ?bucket, rfl, rfl, rfl, ?destination⟩
  case plain => exact fun _ g notAll plain => groupPasses_iff_of_not_inverse notAll plain g
  case inverse => exact fun _ g notAll inverse => groupPasses_iff_of_inverse notAll inverse g
  case passAll => exact fun _ g all => groupPasses_of_passAllGroups all g
  case bucket => exact fun x _ _ bucket => groupPasses_congr_bucket x bucket
  case destination => exact fun _ _ low high own => destinationPasses_of_group low high own

end Sys2Proof.Machine

namespace Sys2Proof.Machine

/-! ## Rounding to nearest (00_scope, 3.2): the error, the magnitude and the sign -/

/-- The rounded quotient is within half a divisor of the exact one, and a half goes up. -/
theorem divHalfUp_error (a : Nat) {b : Nat} (pos : 0 < b) :
    2 * (divHalfUp a b * b) ≤ 2 * a + b ∧ 2 * a < 2 * (divHalfUp a b * b) + b := by
  have division : a / b * b + a % b = a := Nat.div_add_mod' a b
  have small : a % b < b := Nat.mod_lt a pos
  unfold divHalfUp
  split_ifs with half
  · rw [Nat.succ_mul (a / b) b]
    omega
  · omega

theorem divHalfUp_le_of_le_mul {a b k : Nat} (pos : 0 < b) (bound : a ≤ k * b) : divHalfUp a b ≤ k := by
  by_contra above
  have step : (k + 1) * b ≤ divHalfUp a b * b := Nat.mul_le_mul_right b (by omega)
  have error := (divHalfUp_error a pos).1
  rw [Nat.succ_mul k b] at step
  omega

@[simp] theorem natAbs_divNearest (a : Int) (b : Nat) : (divNearest a b).natAbs = divHalfUp a.natAbs b := by
  unfold divNearest
  split_ifs
  · rw [Int.natAbs_neg, Int.natAbs_natCast]
  · exact Int.natAbs_natCast _

theorem divNearest_nonneg {a : Int} (b : Nat) (nonneg : 0 ≤ a) : 0 ≤ divNearest a b := by
  rw [divNearest, if_neg (by omega)]
  exact Int.natCast_nonneg _

theorem divNearest_nonpos {a : Int} (b : Nat) (neg : a < 0) : divNearest a b ≤ 0 := by
  rw [divNearest, if_pos neg]
  omega

/-! ## The corrected value (R48) -/

theorem correctedValue_of_direct {x : ChannelSettings} (direct : x.sense = .direct) (h : Int) :
    correctedValue x h = x.offset + divNearest (h * x.gain) 10000000 := by
  simp only [correctedValue, direct]

theorem correctedValue_of_inverted {x : ChannelSettings} (inverted : x.sense = .inverted) (h : Int) :
    correctedValue x h = x.offset - divNearest (h * x.gain) 10000000 := by
  simp only [correctedValue, inverted]

/-- R48: under either sense the corrected value stands off the offset by the rounded quotient. -/
theorem natAbs_correctedValue_sub_offset (x : ChannelSettings) (h : Int) :
    (correctedValue x h - x.offset).natAbs = divHalfUp (h * x.gain).natAbs 10000000 := by
  rw [← natAbs_divNearest]
  cases sense : x.sense with
  | direct => rw [correctedValue_of_direct sense]; omega
  | inverted => rw [correctedValue_of_inverted sense]; omega

/-- R48, step 1: the magnitude of the product of a head value and a gain in range. -/
theorem natAbs_head_mul_gain_le {h : Int} {gain : Nat} (low : -2000000 ≤ h) (high : h ≤ 2000000)
    (most : gain ≤ 1050000) : (h * gain).natAbs ≤ 2100000000000 :=
  calc (h * gain).natAbs = h.natAbs * gain := by rw [Int.natAbs_mul, Int.natAbs_natCast]
    _ ≤ 2000000 * 1050000 := Nat.mul_le_mul (by omega) most

/-- R48: the rounded quotient is at most 210,000 mm, and with an offset in range the corrected value has its bounds. -/
theorem correctedValue_bounds {x : ChannelSettings} {h : Int} (product : (h * x.gain).natAbs ≤ 2100000000000)
    (offsetLow : -99999 ≤ x.offset) (offsetHigh : x.offset ≤ 99999) :
    -309999 ≤ correctedValue x h ∧ correctedValue x h ≤ 309999 := by
  have quotient : divHalfUp (h * x.gain).natAbs 10000000 ≤ 210000 :=
    divHalfUp_le_of_le_mul (by decide) product
  have distance := natAbs_correctedValue_sub_offset x h
  omega

/-! ## What a reading leaves as the last reading (R49) -/

@[simp] theorem noteReading_lastReading (now : Nat) (h : Int) (fault : Bool) (v : Option Int) (verdict : Verdict)
    (c : Channel) :
    (noteReading now h fault v verdict c).lastReading
      = some { value := h, fault := fault, corrected := v, runTime := now, verdict := verdict } := rfl

theorem takeReading_of_off {c : Channel} (off : c.state = .off) (now : Nat) (h : Int) (fault : Bool) :
    takeReading now h fault c = c := by
  simp only [takeReading, off]

theorem takeReading_of_fault {c : Channel} (on : c.state ≠ .off) (now : Nat) (h : Int) :
    takeReading now h true c = noteReading now h true none .headFault (headFault now c) := by
  cases state : c.state with
  | off => exact absurd state on
  | filling | valid | stale | faulted => simp only [takeReading, state, if_true]

theorem takeReading_of_headInRange {c : Channel} {h : Int} (on : c.state ≠ .off) (range : headInRange h = true)
    (now : Nat) :
    takeReading now h false c
      = noteReading now h false (some (correctedValue c.settings h))
          (judgeCorrected now (correctedValue c.settings h) c).1
          (judgeCorrected now (correctedValue c.settings h) c).2 := by
  cases state : c.state with
  | off => exact absurd state on
  | filling | valid | stale | faulted =>
    simp only [takeReading, state, range, Bool.false_eq_true, if_false, if_true]

/-- Settles O39: the rounding and the bounds of the corrected value (R48), and the readings it is formed for (R49). -/
theorem correction : Obligations.Correction := by
  unfold Obligations.Correction
  intro now h c low high gainLow gainHigh offsetLow offsetHigh
  have product := natAbs_head_mul_gain_le low high gainHigh
  have gainPos : (0 : Int) < c.settings.gain := by omega
  have range : headInRange h = true := decide_eq_true ⟨low, high⟩
  obtain ⟨least, most⟩ := correctedValue_bounds product offsetLow offsetHigh
  refine ⟨product, ⟨divNearest (h * c.settings.gain) 10000000, ?rounded, ?nonneg, ?nonpos, ?value⟩, least, most,
    ?ok, ?fault, ?off⟩
  case rounded =>
    rw [natAbs_divNearest]
    exact divHalfUp_error _ (by decide)
  case nonneg => exact fun pos => divNearest_nonneg _ (Int.mul_nonneg pos.le gainPos.le)
  case nonpos => exact fun neg => divNearest_nonpos _ (Int.mul_neg_of_neg_of_pos neg gainPos)
  case value =>
    cases sense : c.settings.sense with
    | direct => rw [correctedValue_of_direct sense, Int.one_mul]
    | inverted => rw [correctedValue_of_inverted sense, Int.neg_one_mul, Int.sub_eq_add_neg]
  case ok =>
    intro on
    rw [takeReading_of_headInRange on range]
    exact ⟨_, noteReading_lastReading .., rfl, rfl, rfl⟩
  case fault =>
    intro on
    rw [takeReading_of_fault on]
    exact ⟨_, noteReading_lastReading .., rfl⟩
  case off => exact fun fault off => takeReading_of_off off now h fault

end Sys2Proof.Machine

namespace Sys2Proof.Machine

/-! ## What leaves the warning unit as it was: the time base, the field line, the channels and the stage unit -/

@[simp] theorem selectXtal_warning (s : State) : (selectXtal s).warning = s.warning := by
  unfold selectXtal; split <;> rfl
@[simp] theorem selectRc_warning (n : Nat) (s : State) : (selectRc n s).warning = s.warning := by
  unfold selectRc; split <;> rfl
@[simp] theorem takeTrimSet_warning (c : Int) (s : State) : (takeTrimSet c s).1.warning = s.warning := by
  unfold takeTrimSet; split <;> rfl
@[simp] theorem takeTimeSet_warning (v : Nat) (s : State) : (takeTimeSet v s).1.warning = s.warning := by
  unfold takeTimeSet; split <;> rfl
@[simp] theorem takeTimeSource_warning (n : Nat) (s : State) : (takeTimeSource n s).1.warning = s.warning := by
  unfold takeTimeSource
  dsimp only
  split
  · split
    · exact selectXtal_warning _
    · rfl
  · exact selectRc_warning _ _
  · rfl

@[simp] theorem enterBackoff_warning (t : Transaction) (s : State) : (enterBackoff t s).warning = s.warning := rfl
@[simp] theorem lineFallsIdle_warning (s : State) : (lineFallsIdle s).warning = s.warning := by
  unfold lineFallsIdle; split <;> rfl
@[simp] theorem backoffEnds_warning (s : State) : (backoffEnds s).warning = s.warning := by
  unfold backoffEnds; split <;> rfl
@[simp] theorem fieldGapFalls_warning (s : State) : (fieldGapFalls s).warning = s.warning := by
  unfold fieldGapFalls; split <;> rfl
@[simp] theorem pollsResumed_warning (s : State) : (pollsResumed s).warning = s.warning := arbitrate_warning _
@[simp] theorem pollFallsDue_warning (n : Nat) (s : State) : (pollFallsDue n s).warning = s.warning := by
  unfold pollFallsDue
  split
  · split
    · exact arbitrate_warning _
    · rfl
  · rfl
@[simp] theorem refreshExpires_warning (s : State) : (refreshExpires s).warning = s.warning := by
  unfold refreshExpires
  dsimp only
  split
  · split
    · exact requestWarn_warning _
    · rfl
  · rfl
@[simp] theorem takeCaptureRead_warning (s : State) : (takeCaptureRead s).1.warning = s.warning := by
  unfold takeCaptureRead; split <;> rfl
@[simp] theorem takeFieldSet_warning (a : FieldSetArgs) (s : State) : (takeFieldSet a s).1.warning = s.warning := by
  unfold takeFieldSet
  split
  · rfl
  · split_ifs <;> rfl
@[simp] theorem takeHeadRead_warning (n : Nat) (s : State) : (takeHeadRead n s).1.warning = s.warning := by
  unfold takeHeadRead; split <;> rfl
@[simp] theorem takeHeadParam_warning (a : HeadParamArgs) (s : State) :
    (takeHeadParam a s).1.warning = s.warning := by
  unfold takeHeadParam
  split
  · split_ifs
    case neg => exact arbitrate_warning _
    all_goals rfl
  · rfl

@[simp] theorem takeChannelRead_warning (n : Nat) (s : State) : (takeChannelRead n s).1.warning = s.warning := by
  unfold takeChannelRead; split <;> rfl
@[simp] theorem takeRecordRead_warning (start count : Nat) (s : State) :
    (takeRecordRead start count s).1.warning = s.warning := by
  unfold takeRecordRead
  split
  · rfl
  · cases recordsFrom s.stage start count
    rfl

/-! ## The same for the cableway and the gauging run -/

/-- R112: the orders that follow a completion stay within the reach of the run, and so off the warning unit. -/
theorem handCompletion_warning {s : State} {p : State × Option Completion} (h : p.1.warning = s.warning) :
    (handCompletion p).warning = s.warning := (RunOnly.handCompletion p).warning.trans h

theorem handOrder_warning {s : State} {p : State × Option Order} (h : p.1.warning = s.warning) :
    (handOrder p).warning = s.warning := (RunOnly.handOrder p).warning.trans h

@[simp] theorem restartStall_warning (b : Bool) (s : State) : (restartStall b s).warning = s.warning := by
  unfold restartStall; split <;> rfl
@[simp] theorem traverseJudged_warning (s : State) : (traverseJudged s).1.warning = s.warning := by
  unfold traverseJudged
  split
  · split
    · exact (RunOnly.arrive _).warning
    · rfl
  · rfl
@[simp] theorem traverseMoves_warning (b : Bool) (s : State) : (traverseMoves b s).warning = s.warning :=
  handCompletion_warning (by simp)
@[simp] theorem reelJudged_warning (s : State) : (reelJudged s).warning = s.warning := by
  unfold reelJudged
  split
  · split
    · exact (RunOnly.takeFault _ _).warning
    · rfl
  · exact (RunOnly.judgeDepthLimit _).warning
  · split
    · exact (RunOnly.enterSeek _).warning
    · rfl
  · split
    · exact (RunOnly.enterAtPoint _ _).warning
    · exact (RunOnly.judgeDepthLimit _).warning
  · rfl
@[simp] theorem reelMoves_warning (b : Bool) (s : State) : (reelMoves b s).warning = s.warning := by simp [reelMoves]

@[simp] theorem setSwitches_warning (f : Switches → Switches) (s : State) :
    (setSwitches f s).warning = s.warning := rfl
@[simp] theorem homeLimitCloses_warning (s : State) : (homeLimitCloses s).warning = s.warning := by
  unfold homeLimitCloses
  dsimp only
  split
  · rfl
  · split
    · exact (RunOnly.reachHome _).warning
    · exact handCompletion_warning (RunOnly.reachHome _).warning
    · split
      · exact handCompletion_warning (RunOnly.arriveHome _).warning
      · exact (RunOnly.takeFault _ _).warning
    · rfl
@[simp] theorem farLimitCloses_warning (s : State) : (farLimitCloses s).warning = s.warning := by
  unfold farLimitCloses
  dsimp only
  split
  · rfl
  · split
    · exact (RunOnly.takeFault _ _).warning
    · rfl
@[simp] theorem reelTopChanges_warning (b : Bool) (s : State) : (reelTopChanges b s).warning = s.warning := by
  unfold reelTopChanges
  dsimp only
  split
  · rfl
  · split
    · split
      · exact handCompletion_warning (RunOnly.endRaise _).warning
      · exact handCompletion_warning (RunOnly.pursue _).warning
    · exact handCompletion_warning (RunOnly.pursue _).warning
@[simp] theorem surfaceCloses_warning (s : State) : (surfaceCloses s).warning = s.warning := by
  unfold surfaceCloses
  dsimp only
  split
  · rfl
  · split
    · exact handCompletion_warning (RunOnly.surfaceFound _ _).warning
    · rfl
@[simp] theorem bottomCloses_warning (s : State) : (bottomCloses s).warning = s.warning := by
  unfold bottomCloses
  dsimp only
  split
  · exact handCompletion_warning (RunOnly.surfaceFound _ _).warning
  · exact (RunOnly.enterHold _).warning
  · exact (RunOnly.enterAtPoint _ _).warning
  · rfl
@[simp] theorem attemptFails_warning (s : State) : (attemptFails s).1.warning = s.warning := by
  unfold attemptFails
  dsimp only
  split
  · rfl
  · split
    · exact (RunOnly.enterSeek _).warning
    · exact (RunOnly.setDrive _ _).warning
@[simp] theorem bottomOpens_warning (s : State) : (bottomOpens s).warning = s.warning := by
  unfold bottomOpens
  dsimp only
  split
  · exact handCompletion_warning (attemptFails_warning _)
  · rfl
@[simp] theorem bottomChanges_warning (b : Bool) (s : State) : (bottomChanges b s).warning = s.warning := by
  unfold bottomChanges; split_ifs <;> simp
@[simp] theorem overloadTrips_warning (s : State) : (overloadTrips s).warning = s.warning := by
  unfold overloadTrips
  dsimp only
  split
  · rfl
  · split
    · rfl
    · rfl
    · exact (RunOnly.takeFault _ _).warning

@[simp] theorem stallExpires_warning (s : State) : (stallExpires s).warning = s.warning := by
  unfold stallExpires
  split
  · exact (RunOnly.takeFault _ _).warning
  · rfl
@[simp] theorem holdTimerExpires_warning (s : State) : (holdTimerExpires s).warning = s.warning := by
  unfold holdTimerExpires
  split
  · exact handCompletion_warning rfl
  · rfl
@[simp] theorem settleExpires_warning (s : State) : (settleExpires s).warning = s.warning := by
  unfold settleExpires
  split
  · exact handCompletion_warning rfl
  · rfl
@[simp] theorem takeCarriageSet_warning (a : CarriageSetArgs) (s : State) :
    (takeCarriageSet a s).1.warning = s.warning := by
  unfold takeCarriageSet; split_ifs <;> rfl
@[simp] theorem beginHoming_warning (s : State) : (beginHoming s).warning = s.warning := (RunOnly.pursue _).warning
@[simp] theorem takeCarriageHome_warning (s : State) : (takeCarriageHome s).1.warning = s.warning := by
  unfold takeCarriageHome
  split_ifs
  case neg => split <;> simp
  all_goals rfl

@[simp] theorem endExposure_warning (r : PointRecord) (s : State) : (endExposure r s).1.warning = s.warning :=
  (RunOnly.placeNext _).warning
@[simp] theorem contactTaken_warning (e : Exposure) (s : State) : (contactTaken e s).1.warning = s.warning := by
  unfold contactTaken
  split
  · rfl
  · split
    · rfl
    · dsimp only
      split
      · exact endExposure_warning _ _
      · rfl
@[simp] theorem meterCloses_warning (s : State) : (meterCloses s).warning = s.warning := by
  unfold meterCloses
  split
  · exact handOrder_warning (contactTaken_warning _ _)
  · rfl
@[simp] theorem exposureEnds_warning (s : State) : (exposureEnds s).warning = s.warning := by
  unfold exposureEnds
  split
  · split <;> rfl
  · rfl
@[simp] theorem lateLimitEnds_warning (s : State) : (lateLimitEnds s).1.warning = s.warning := by
  unfold lateLimitEnds
  split
  · split_ifs
    · exact endExposure_warning _ _
    · exact endExposure_warning _ _
    · rfl
  · rfl
@[simp] theorem startWaitEnds_warning (s : State) : (startWaitEnds s).1.warning = s.warning := by
  unfold startWaitEnds
  split
  · exact endExposure_warning _ _
  · rfl
@[simp] theorem lateLimitExpires_warning (s : State) : (lateLimitExpires s).warning = s.warning :=
  handOrder_warning (lateLimitEnds_warning s)
@[simp] theorem startWaitExpires_warning (s : State) : (startWaitExpires s).warning = s.warning :=
  handOrder_warning (startWaitEnds_warning s)

@[simp] theorem takePlanPut_warning (a : PlanPutArgs) (s : State) : (takePlanPut a s).1.warning = s.warning := by
  unfold takePlanPut
  dsimp only
  split
  · rfl
  · split_ifs <;> rfl
@[simp] theorem takePlanClear_warning (e l : Nat) (s : State) : (takePlanClear e l s).1.warning = s.warning := by
  unfold takePlanClear; split <;> rfl
@[simp] theorem takePlanRead_warning (n : Nat) (s : State) : (takePlanRead n s).1.warning = s.warning := by
  unfold takePlanRead; dsimp only; split_ifs <;> rfl
@[simp] theorem takeMeterSet_warning (a : MeterSetArgs) (s : State) : (takeMeterSet a s).1.warning = s.warning := by
  unfold takeMeterSet; split_ifs <;> rfl
@[simp] theorem beginRun_warning (s : State) : (beginRun s).warning = s.warning := handOrder_warning rfl
@[simp] theorem judgeAutonomy_warning (s : State) : (judgeAutonomy s).warning = s.warning :=
  (RunOnly.judgeAutonomy s).warning
@[simp] theorem startRun_warning (s : State) : (startRun s).warning = s.warning := by
  unfold startRun; split <;> simp
@[simp] theorem takeRunStart_warning (s : State) : (takeRunStart s).1.warning = s.warning := by
  unfold takeRunStart; split_ifs <;> simp
@[simp] theorem skipVertical_warning (s : State) : (skipVertical s).warning = s.warning := by
  unfold skipVertical
  split
  · rfl
  · exact handOrder_warning ((RunOnly.abandonExposure s).trans (RunOnly.markSkipped _ _)).warning
@[simp] theorem takeRunSkip_warning (s : State) : (takeRunSkip s).1.warning = s.warning := by
  unfold takeRunSkip; split <;> simp
@[simp] theorem takeRunAbort_warning (s : State) : (takeRunAbort s).1.warning = s.warning := by
  unfold takeRunAbort
  split
  · exact (RunOnly.abortRun _ _).warning
  · rfl
@[simp] theorem takeResultRead_warning (n : Nat) (s : State) : (takeResultRead n s).1.warning = s.warning := by
  unfold takeResultRead
  split
  · rfl
  · split <;> rfl

/-! ## The same for the dispatcher, the supervisor and the host link -/

@[simp] theorem holdExpires_warning (s : State) : (holdExpires s).warning = s.warning := by
  unfold holdExpires; split <;> simp
@[simp] theorem takeNoticeSet_warning (m : Nat) (x : Option NoticeItem) (s : State) :
    (takeNoticeSet m x s).1.warning = s.warning := by
  unfold takeNoticeSet
  split
  · rfl
  · rfl
  · split <;> rfl
@[simp] theorem takeNoticeDone_warning (s : State) : (takeNoticeDone s).1.warning = s.warning := by
  unfold takeNoticeDone; split <;> rfl

@[simp] theorem takeSave_warning (s : State) : (takeSave s).1.warning = s.warning := by
  unfold takeSave; split <;> rfl
@[simp] theorem takeWakeSet_warning (a : WakeSetArgs) (s : State) : (takeWakeSet a s).1.warning = s.warning := by
  unfold takeWakeSet
  split
  · rfl
  · split <;> rfl
@[simp] theorem takeRestart_warning (s : State) : (takeRestart s).1.warning = s.warning := by
  unfold takeRestart; split <;> rfl
@[simp] theorem takeLinkSet_warning (n : Nat) (s : State) : (takeLinkSet n s).1.warning = s.warning := by
  unfold takeLinkSet; split_ifs <;> rfl
@[simp] theorem endQuiet_warning (s : State) : (endQuiet s).warning = s.warning := by
  unfold endQuiet
  split
  · exact pollsResumed_warning _
  · rfl
@[simp] theorem hostGapFalls_warning (s : State) : (hostGapFalls s).warning = s.warning := by
  unfold hostGapFalls; split <;> rfl
@[simp] theorem lineFree_warning (s : State) : (lineFree s).warning = s.warning := by simp [lineFree]

/-! ## The beacons by the level (R93): what keeps them so -/

namespace State.BeaconsHeld

variable {s t : State}

/-- R93 rests on three parts of the warning unit: the level and the two beacons. -/
theorem ofSame (h : s.BeaconsHeld) (level : t.warning.level = s.warning.level)
    (a : t.warning.beaconA = s.warning.beaconA) (b : t.warning.beaconB = s.warning.beaconB) : t.BeaconsHeld := by
  unfold State.BeaconsHeld at *
  rw [level, a, b]
  exact h

theorem ofWarning (h : s.BeaconsHeld) (w : t.warning = s.warning) : t.BeaconsHeld :=
  h.ofSame (by rw [w]) (by rw [w]) (by rw [w])

/-- The monitor is no part of what R93 rests on. -/
theorem ofSameBut (h : s.BeaconsHeld) (w : sameBut s.warning t.warning) : t.BeaconsHeld := by
  unfold sameBut at w
  exact h.ofSame (by rw [← w]) (by rw [← w]) (by rw [← w])

/-! ### The updates -/

theorem setTime (h : s.BeaconsHeld) (x : TimeBase) : (s.setTime x).BeaconsHeld := h
theorem setField (h : s.BeaconsHeld) (x : FieldLine) : (s.setField x).BeaconsHeld := h
theorem setChannel (h : s.BeaconsHeld) (i : Fin 4) (c : Channel) : (s.setChannel i c).BeaconsHeld := h
theorem setStage (h : s.BeaconsHeld) (x : StageUnit) : (s.setStage x).BeaconsHeld := h
theorem setNotices (h : s.BeaconsHeld) (x : Dispatcher) : (s.setNotices x).BeaconsHeld := h
theorem setLink (h : s.BeaconsHeld) (x : HostLink) : (s.setLink x).BeaconsHeld := h
theorem setSupervisor (h : s.BeaconsHeld) (x : Supervisor) : (s.setSupervisor x).BeaconsHeld := h
theorem setPending (h : s.BeaconsHeld) (x : List Instr) : (s.setPending x).BeaconsHeld := h
theorem freeTaken (h : s.BeaconsHeld) : s.freeTaken.BeaconsHeld := h
theorem setHead (h : s.BeaconsHeld) (i : Fin 8) (e : HeadEntry) : (s.setHead i e).BeaconsHeld := h
theorem setEntry (h : s.BeaconsHeld) (i : Fin 8) (f : HeadEntry → HeadEntry) : (setEntry i f s).BeaconsHeld := h
theorem scheduleEntry (h : s.BeaconsHeld) (i : Fin 8) : (scheduleEntry i s).BeaconsHeld := h
theorem setRules (h : s.BeaconsHeld) (rules : Vector Rule 8) : (s.setRules rules).BeaconsHeld := h

/-- A change of the warning unit that leaves the level and the beacons. -/
theorem setWarning (h : s.BeaconsHeld) (x : WarningUnit) (level : x.level = s.warning.level := by rfl)
    (a : x.beaconA = s.warning.beaconA := by rfl) (b : x.beaconB = s.warning.beaconB := by rfl) :
    (s.setWarning x).BeaconsHeld := h.ofSame level a b

/-! ### Notices, the wake and the arbiter -/

theorem wake (h : s.BeaconsHeld) (r : WakeReason) : (wake r s).BeaconsHeld := h.ofSameBut (wake_warning r s)

theorem raise (h : s.BeaconsHeld) (src : NoticeSource) (c : List Field) : (raise src c s).BeaconsHeld :=
  h.ofSameBut (raise_warning src c s)

theorem arbitrate (h : s.BeaconsHeld) : (arbitrate s).BeaconsHeld := h.ofWarning (arbitrate_warning s)

theorem requestWarn (h : s.BeaconsHeld) : (requestWarn s).BeaconsHeld := h.ofWarning (requestWarn_warning s)

theorem transmitterFree (h : s.BeaconsHeld) : (transmitterFree s).BeaconsHeld :=
  h.ofWarning (transmitterFree_warning s)

/-! ### The siren (R94 to R96) -/

theorem setSiren (h : s.BeaconsHeld) (x : Siren) : (setSiren x s).BeaconsHeld := h.setWarning _

theorem startSiren (h : s.BeaconsHeld) : (startSiren s).BeaconsHeld := (h.setWarning _).requestWarn

theorem stopSiren (h : s.BeaconsHeld) (x : Siren) : (stopSiren x s).BeaconsHeld := (h.setSiren x).requestWarn

theorem silenceSiren (h : s.BeaconsHeld) : (silenceSiren s).BeaconsHeld := by
  unfold Machine.silenceSiren
  split
  · exact h.stopSiren _
  · exact h.setSiren _

theorem judgeSiren (h : s.BeaconsHeld) (old new : Nat) : (judgeSiren old new s).BeaconsHeld := by
  unfold Machine.judgeSiren
  split
  · exact h.silenceSiren
  · split
    · split
      · exact h.setSiren _
      · exact h.startSiren
    · exact h

theorem sirenExpires (h : s.BeaconsHeld) : (sirenExpires s).BeaconsHeld := by
  unfold Machine.sirenExpires
  split
  · exact h.stopSiren _
  · exact h

theorem repeatExpires (h : s.BeaconsHeld) : (repeatExpires s).BeaconsHeld := by
  unfold Machine.repeatExpires
  split
  · exact h.startSiren
  · exact h

theorem takeWarningAck (h : s.BeaconsHeld) : (takeWarningAck s).1.BeaconsHeld := by
  unfold Machine.takeWarningAck
  dsimp only
  split
  · exact h.stopSiren _
  · exact h

/-! ### A level change (R91): its second step sets the beacons by the new level, and no later step touches them -/

/-- R91, R93: whatever stood before, the beacons stand by the level placed. -/
theorem placeLevel (c : LevelCause) (n : Nat) (s : State) : (placeLevel c n s).BeaconsHeld := by
  simp [State.BeaconsHeld, Machine.placeLevel]

theorem raiseSpell (h : s.BeaconsHeld) (n : Nat) : (raiseSpell n s).BeaconsHeld := by
  unfold Machine.raiseSpell
  split
  · exact h.setWarning _
  · exact h

theorem judgeWithdraw (h : s.BeaconsHeld) : (judgeWithdraw s).BeaconsHeld :=
  h.ofWarning (RunOnly.judgeWithdraw s).warning

/-- What asks for the event record keeps the beacons by the level. -/
def KeptBy (ask : State → State) : Prop := ∀ x : State, x.BeaconsHeld → (ask x).BeaconsHeld

theorem changeLevel {ask : State → State} (keeps : KeptBy ask) (c : LevelCause) (n : Nat) (s : State) :
    (changeLevel ask c n s).BeaconsHeld := by
  have told := ((placeLevel c n s).judgeSiren s.warning.level n).raiseSpell n
  exact (keeps _ (told.raise _ _)).requestWarn.judgeWithdraw.wake _

theorem recompute {ask : State → State} (keeps : KeptBy ask) (h : s.BeaconsHeld) (before : Vector Rule 8)
    (forced : Option LevelCause) : (recompute ask before forced s).BeaconsHeld := by
  unfold Machine.recompute
  dsimp only
  split
  · exact h
  · exact changeLevel keeps _ _ s

theorem reportBlind (h : s.BeaconsHeld) (changed : Bool) : (reportBlind changed s).BeaconsHeld := by
  unfold Machine.reportBlind
  split
  · exact h.raise _ _
  · exact h

/-! ### Hand-overs and appends (R69, R77, R85) -/

theorem handInput {ask : State → State} (keeps : KeptBy ask) (h : s.BeaconsHeld) (kind : RuleKind)
    (input : Option Int) : (handInput ask kind input s).BeaconsHeld := by
  have handed : (s.setWarning { setInput kind input s.warning with
      rules := handRules kind s.now input s.warning.rules }).BeaconsHeld := by
    cases kind <;> exact h.setWarning _
  exact (recompute keeps handed _ _).reportBlind _

theorem handRate {ask : State → State} (keeps : KeptBy ask) (h : s.BeaconsHeld) (rate : Option Int) :
    (handRate ask rate s).BeaconsHeld := by
  cases rate with
  | some v => exact (handInput keeps h _ _).wake _
  | none => exact handInput keeps h _ _

theorem handStage {ask : State → State} (keeps : KeptBy ask) (h : s.BeaconsHeld) (stage : Option Int) :
    (handStage ask stage s).BeaconsHeld := by
  cases stage with
  | some v => exact (handInput keeps h _ _).wake _
  | none => exact handInput keeps h _ _

theorem append (h : s.BeaconsHeld) (k : Append) : (append k s).BeaconsHeld :=
  handRate (ask := queueAppend .event) (fun _ kept => kept.setStage _) ((h.setStage _).setTime _) _

theorem requestAppend (h : s.BeaconsHeld) (k : Append) : (requestAppend k s).BeaconsHeld := by
  unfold Machine.requestAppend
  split
  · exact h.append k
  · exact h.setStage _

theorem keptBy_askEvent : KeptBy askEvent := fun _ h => h.requestAppend .event

theorem appendWaiting (h : s.BeaconsHeld) : (appendWaiting s).BeaconsHeld := by
  unfold Machine.appendWaiting
  split
  · exact h
  · split
    · exact (h.setStage _).append _
    · exact h

theorem recordExpires (h : s.BeaconsHeld) : (recordExpires s).BeaconsHeld := by
  unfold Machine.recordExpires
  split
  · exact h.requestAppend _
  · exact h

/-! ### The rules and the settings of the warning unit (R83, R87, R90, R97, R99) -/

theorem ruleExpires (h : s.BeaconsHeld) (st next : RuleState) (i : Fin 8) :
    (ruleExpires askEvent st next i s).BeaconsHeld := by
  unfold Machine.ruleExpires
  split
  · exact recompute keptBy_askEvent (h.setRules _) _ _
  · exact h

theorem defineRule (h : s.BeaconsHeld) (i : Fin 8) (d : RuleDef) : (defineRule askEvent i d s).BeaconsHeld :=
  (recompute keptBy_askEvent (h.setRules _) _ _).reportBlind _

theorem takeRuleSet (h : s.BeaconsHeld) (a : RuleSetArgs) : (takeRuleSet askEvent a s).1.BeaconsHeld := by
  unfold Machine.takeRuleSet
  split
  · split_ifs
    · exact h
    · exact h
    · exact h.defineRule _ _
  · exact h

theorem takeRuleRead (h : s.BeaconsHeld) (n : Nat) : (takeRuleRead n s).1.BeaconsHeld := by
  unfold Machine.takeRuleRead; split <;> exact h

theorem takeWarningFloor (h : s.BeaconsHeld) (n : Nat) : (takeWarningFloor askEvent n s).1.BeaconsHeld := by
  unfold Machine.takeWarningFloor
  split
  · exact h
  · exact recompute keptBy_askEvent (h.setWarning _) _ _

theorem applyWarning (h : s.BeaconsHeld) (x : WarningSettings) : (applyWarning x s).BeaconsHeld := by
  unfold Machine.applyWarning
  dsimp only
  refine judgeWithdraw ?_
  split
  · exact (h.setWarning _).stopSiren _
  · exact h.setWarning _

theorem takeWarningSet (h : s.BeaconsHeld) (a : WarningSetArgs) : (takeWarningSet a s).1.BeaconsHeld := by
  unfold Machine.takeWarningSet
  split_ifs
  · exact h
  · exact h
  · exact h.applyWarning _

theorem takeMonitorSet (h : s.BeaconsHeld) (enable exponent : Nat) :
    (takeMonitorSet enable exponent s).1.BeaconsHeld := by
  unfold Machine.takeMonitorSet
  split
  · exact h
  · split
    · exact h
    · exact h.setWarning _

/-! ### The monitor and autonomy (R98, R100, R101) -/

theorem monitorRestarted (h : s.BeaconsHeld) : (monitorRestarted s).BeaconsHeld := by
  unfold Machine.monitorRestarted
  split
  · exact h.setWarning _
  · exact h

theorem monitorSuspended (h : s.BeaconsHeld) : (monitorSuspended s).BeaconsHeld := by
  unfold Machine.monitorSuspended
  split
  · exact h.setWarning _
  · exact h

theorem takeUpSiren (h : s.BeaconsHeld) : (takeUpSiren s).BeaconsHeld := by
  unfold Machine.takeUpSiren
  split
  · split
    · exact h.setSiren _
    · exact h
  · exact h

theorem monitorExpires (h : s.BeaconsHeld) : (monitorExpires s).BeaconsHeld := by
  unfold Machine.monitorExpires
  split
  · have begun : (beginSpell s).BeaconsHeld := h.setWarning _
    exact begun.takeUpSiren.requestWarn.ofWarning (judgeAutonomy_warning _)
  · exact h

theorem leaveAutonomous (h : s.BeaconsHeld) : (leaveAutonomous s).BeaconsHeld := by
  unfold Machine.leaveAutonomous
  dsimp only
  split
  · exact ((h.setWarning _).monitorRestarted.requestWarn.setNotices _).raise _ _
  · exact (h.setWarning _).monitorRestarted.requestWarn.setNotices _

theorem hostHeard (h : s.BeaconsHeld) : (hostHeard s).BeaconsHeld := by
  unfold Machine.hostHeard
  split
  · exact h.leaveAutonomous
  · exact h.monitorRestarted

/-! ### Votes and channels (R47, R60, R65, R69, R79) -/

theorem handVote (h : s.BeaconsHeld) (before : StageUnit) : (handVote before s).BeaconsHeld := by
  unfold Machine.handVote
  dsimp only
  have updated : (if s.stage.stage = before.stage then s
      else Machine.handStage askEvent s.stage.stage s).BeaconsHeld := by
    split
    · exact h
    · exact handStage keptBy_askEvent h _
  split
  · exact updated.raise _ _
  · exact updated

theorem runVote (h : s.BeaconsHeld) : (runVote s).BeaconsHeld := (h.setStage _).handVote _

theorem handChannel (h : s.BeaconsHeld) (i : Fin 4) : (handChannel i s).BeaconsHeld := (h.setStage _).runVote

theorem raiseChannelState (h : s.BeaconsHeld) (i : Fin 4) : (raiseChannelState i s).BeaconsHeld := h.raise _ _

theorem channelEvent (h : s.BeaconsHeld) (i : Fin 4) (f : Channel → Channel) : (channelEvent i f s).BeaconsHeld := by
  unfold Machine.channelEvent
  dsimp only
  have placed := h.setChannel i (f s.channels[i])
  split
  · split
    · exact placed
    · exact placed.handChannel i
  · split
    · exact placed.raiseChannelState i
    · exact (placed.handChannel i).raiseChannelState i

theorem applyChannel (h : s.BeaconsHeld) (i : Fin 4) (x : ChannelSettings) : (applyChannel i x s).BeaconsHeld :=
  ((h.setChannel i _).handChannel i).raiseChannelState i

theorem takeChannelSet (h : s.BeaconsHeld) (a : ChannelSetArgs) : (takeChannelSet a s).1.BeaconsHeld := by
  unfold Machine.takeChannelSet
  split
  · dsimp only
    split_ifs
    case neg => exact h.applyChannel _ _
    all_goals exact h
  · exact h

theorem takeStageSet (h : s.BeaconsHeld) (a : StageSetArgs) : (takeStageSet a s).1.BeaconsHeld := by
  unfold Machine.takeStageSet
  split
  · exact h
  · split
    · exact h
    · exact ((h.setStage _).runVote).setStage _

/-! ### The field line (R18 to R43) -/

theorem judgePosts (h : s.BeaconsHeld) (before : State) : (judgePosts before s).BeaconsHeld := by
  unfold Machine.judgePosts
  split
  · exact h.raise _ _
  · exact h

theorem feedChannel (h : s.BeaconsHeld) (i : Fin 8) (f : Channel → Channel) : (feedChannel i f s).BeaconsHeld := by
  unfold Machine.feedChannel
  split
  · exact h.channelEvent _ _
  · exact h

theorem handPostFault (h : s.BeaconsHeld) (before : State) (i : Fin 8) : (handPostFault before i s).BeaconsHeld := by
  unfold Machine.handPostFault
  split
  · exact h.wake _
  · exact h

theorem handContent (h : s.BeaconsHeld) (before : State) (i : Fin 8) (f : FieldFrame) :
    (handContent before i f s).BeaconsHeld := by
  unfold Machine.handContent
  split
  · exact h.feedChannel _ _
  · split
    · exact ((h.setEntry _ _).judgePosts _).handPostFault _ _
    · exact h.judgePosts _

theorem endManagement (h : s.BeaconsHeld) (n : Nat) (o : ParamOutcome) : (endManagement n o s).BeaconsHeld := by
  unfold Machine.endManagement
  split
  · exact (h.setField _).raise _ _
  · exact h

theorem fallSilent (h : s.BeaconsHeld) (before : State) (i : Fin 8) : (fallSilent before i s).BeaconsHeld := by
  unfold Machine.fallSilent
  split
  · exact h.feedChannel _ _
  · exact (h.setEntry _ _).judgePosts _

theorem pollUnanswered (h : s.BeaconsHeld) (i : Fin 8) : (pollUnanswered i s).BeaconsHeld := by
  unfold Machine.pollUnanswered
  have counted := (h.setEntry i unanswered).scheduleEntry i
  dsimp only
  split
  · exact counted.fallSilent _ _
  · exact counted

theorem windowExpires (h : s.BeaconsHeld) : (windowExpires s).BeaconsHeld := by
  unfold Machine.windowExpires
  split
  · refine transmitterFree ?_
    split
    · split
      · exact h.pollUnanswered _
      · exact h.endManagement _ _
      · exact h
    · exact h
  · exact h

theorem failRequester (h : s.BeaconsHeld) (x : LineFailure) (t : Transaction) :
    (failRequester x t s).BeaconsHeld := by
  unfold Machine.failRequester
  split
  · exact (h.setEntry _ _).scheduleEntry _
  · exact h.endManagement _ _
  · exact h.setField _

theorem failTransaction (h : s.BeaconsHeld) (x : LineFailure) (t : Transaction) :
    (failTransaction x t s).BeaconsHeld := ((h.failRequester x t).raise _ _).transmitterFree

theorem deferralExpires (h : s.BeaconsHeld) : (deferralExpires s).BeaconsHeld := by
  unfold Machine.deferralExpires
  split
  · split
    · exact h.failTransaction _ _
    · exact h
  · exact h

theorem collides (h : s.BeaconsHeld) : (collides s).BeaconsHeld := by
  unfold Machine.collides
  split
  · dsimp only
    split
    · exact (h.setField _).failTransaction _ _
    · exact (h.setField _).ofWarning (enterBackoff_warning _ _)
  · exact h

theorem warnSent (h : s.BeaconsHeld) (n : Nat) : (warnSent n s).BeaconsHeld := (h.setField _).judgePosts _

theorem frameSent (h : s.BeaconsHeld) : (frameSent s).BeaconsHeld := by
  unfold Machine.frameSent
  split
  · dsimp only
    split
    · exact ((h.setField _).warnSent _).transmitterFree
    · exact (h.setField _).setField _
  · exact h

theorem signOfLife (h : s.BeaconsHeld) (i : Fin 8) : (signOfLife i s).BeaconsHeld := h.setEntry _ _

theorem pollAnswered (h : s.BeaconsHeld) (i : Fin 8) (f : FieldFrame) : (pollAnswered i f s).BeaconsHeld :=
  ((((h.signOfLife i).setEntry i _).handContent s i f).scheduleEntry i).transmitterFree

theorem managementAnswered (h : s.BeaconsHeld) (n : Nat) (i : Fin 8) (f : FieldFrame) :
    (managementAnswered n i f s).BeaconsHeld :=
  (((h.signOfLife i).handContent s i f).endManagement _ _).transmitterFree

theorem deliver (h : s.BeaconsHeld) (i : Fin 8) (f : FieldFrame) : (deliver i f s).BeaconsHeld := by
  unfold Machine.deliver
  split
  · split
    · exact h.pollAnswered _ _
    · exact h.managementAnswered _ _ _
  · exact (h.signOfLife _).handContent _ _ _

theorem offerCapture (h : s.BeaconsHeld) (f : FieldFrame) (r : FilterResult) : (offerCapture f r s).BeaconsHeld := by
  unfold Machine.offerCapture
  split_ifs
  · exact (h.setField _).raise _ _
  · exact h
  · exact (h.setField _).raise _ _
  · exact h

theorem goodFrame (h : s.BeaconsHeld) (f : FieldFrame) : (goodFrame f s).BeaconsHeld := by
  unfold Machine.goodFrame
  dsimp only
  split
  · exact (h.offerCapture _ _).deliver _ _
  · exact h.offerCapture _ _

theorem frameReceived (h : s.BeaconsHeld) (octets : List Byte) : (frameReceived octets s).BeaconsHeld := by
  unfold Machine.frameReceived
  split
  · exact h.setField _
  · dsimp only
    split
    · exact (h.setField _).goodFrame _
    · exact h.setField _

theorem gatherOctet (h : s.BeaconsHeld) (octet : Byte) : (gatherOctet octet s).BeaconsHeld := by
  unfold Machine.gatherOctet
  split
  · exact h.setField _
  · dsimp only
    split_ifs
    · exact h.setField _
    · exact h.frameReceived _
    · exact h.setField _

theorem fieldCharacter (h : s.BeaconsHeld) (octet : Byte) : (fieldCharacter octet s).BeaconsHeld := by
  unfold Machine.fieldCharacter
  split
  · exact h.setField _
  · exact (h.ofWarning (fieldGapFalls_warning s)).gatherOctet _

theorem takeHeadSet (h : s.BeaconsHeld) (a : HeadSetArgs) : (takeHeadSet a s).1.BeaconsHeld := by
  have applied : ∀ i c, (applyHead i c s).BeaconsHeld := by
    intro i c
    unfold applyHead
    dsimp only
    refine arbitrate ?_
    split
    · exact (h.setHead _ _).raise _ _
    · exact h.setHead _ _
  unfold Machine.takeHeadSet
  split
  · split_ifs
    case neg => exact applied _ _
    all_goals exact h
  · exact h

/-! ### The time base, the store and quiet mode (R4 to R8, R171, R172) -/

theorem edgeGapExpires (h : s.BeaconsHeld) : (edgeGapExpires s).BeaconsHeld := by
  unfold Machine.edgeGapExpires
  dsimp only
  split
  · split
    · exact ((h.setTime _).ofWarning (selectRc_warning _ _)).raise _ _
    · exact h.setTime _
  · exact h

theorem qualificationExpires (h : s.BeaconsHeld) : (qualificationExpires s).BeaconsHeld := by
  unfold Machine.qualificationExpires
  dsimp only
  split
  · split
    · exact (((h.setTime _).ofWarning (selectXtal_warning _)).setTime _).raise _ _
    · exact (h.setTime _).raise _ _
  · exact h

theorem writeEnds (h : s.BeaconsHeld) (holds : Bool) : (writeEnds holds s).BeaconsHeld := by
  unfold Machine.writeEnds
  split
  · exact (h.setSupervisor _).raise _ _
  · exact h

theorem judgeInputs (h : s.BeaconsHeld) : (judgeInputs s).BeaconsHeld := by
  have staged : (match s.warning.stageInput with
      | some v => Machine.wake (.stage v) s
      | none => s).BeaconsHeld := by
    split
    · exact h.wake _
    · exact h
  unfold Machine.judgeInputs
  dsimp only
  split
  · exact staged.wake _
  · exact staged

theorem takeQuiet (h : s.BeaconsHeld) : (takeQuiet s).1.BeaconsHeld := by
  have entered : (enterQuiet s).BeaconsHeld := ((h.setSupervisor _).setField _).monitorSuspended
  unfold Machine.takeQuiet
  split_ifs
  case neg => exact entered.judgeInputs
  all_goals exact h

/-! ### The host link (R159 to R163) -/

/-- R161: whatever the request, its owner keeps the beacons by the level. -/
theorem answer (h : s.BeaconsHeld) (q : Request) : (answer q s).1.BeaconsHeld := by
  cases q with
  | headSet a => exact h.takeHeadSet a
  | channelSet a => exact h.takeChannelSet a
  | stageSet a => exact h.takeStageSet a
  | ruleSet a => exact h.takeRuleSet a
  | ruleRead n => exact h.takeRuleRead n
  | warningSet a => exact h.takeWarningSet a
  | warningAck => exact h.takeWarningAck
  | warningFloor n => exact h.takeWarningFloor n
  | monitorSet enable exponent => exact h.takeMonitorSet enable exponent
  | quiet => exact h.takeQuiet
  | identify | timeRead | stageRead | warningRead | carriageRead | runRead | causeRead | causeClear | hold _ => exact h
  | linkSet _ | timeSet _ | timeSource _ | trimSet _ | fieldSet _ | headRead _ | headParam _ | captureRead
  | channelRead _ | recordRead _ _ | carriageSet _ | carriageHome | meterSet _ | planClear _ _ | planPut _
  | planRead _ | runStart | runSkip | runAbort | resultRead _ | wakeSet _ | noticeSet _ _ | noticeDone | save
  | restart => exact h.ofWarning (by simp [Machine.answer])

theorem takeFrame (h : s.BeaconsHeld) (f : HostFrame) : (takeFrame f s).BeaconsHeld := by
  have judged : ∀ {x : State}, x.BeaconsHeld → (judgeFrame f x).1.BeaconsHeld := by
    intro x kept
    unfold judgeFrame
    split
    · exact kept
    · exact kept.answer _
  exact (judged (h.setLink _)).ofWarning (placeReply_warning _ _)

theorem frameArrives (h : s.BeaconsHeld) (f : HostFrame) : (frameArrives f s).BeaconsHeld := by
  have heard : (frameHeard s).BeaconsHeld := (h.setLink _).hostHeard.ofWarning (endQuiet_warning _)
  unfold Machine.frameArrives placeFrame
  split
  · exact heard.takeFrame f
  · split
    · exact heard.setLink _
    · exact heard.setLink _

theorem hostOctetsArrive (h : s.BeaconsHeld) (octets : List Byte) : (hostOctetsArrive octets s).BeaconsHeld := by
  unfold Machine.hostOctetsArrive
  dsimp only
  split
  · exact (h.setLink _).frameArrives _
  · exact h.setLink _

theorem assembleOctet (h : s.BeaconsHeld) (octet : Byte) : (assembleOctet octet s).BeaconsHeld := by
  unfold Machine.assembleOctet
  split
  · split
    · exact h.setLink _
    · exact h
  · dsimp only
    split_ifs
    · exact h.setLink _
    · exact h.hostOctetsArrive _
    · exact h.setLink _

theorem hostCharacter (h : s.BeaconsHeld) (octet : Byte) (stopBit : Bool) :
    (hostCharacter octet stopBit s).BeaconsHeld := by
  unfold Machine.hostCharacter
  split
  · exact (h.ofWarning (hostGapFalls_warning s)).assembleOctet _
  · exact h.setLink _

theorem lineFree (h : s.BeaconsHeld) : (lineFree s).BeaconsHeld := h.ofWarning (lineFree_warning s)

theorem replyGone (h : s.BeaconsHeld) : (replyGone s).BeaconsHeld := by
  unfold Machine.replyGone
  dsimp only
  split
  · exact ((h.setLink _).setLink _).takeFrame _
  · exact (h.setLink _).lineFree

theorem hostSent (h : s.BeaconsHeld) : (hostSent s).BeaconsHeld := by
  unfold Machine.hostSent
  split
  · exact h
  · exact (h.setLink _).lineFree
  · split
    · exact h.setLink _
    · exact h.replyGone

/-! ### The resets (R104, R105, R168, R169) -/

/-- R93, R104, R105: the warning unit starts with the beacons by the level it starts with, whatever stood before. -/
theorem startBlocks (cause : ResetCause) (s : State) : (startBlocks cause s).BeaconsHeld := by
  cases cold : isCold cause <;> simp [State.BeaconsHeld, Machine.startBlocks, startWarning, cold]

theorem reset (cause : ResetCause) (s : State) : (Machine.reset cause s).BeaconsHeld := by
  have levelled : ∀ cold before, (resetLevel cold before (Machine.startBlocks cause s)).BeaconsHeld := by
    intro cold before
    unfold resetLevel
    split
    · exact startBlocks cause s
    · exact recompute keptBy_askEvent (startBlocks cause s) _ _
  exact (((levelled _ _).setLink _).raise _ _).arbitrate

theorem restartReset (h : s.BeaconsHeld) : (restartReset s).BeaconsHeld := by
  unfold Machine.restartReset
  split
  · exact reset _ _
  · exact h

/-! ### One command and one step -/

/-- R160: a host frame that carries a request arrives. -/
theorem requestArrives (h : s.BeaconsHeld) (tag : Byte) (q : Request) : (requestArrives tag q s).BeaconsHeld :=
  h.frameArrives _

/-- The state a command leads to, once the command's meaning is known to keep the beacons by the level. -/
theorem ofNext {a : State} (h : a.BeaconsHeld)
    (e : (Host.Outcome.next a : Host.Outcome State Fault Refusal) = .next t) : t.BeaconsHeld :=
  Host.Outcome.next.inj e ▸ h

theorem exec (h : s.BeaconsHeld) (c : Instr) (e : exec c s = .next t) : t.BeaconsHeld := by
  cases c with
  | powerOn | brownout | resetIn => exact ofNext (reset _ s) e
  | restartRequest => exact ofNext h.restartReset e
  | crystalEdge => exact ofNext (h.setTime _) e
  | edgeGapExpiry => exact ofNext h.edgeGapExpires e
  | qualificationExpiry => exact ofNext h.qualificationExpires e
  | hostFrameArrival octets => exact ofNext (h.hostOctetsArrive octets) e
  | hostFrameGapExpiry => exact ofNext (h.ofWarning (hostGapFalls_warning s)) e
  | hostFrameSent => exact ofNext h.hostSent e
  | unknownKind kind tag => exact ofNext (h.frameArrives _) e
  | identify _ | linkSet _ _ | timeSet _ _ | timeRead _ | timeSource _ _ | trimSet _ _ | fieldSet _ _ | headSet _ _
  | headRead _ _ | headParam _ _ | captureRead _ | channelSet _ _ | channelRead _ _ | stageSet _ _ | stageRead _
  | recordRead _ _ _ | ruleSet _ _ | ruleRead _ _ | warningSet _ _ | warningRead _ | warningAck _
  | warningFloor _ _ | monitorSet _ _ _ | carriageSet _ _ | carriageHome _ | carriageRead _ | meterSet _ _
  | planClear _ _ _ | planPut _ _ | planRead _ _ | runStart _ | runSkip _ | runAbort _ | runRead _ | resultRead _ _
  | quiet _ | wakeSet _ _ | causeRead _ | causeClear _ | noticeSet _ _ _ | noticeDone _ | hold _ _ | save _
  | restart _ => exact ofNext (h.requestArrives _ _) e
  | saveWriteEnd holds => exact ofNext (h.writeEnds holds) e
  | fieldFrameReceived octets => exact ofNext (h.frameReceived octets) e
  | fieldCharacterGap => exact ofNext (h.ofWarning (fieldGapFalls_warning s)) e
  | pollDue entry => exact ofNext (h.ofWarning (pollFallsDue_warning entry s)) e
  | lineIdle => exact ofNext (h.ofWarning (lineFallsIdle_warning s)) e
  | deferralExpiry => exact ofNext h.deferralExpires e
  | collision => exact ofNext h.collides e
  | backoffExpiry => exact ofNext (h.ofWarning (backoffEnds_warning s)) e
  | fieldFrameSent => exact ofNext h.frameSent e
  | replyWindowExpiry => exact ofNext h.windowExpires e
  | warnRefreshExpiry => exact ofNext (h.ofWarning (refreshExpires_warning s)) e
  | staleExpiry channel =>
    refine ofNext ?_ e
    cases place channel 4 with
    | none => exact h
    | some i => exact h.channelEvent i _
  | recordTimerExpiry => exact ofNext h.recordExpires e
  | waitingAppend => exact ofNext h.appendWaiting e
  | confirmTimerExpiry rule | clearTimerExpiry rule =>
    refine ofNext ?_ e
    cases place rule 8 with
    | none => exact h
    | some i => exact h.ruleExpires _ _ i
  | sirenRunExpiry => exact ofNext h.sirenExpires e
  | repeatExpiry => exact ofNext h.repeatExpires e
  | monitorExpiry => exact ofNext h.monitorExpires e
  | traversePulse outward => exact ofNext (h.ofWarning (traverseMoves_warning outward s)) e
  | reelPulse down => exact ofNext (h.ofWarning (reelMoves_warning down s)) e
  | homeLimitClose => exact ofNext (h.ofWarning (homeLimitCloses_warning s)) e
  | farLimitClose => exact ofNext (h.ofWarning (farLimitCloses_warning s)) e
  | reelTopChange closed => exact ofNext (h.ofWarning (reelTopChanges_warning closed s)) e
  | surfaceContactClose => exact ofNext (h.ofWarning (surfaceCloses_warning s)) e
  | bottomContactChange closed => exact ofNext (h.ofWarning (bottomChanges_warning closed s)) e
  | winchOverload => exact ofNext (h.ofWarning (overloadTrips_warning s)) e
  | stallExpiry => exact ofNext (h.ofWarning (stallExpires_warning s)) e
  | holdTimerExpiry => exact ofNext (h.ofWarning (holdTimerExpires_warning s)) e
  | settleExpiry => exact ofNext (h.ofWarning (settleExpires_warning s)) e
  | meterContact => exact ofNext (h.ofWarning (meterCloses_warning s)) e
  | exposureEnding => exact ofNext (h.ofWarning (exposureEnds_warning s)) e
  | lateLimitExpiry => exact ofNext (h.ofWarning (lateLimitExpires_warning s)) e
  | startWaitExpiry => exact ofNext (h.ofWarning (startWaitExpires_warning s)) e
  | holdExpiry => exact ofNext (h.ofWarning (holdExpires_warning s)) e
  | hostCharacterReceived octet stopBit => exact ofNext (h.hostCharacter octet stopBit) e
  | fieldCharacterReceived octet => exact ofNext (h.fieldCharacter octet) e
  | homeLimitOpen | farLimitOpen | surfaceContactOpen | winchOverloadClear =>
    exact ofNext (h.ofWarning (setSwitches_warning _ s)) e

/-- A step is a command taken from the queue, one that is due, or a millisecond of the reference. -/
theorem step (h : s.BeaconsHeld) (e : step s = .next t) : t.BeaconsHeld := by
  unfold Machine.step idle at e
  split at e
  · exact (h.setPending _).exec _ e
  · split at e
    · exact h.freeTaken.exec _ e
    · exact ofNext (h.setTime _) e

/-- R168: each of the four resets that takes place leaves the beacons by the level, whatever stood before. -/
theorem ofReset {c : Instr}
    (resets : c = .powerOn ∨ c = .brownout ∨ c = .resetIn ∨ (c = .restartRequest ∧ s.link.restart = .due))
    (e : Machine.exec c s = .next t) : t.BeaconsHeld := by
  obtain rfl | rfl | rfl | ⟨rfl, due⟩ := resets
  · exact ofNext (reset .powerOn s) e
  · exact ofNext (reset .brownout s) e
  · exact ofNext (reset .resetIn s) e
  · have restarted : Machine.restartReset s = Machine.reset .restartRequest s := if_pos due
    exact ofNext (restarted ▸ reset .restartRequest s) e

end State.BeaconsHeld

/-- Settles O57: every step keeps the beacons by the level, by cases over the commands; a reset sets them by it. -/
theorem beaconsAlwaysFollowTheLevel : Obligations.BeaconsAlwaysFollowTheLevel := by
  unfold Obligations.BeaconsAlwaysFollowTheLevel
  exact ⟨fun _ _ held next => held.step next, fun _ _ _ resets next => .ofReset resets next⟩

end Sys2Proof.Machine

namespace Sys2Proof.Machine

/-! ## One walk over the commands, for any property that the leaves of the machine keep -/

/-- What a command can do to the carriage and the run: the events of the cableway and of an exposure, and the orders and
requests that drive them. -/
inductive CarriageStep (s : State) : State → Prop where
  | traverse (outward : Bool) : CarriageStep s (traverseMoves outward s)
  | reel (down : Bool) : CarriageStep s (reelMoves down s)
  | homeLimit : CarriageStep s (homeLimitCloses s)
  | farLimit : CarriageStep s (farLimitCloses s)
  | reelTop (closed : Bool) : CarriageStep s (reelTopChanges closed s)
  | surface : CarriageStep s (surfaceCloses s)
  | bottom (closed : Bool) : CarriageStep s (bottomChanges closed s)
  | overload : CarriageStep s (overloadTrips s)
  | stall : CarriageStep s (stallExpires s)
  | holdTimer : CarriageStep s (holdTimerExpires s)
  | settle : CarriageStep s (settleExpires s)
  | meter : CarriageStep s (meterCloses s)
  | lateLimit : CarriageStep s (lateLimitExpires s)
  | startWait : CarriageStep s (startWaitExpires s)
  /-- A switch other than REEL_TOP changes and brings nothing about. -/
  | switchAlone (f : Switches → Switches) (top : ∀ x, (f x).reelTop = x.reelTop) : CarriageStep s (setSwitches f s)
  | configured (held : CarriageSettings) : CarriageStep s (s.setCable (carriageSetTo held s.cable))
  | homing : CarriageStep s (beginHoming s)
  | started : CarriageStep s (beginRun s)
  | skipped : CarriageStep s (skipVertical s)
  | aborted (reason : AbortReason) : CarriageStep s (abortRun reason s)

/-- A property that the leaves of the machine keep: an update of one component, as far as the leaves make it, a record that
joins the ring, and an event at the carriage. -/
structure Leaves (P : State → Prop) : Prop where
  time : ∀ {s} x, P s → P (s.setTime x)
  field : ∀ {s} x, P s → P (s.setField x)
  channels : ∀ {s} x, P s → P (s.setChannels x)
  gauging : ∀ {s} x, P s → P (s.setGauging x)
  notices : ∀ {s} x, P s → P (s.setNotices x)
  link : ∀ {s} x, P s → P (s.setLink x)
  supervisor : ∀ {s} x, P s → P (s.setSupervisor x)
  freeCount : ∀ {s} x, P s → P (s.setFreeCount x)
  warning : ∀ {s} (x : WarningUnit), P s → (level : x.level = s.warning.level := by rfl) →
    (floor : x.floor = s.warning.floor := by rfl) → (rules : x.rules = s.warning.rules := by rfl) → P (s.setWarning x)
  stage : ∀ {s} (x : StageUnit), P s → (ring : x.ring = s.stage.ring := by rfl) →
    (next : x.nextSequence = s.stage.nextSequence := by rfl) → P (s.setStage x)
  joined : ∀ {s} kind, ringOpen s = true → P s → P (joinRing kind s)
  carriage : ∀ {s t}, CarriageStep s t → P s → P t

/-- Besides, the level computed after a change of the warning unit keeps the property. -/
structure LevelKept (P : State → Prop) : Prop extends Leaves P where
  levelled : ∀ {ask : State → State}, (∀ x, P x → P (ask x)) → ∀ {s} w before forced, P s →
    P (recompute ask before forced (s.setWarning w))

/-- And so does a reset, up to the level it leaves: what every command then keeps. -/
structure Kept (P : State → Prop) : Prop extends LevelKept P where
  restarted : ∀ cause {s}, P s → P (resetLevel (isCold cause) s.warning.rules (startBlocks cause s))

namespace Leaves

variable {P : State → Prop} {s t : State}

/-! ### Notices, the wake and the arbiter -/

theorem startLine (k : Leaves P) (h : P s) : P (startLine s) := by
  unfold Machine.startLine
  split
  · exact h
  · split_ifs
    · exact k.link _ h
    · exact k.link _ h
    · exact h

theorem dispatch (k : Leaves P) (h : P s) : P (dispatch s) := by
  unfold Machine.dispatch
  split
  · split
    · exact h
    · unfold handOver
      split
      · exact h
      · exact k.startLine (k.link _ (k.notices _ h))
  · exact h

theorem fillSlot (k : Leaves P) (h : P s) (src : NoticeSource) (c : List Field) : P (fillSlot src c s) :=
  k.dispatch (k.notices _ h)

theorem monitorWoken (k : Leaves P) (h : P s) : P (monitorWoken s) := by
  unfold Machine.monitorWoken
  split
  · exact k.warning _ h
  · exact h

theorem wake (k : Leaves P) (h : P s) (r : WakeReason) : P (wake r s) := by
  unfold Machine.wake
  split
  · exact k.monitorWoken (k.fillSlot (k.supervisor _ h) _ _)
  · exact h

theorem raise (k : Leaves P) (h : P s) (src : NoticeSource) (c : List Field) : P (raise src c s) := by
  unfold Machine.raise
  dsimp only
  split
  · exact k.wake (k.fillSlot h _ _) _
  · exact k.fillSlot h _ _

theorem arbitrate (k : Leaves P) (h : P s) : P (arbitrate s) := by
  unfold Machine.arbitrate
  split
  · split
    · exact k.field _ (k.field _ h)
    · split
      · exact k.field _ (k.field _ h)
      · split
        · exact k.field _ h
        · exact h
  · exact h

theorem requestWarn (k : Leaves P) (h : P s) : P (requestWarn s) := k.arbitrate (k.field _ h)

theorem transmitterFree (k : Leaves P) (h : P s) : P (transmitterFree s) := k.arbitrate (k.field _ h)

/-! ### The siren (R94 to R96) -/

theorem setSiren (k : Leaves P) (h : P s) (x : Siren) : P (setSiren x s) := k.warning _ h

theorem startSiren (k : Leaves P) (h : P s) : P (startSiren s) := k.requestWarn (k.warning _ h)

theorem stopSiren (k : Leaves P) (h : P s) (x : Siren) : P (stopSiren x s) := k.requestWarn (k.setSiren h x)

theorem silenceSiren (k : Leaves P) (h : P s) : P (silenceSiren s) := by
  unfold Machine.silenceSiren
  split
  · exact k.stopSiren h _
  · exact k.setSiren h _

theorem judgeSiren (k : Leaves P) (h : P s) (old new : Nat) : P (judgeSiren old new s) := by
  unfold Machine.judgeSiren
  split
  · exact k.silenceSiren h
  · split
    · split
      · exact k.setSiren h _
      · exact k.startSiren h
    · exact h

theorem sirenExpires (k : Leaves P) (h : P s) : P (sirenExpires s) := by
  unfold Machine.sirenExpires
  split
  · exact k.stopSiren h _
  · exact h

theorem repeatExpires (k : Leaves P) (h : P s) : P (repeatExpires s) := by
  unfold Machine.repeatExpires
  split
  · exact k.startSiren h
  · exact h

theorem takeWarningAck (k : Leaves P) (h : P s) : P (takeWarningAck s).1 := by
  unfold Machine.takeWarningAck
  dsimp only
  split
  · exact k.stopSiren h _
  · exact h

theorem raiseSpell (k : Leaves P) (h : P s) (n : Nat) : P (raiseSpell n s) := by
  unfold Machine.raiseSpell
  split
  · exact k.warning _ h
  · exact h

/-! ### The run (R128 to R140) -/

theorem judgeWithdraw (k : Leaves P) (h : P s) : P (judgeWithdraw s) := by
  unfold Machine.judgeWithdraw
  split
  · exact k.carriage (.aborted _) h
  · exact h

theorem judgeAutonomy (k : Leaves P) (h : P s) : P (judgeAutonomy s) := by
  unfold Machine.judgeAutonomy
  split
  · exact k.carriage (.aborted _) h
  · exact h

theorem startRun (k : Leaves P) (h : P s) : P (startRun s) := by
  unfold Machine.startRun
  split
  · exact k.judgeAutonomy (k.carriage .started h)
  · exact k.carriage .started h

theorem exposureEnds (k : Leaves P) (h : P s) : P (exposureEnds s) := by
  unfold Machine.exposureEnds
  split
  · split
    · exact k.gauging _ h
    · exact h
  · exact h

/-- The level computed afresh keeps a property that no change of the warning unit touches: R91 step by step. -/
theorem levelled_of_warning (k : Leaves P) (any : ∀ {s} x, P s → P (s.setWarning x)) {ask : State → State}
    (keeps : ∀ x, P x → P (ask x)) (h : P s) (before : Vector Rule 8) (forced : Option LevelCause) :
    P (recompute ask before forced s) := by
  unfold recompute
  dsimp only
  split
  · exact h
  · have told := fun c n => k.raiseSpell (k.judgeSiren (any (placeLevel c n s).warning h) s.warning.level n) n
    exact k.wake (k.judgeWithdraw (k.requestWarn (keeps _ (k.raise (told _ _) _ _)))) _

theorem levelKept (k : Leaves P) (any : ∀ {s} x, P s → P (s.setWarning x)) : LevelKept P :=
  { k with levelled := fun keeps _ w before forced h => k.levelled_of_warning any keeps (any w h) before forced }

end Leaves

namespace LevelKept

variable {P : State → Prop} {s t : State}

/-! ### Hand-overs and appends (R69, R77, R85, R91) -/

/-- The level computed where the warning unit is as it was. -/
theorem recompute (k : LevelKept P) {ask : State → State} (keeps : ∀ x, P x → P (ask x)) (h : P s)
    (before : Vector Rule 8) (forced : Option LevelCause) : P (recompute ask before forced s) :=
  k.levelled keeps s.warning before forced h

theorem reportBlind (k : LevelKept P) (h : P s) (changed : Bool) : P (reportBlind changed s) := by
  unfold Machine.reportBlind
  split
  · exact k.raise h _ _
  · exact h

theorem handInput (k : LevelKept P) {ask : State → State} (keeps : ∀ x, P x → P (ask x)) (h : P s) (kind : RuleKind)
    (input : Option Int) : P (handInput ask kind input s) := k.reportBlind (k.levelled keeps _ _ _ h) _

theorem handRate (k : LevelKept P) {ask : State → State} (keeps : ∀ x, P x → P (ask x)) (h : P s) (rate : Option Int) :
    P (handRate ask rate s) := by
  cases rate with
  | some v => exact k.wake (k.handInput keeps h _ _) _
  | none => exact k.handInput keeps h _ _

theorem handStage (k : LevelKept P) {ask : State → State} (keeps : ∀ x, P x → P (ask x)) (h : P s) (stage : Option Int) :
    P (handStage ask stage s) := by
  cases stage with
  | some v => exact k.wake (k.handInput keeps h _ _) _
  | none => exact k.handInput keeps h _ _

theorem append (k : LevelKept P) (kind : Append) (opened : ringOpen s = true) (h : P s) : P (append kind s) :=
  k.handRate (ask := queueAppend .event) (fun _ held => k.stage _ held) (k.joined kind opened h) _

theorem requestAppend (k : LevelKept P) (h : P s) (kind : Append) : P (requestAppend kind s) := by
  unfold Machine.requestAppend
  split
  case isTrue opened => exact k.append kind opened.2 h
  case isFalse => exact k.stage _ h

theorem askEvent (k : LevelKept P) (x : State) (h : P x) : P (askEvent x) := k.requestAppend h .event

theorem appendWaiting (k : LevelKept P) (h : P s) : P (appendWaiting s) := by
  unfold Machine.appendWaiting
  split
  · exact h
  · split
    case isTrue opened => exact k.append _ opened (k.stage _ h)
    case isFalse => exact h

theorem recordExpires (k : LevelKept P) (h : P s) : P (recordExpires s) := by
  unfold Machine.recordExpires
  split
  · exact k.requestAppend h _
  · exact h

theorem resetLevel (k : LevelKept P) (h : P s) (cold : Bool) (before : Vector Rule 8) :
    P (resetLevel cold before s) := by
  unfold Machine.resetLevel
  split
  · exact h
  · exact k.recompute k.askEvent h _ _

theorem kept (k : LevelKept P) (started : ∀ cause {s}, P s → P (startBlocks cause s)) : Kept P :=
  { k with restarted := fun cause _ h => k.resetLevel (started cause h) _ _ }

end LevelKept

namespace Kept

variable {P : State → Prop} {s t : State}

/-! ### The rules and the settings of the warning unit (R83, R87, R90, R97, R99) -/

theorem ruleExpires (k : Kept P) (h : P s) (st next : RuleState) (i : Fin 8) :
    P (ruleExpires Machine.askEvent st next i s) := by
  unfold Machine.ruleExpires
  split
  · exact k.levelled k.askEvent _ _ _ h
  · exact h

theorem takeRuleSet (k : Kept P) (h : P s) (a : RuleSetArgs) : P (takeRuleSet Machine.askEvent a s).1 := by
  unfold Machine.takeRuleSet
  split
  · split_ifs
    · exact h
    · exact h
    · exact k.reportBlind (k.levelled k.askEvent _ _ _ h) _
  · exact h

theorem takeRuleRead (h : P s) (n : Nat) : P (takeRuleRead n s).1 := by
  unfold Machine.takeRuleRead; split <;> exact h

theorem takeWarningFloor (k : Kept P) (h : P s) (n : Nat) : P (takeWarningFloor Machine.askEvent n s).1 := by
  unfold Machine.takeWarningFloor
  split
  · exact h
  · exact k.levelled k.askEvent _ _ _ h

theorem takeWarningSet (k : Kept P) (h : P s) (a : WarningSetArgs) : P (takeWarningSet a s).1 := by
  have applied : ∀ x, P (applyWarning x s) := by
    intro x
    unfold applyWarning
    dsimp only
    refine k.judgeWithdraw ?_
    split
    · exact k.stopSiren (k.warning _ h) _
    · exact k.warning _ h
  unfold Machine.takeWarningSet
  split_ifs
  · exact h
  · exact h
  · exact applied _

theorem takeMonitorSet (k : Kept P) (h : P s) (enable exponent : Nat) : P (takeMonitorSet enable exponent s).1 := by
  unfold Machine.takeMonitorSet
  split
  · exact h
  · split
    · exact h
    · exact k.warning _ h

/-! ### The monitor and autonomy (R98, R100, R101) -/

theorem monitorRestarted (k : Kept P) (h : P s) : P (monitorRestarted s) := by
  unfold Machine.monitorRestarted
  split
  · exact k.warning _ h
  · exact h

theorem monitorSuspended (k : Kept P) (h : P s) : P (monitorSuspended s) := by
  unfold Machine.monitorSuspended
  split
  · exact k.warning _ h
  · exact h

theorem takeUpSiren (k : Kept P) (h : P s) : P (takeUpSiren s) := by
  unfold Machine.takeUpSiren
  split
  · split
    · exact k.setSiren h _
    · exact h
  · exact h

theorem monitorExpires (k : Kept P) (h : P s) : P (monitorExpires s) := by
  unfold Machine.monitorExpires
  split
  · have begun : P (beginSpell s) := k.warning _ h
    exact k.judgeAutonomy (k.requestWarn (k.takeUpSiren begun))
  · exact h

theorem leaveAutonomous (k : Kept P) (h : P s) : P (leaveAutonomous s) := by
  unfold Machine.leaveAutonomous
  dsimp only
  split
  · exact k.raise (k.notices _ (k.requestWarn (k.monitorRestarted (k.warning _ h)))) _ _
  · exact k.notices _ (k.requestWarn (k.monitorRestarted (k.warning _ h)))

theorem hostHeard (k : Kept P) (h : P s) : P (hostHeard s) := by
  unfold Machine.hostHeard
  split
  · exact k.leaveAutonomous h
  · exact k.monitorRestarted h

/-! ### Votes and channels (R47, R60, R65, R69, R79) -/

theorem runVote (k : Kept P) (h : P s) : P (runVote s) := by
  unfold Machine.runVote handVote
  dsimp only
  have voted : P (s.setStage (voted (ranksOf s) s.stage)) := k.stage _ h
  have updated : ∀ {x : State} (b : StageUnit), P x →
      P (if x.stage.stage = b.stage then x else Machine.handStage Machine.askEvent x.stage.stage x) := by
    intro x b held
    split
    · exact held
    · exact k.handStage k.askEvent held _
  split
  · exact k.raise (updated _ voted) _ _
  · exact updated _ voted

theorem handChannel (k : Kept P) (h : P s) (i : Fin 4) : P (handChannel i s) := k.runVote (k.stage _ h)

theorem channelEvent (k : Kept P) (h : P s) (i : Fin 4) (f : Channel → Channel) : P (channelEvent i f s) := by
  unfold Machine.channelEvent
  dsimp only
  have placed : P (s.setChannel i (f s.channels[i])) := k.channels _ h
  split
  · split
    · exact placed
    · exact k.handChannel placed i
  · split
    · exact k.raise placed _ _
    · exact k.raise (k.handChannel placed i) _ _

theorem applyChannel (k : Kept P) (h : P s) (i : Fin 4) (x : ChannelSettings) : P (applyChannel i x s) := by
  have placed : ∀ c, P (s.setChannel i c) := fun _ => k.channels _ h
  exact k.raise (k.handChannel (placed _) i) .channelState _

theorem takeChannelSet (k : Kept P) (h : P s) (a : ChannelSetArgs) : P (takeChannelSet a s).1 := by
  unfold Machine.takeChannelSet
  split
  · dsimp only
    split_ifs
    case neg => exact k.applyChannel h _ _
    all_goals exact h
  · exact h

theorem takeStageSet (k : Kept P) (h : P s) (a : StageSetArgs) : P (takeStageSet a s).1 := by
  unfold Machine.takeStageSet
  split
  · exact h
  · split
    · exact h
    · exact k.stage _ (k.runVote (k.stage _ h))

/-! ### The field line (R18 to R43) -/

theorem setEntry (k : Kept P) (h : P s) (i : Fin 8) (f : HeadEntry → HeadEntry) : P (setEntry i f s) := k.field _ h

theorem judgePosts (k : Kept P) (h : P s) (before : State) : P (judgePosts before s) := by
  unfold Machine.judgePosts
  split
  · exact k.raise h _ _
  · exact h

theorem feedChannel (k : Kept P) (h : P s) (i : Fin 8) (f : Channel → Channel) : P (feedChannel i f s) := by
  unfold Machine.feedChannel
  split
  · exact k.channelEvent h _ _
  · exact h

theorem handContent (k : Kept P) (h : P s) (before : State) (i : Fin 8) (f : FieldFrame) :
    P (handContent before i f s) := by
  have faulted : ∀ {x : State}, P x → P (handPostFault before i x) := by
    intro x held
    unfold handPostFault
    split
    · exact k.wake held _
    · exact held
  unfold Machine.handContent
  split
  · exact k.feedChannel h _ _
  · split
    · exact faulted (k.judgePosts (k.setEntry h _ _) _)
    · exact k.judgePosts h _

theorem endManagement (k : Kept P) (h : P s) (n : Nat) (o : ParamOutcome) : P (endManagement n o s) := by
  unfold Machine.endManagement
  split
  · exact k.raise (k.field _ h) _ _
  · exact h

theorem pollUnanswered (k : Kept P) (h : P s) (i : Fin 8) : P (pollUnanswered i s) := by
  unfold Machine.pollUnanswered fallSilent
  have counted : P (scheduleEntry i (Machine.setEntry i unanswered s)) := k.field _ (k.field _ h)
  dsimp only
  split
  · split
    · exact k.feedChannel counted _ _
    · exact k.judgePosts (k.setEntry counted _ _) _
  · exact counted

theorem windowExpires (k : Kept P) (h : P s) : P (windowExpires s) := by
  unfold Machine.windowExpires
  split
  · refine k.transmitterFree ?_
    split
    · split
      · exact k.pollUnanswered h _
      · exact k.endManagement h _ _
      · exact h
    · exact h
  · exact h

theorem failTransaction (k : Kept P) (h : P s) (x : LineFailure) (t : Transaction) : P (failTransaction x t s) := by
  have served : P (failRequester x t s) := by
    unfold failRequester
    split
    · exact k.field _ (k.field _ h)
    · exact k.endManagement h _ _
    · exact k.field _ h
  exact k.transmitterFree (k.raise served _ _)

theorem deferralExpires (k : Kept P) (h : P s) : P (deferralExpires s) := by
  unfold Machine.deferralExpires
  split
  · split
    · exact k.failTransaction h _ _
    · exact h
  · exact h

theorem lineFallsIdle (k : Kept P) (h : P s) : P (lineFallsIdle s) := by
  unfold Machine.lineFallsIdle
  split
  · exact k.field _ h
  · exact h

theorem collides (k : Kept P) (h : P s) : P (collides s) := by
  unfold Machine.collides
  split
  · dsimp only
    split
    · exact k.failTransaction (k.field _ h) _ _
    · exact k.freeCount _ (k.field _ (k.field _ h))
  · exact h

theorem backoffEnds (k : Kept P) (h : P s) : P (backoffEnds s) := by
  unfold Machine.backoffEnds
  split
  · exact k.field _ h
  · exact h

theorem warnSent (k : Kept P) (h : P s) (n : Nat) : P (warnSent n s) := k.judgePosts (k.field _ h) _

theorem frameSent (k : Kept P) (h : P s) : P (frameSent s) := by
  unfold Machine.frameSent
  split
  · dsimp only
    split
    · exact k.transmitterFree (k.warnSent (k.field _ h) _)
    · exact k.field _ (k.field _ h)
  · exact h

theorem refreshExpires (k : Kept P) (h : P s) : P (refreshExpires s) := by
  unfold Machine.refreshExpires
  dsimp only
  split
  · split
    · exact k.requestWarn (k.field _ h)
    · exact k.field _ h
  · exact h

theorem pollFallsDue (k : Kept P) (h : P s) (n : Nat) : P (pollFallsDue n s) := by
  unfold Machine.pollFallsDue
  split
  · split
    · exact k.arbitrate h
    · exact h
  · exact h

theorem deliver (k : Kept P) (h : P s) (i : Fin 8) (f : FieldFrame) : P (deliver i f s) := by
  have alive : P (signOfLife i s) := k.field _ h
  unfold Machine.deliver
  split
  · split
    · exact k.transmitterFree (k.field _ (k.handContent (k.setEntry alive i _) s i f))
    · exact k.transmitterFree (k.endManagement (k.handContent alive s i f) _ _)
  · exact k.handContent alive _ _ _

theorem goodFrame (k : Kept P) (h : P s) (f : FieldFrame) : P (goodFrame f s) := by
  have offered : ∀ r, P (offerCapture f r s) := by
    intro r
    unfold offerCapture
    split_ifs
    · exact k.raise (k.field _ h) _ _
    · exact h
    · exact k.raise (k.field _ h) _ _
    · exact h
  unfold Machine.goodFrame
  dsimp only
  split
  · exact k.deliver (offered _) _ _
  · exact offered _

theorem frameReceived (k : Kept P) (h : P s) (octets : List Byte) : P (frameReceived octets s) := by
  unfold Machine.frameReceived
  split
  · exact k.field _ h
  · dsimp only
    split
    · exact k.goodFrame (k.field _ h) _
    · exact k.field _ h

theorem fieldGapFalls (k : Kept P) (h : P s) : P (fieldGapFalls s) := by
  unfold Machine.fieldGapFalls
  split
  · exact k.field _ h
  · exact h

theorem fieldCharacter (k : Kept P) (h : P s) (octet : Byte) : P (fieldCharacter octet s) := by
  unfold Machine.fieldCharacter gatherOctet
  split
  · exact k.field _ h
  · have gapped := k.fieldGapFalls h
    split
    · exact k.field _ gapped
    · dsimp only
      split_ifs
      · exact k.field _ gapped
      · exact k.frameReceived gapped _
      · exact k.field _ gapped

theorem takeFieldSet (k : Kept P) (h : P s) (a : FieldSetArgs) : P (takeFieldSet a s).1 := by
  unfold Machine.takeFieldSet
  split
  · exact h
  · split_ifs
    · exact h
    · exact h
    · exact k.field _ h

theorem takeHeadSet (k : Kept P) (h : P s) (a : HeadSetArgs) : P (takeHeadSet a s).1 := by
  have applied : ∀ i c, P (applyHead i c s) := by
    intro i c
    unfold applyHead
    dsimp only
    refine k.arbitrate ?_
    split
    · exact k.raise (k.field _ h) _ _
    · exact k.field _ h
  unfold Machine.takeHeadSet
  split
  · split_ifs
    case neg => exact applied _ _
    all_goals exact h
  · exact h

theorem takeHeadRead (h : P s) (n : Nat) : P (takeHeadRead n s).1 := by
  unfold Machine.takeHeadRead; split <;> exact h

theorem takeHeadParam (k : Kept P) (h : P s) (a : HeadParamArgs) : P (takeHeadParam a s).1 := by
  unfold Machine.takeHeadParam
  split
  · split_ifs
    case neg => exact k.arbitrate (k.field _ h)
    all_goals exact h
  · exact h

theorem takeCaptureRead (k : Kept P) (h : P s) : P (takeCaptureRead s).1 := by
  unfold Machine.takeCaptureRead
  split
  · exact h
  · exact k.field _ h

theorem takeChannelRead (h : P s) (n : Nat) : P (takeChannelRead n s).1 := by
  unfold Machine.takeChannelRead; split <;> exact h

theorem takeRecordRead (h : P s) (start count : Nat) : P (takeRecordRead start count s).1 := by
  unfold Machine.takeRecordRead
  split
  · exact h
  · cases recordsFrom s.stage start count
    exact h

/-! ### The time base, the store and quiet mode (R2 to R10, R171 to R173) -/

theorem selectXtal (k : Kept P) (h : P s) : P (selectXtal s) := by
  unfold Machine.selectXtal
  split
  · exact h
  · exact k.freeCount _ (k.time _ h)

theorem selectRc (k : Kept P) (h : P s) (n : Nat) : P (selectRc n s) := by
  unfold Machine.selectRc
  split
  · exact h
  · exact k.time _ h

theorem edgeGapExpires (k : Kept P) (h : P s) : P (edgeGapExpires s) := by
  unfold Machine.edgeGapExpires
  dsimp only
  split
  · split
    · exact k.raise (k.selectRc (k.time _ h) _) _ _
    · exact k.time _ h
  · exact h

theorem qualificationExpires (k : Kept P) (h : P s) : P (qualificationExpires s) := by
  unfold Machine.qualificationExpires
  dsimp only
  split
  · split
    · exact k.raise (k.time _ (k.selectXtal (k.time _ h))) _ _
    · exact k.raise (k.time _ h) _ _
  · exact h

theorem takeTimeSet (k : Kept P) (h : P s) (n : Nat) : P (takeTimeSet n s).1 := by
  unfold Machine.takeTimeSet
  split
  · exact h
  · exact k.time _ h

theorem takeTrimSet (k : Kept P) (h : P s) (c : Int) : P (takeTrimSet c s).1 := by
  unfold Machine.takeTrimSet
  split
  · exact h
  · exact k.time _ h

theorem takeTimeSource (k : Kept P) (h : P s) (n : Nat) : P (takeTimeSource n s).1 := by
  unfold Machine.takeTimeSource
  dsimp only
  split
  · split
    · exact k.selectXtal (k.time _ h)
    · exact h
  · exact k.selectRc (k.time _ h) _
  · exact h

theorem writeEnds (k : Kept P) (h : P s) (holds : Bool) : P (writeEnds holds s) := by
  unfold Machine.writeEnds
  split
  · exact k.raise (k.supervisor _ h) _ _
  · exact h

theorem judgeInputs (k : Kept P) (h : P s) : P (judgeInputs s) := by
  have staged : P (match s.warning.stageInput with
      | some v => Machine.wake (.stage v) s
      | none => s) := by
    split
    · exact k.wake h _
    · exact h
  unfold Machine.judgeInputs
  dsimp only
  split
  · exact k.wake staged _
  · exact staged

theorem takeQuiet (k : Kept P) (h : P s) : P (takeQuiet s).1 := by
  have entered : P (enterQuiet s) := k.monitorSuspended (k.field _ (k.supervisor _ h))
  unfold Machine.takeQuiet
  split_ifs
  case neg => exact k.judgeInputs entered
  all_goals exact h

theorem endQuiet (k : Kept P) (h : P s) : P (endQuiet s) := by
  unfold Machine.endQuiet
  split
  · exact k.stage _ (k.arbitrate (k.field _ (k.supervisor _ h)))
  · exact h

theorem takeWakeSet (k : Kept P) (h : P s) (a : WakeSetArgs) : P (takeWakeSet a s).1 := by
  unfold Machine.takeWakeSet
  split
  · exact h
  · split
    · exact h
    · exact k.supervisor _ h

theorem takeSave (k : Kept P) (h : P s) : P (takeSave s).1 := by
  unfold Machine.takeSave
  split
  · exact h
  · exact k.supervisor _ h

theorem takeRestart (k : Kept P) (h : P s) : P (takeRestart s).1 := by
  unfold Machine.takeRestart
  split
  · exact h
  · exact k.link _ h

theorem takeLinkSet (k : Kept P) (h : P s) (n : Nat) : P (takeLinkSet n s).1 := by
  unfold Machine.takeLinkSet
  split_ifs
  · exact h
  · exact h
  · exact k.link _ h

theorem takeNoticeSet (k : Kept P) (h : P s) (m : Nat) (x : Option NoticeItem) : P (takeNoticeSet m x s).1 := by
  unfold Machine.takeNoticeSet
  split
  · exact h
  · exact h
  · split
    · exact h
    · exact k.notices _ h

theorem takeNoticeDone (k : Kept P) (h : P s) : P (takeNoticeDone s).1 := by
  unfold Machine.takeNoticeDone
  split
  · exact h
  · exact k.notices _ h

theorem holdExpires (k : Kept P) (h : P s) : P (holdExpires s) := by
  unfold Machine.holdExpires
  split
  · exact k.dispatch (k.notices _ h)
  · exact h

/-! ### The requests of the cableway and of the gauging sequencer -/

theorem takeCarriageSet (k : Kept P) (h : P s) (a : CarriageSetArgs) : P (takeCarriageSet a s).1 := by
  unfold Machine.takeCarriageSet
  split_ifs
  · exact h
  · exact h
  · exact k.carriage (.configured _) h

theorem takeCarriageHome (k : Kept P) (h : P s) : P (takeCarriageHome s).1 := by
  unfold Machine.takeCarriageHome
  split_ifs
  case neg =>
    split
    case h_3 | h_4 | h_5 => exact k.carriage .homing h
    all_goals exact h
  all_goals exact h

theorem takeMeterSet (k : Kept P) (h : P s) (a : MeterSetArgs) : P (takeMeterSet a s).1 := by
  unfold Machine.takeMeterSet
  split_ifs
  case neg => exact k.gauging _ h
  all_goals exact h

theorem takePlanClear (k : Kept P) (h : P s) (e l : Nat) : P (takePlanClear e l s).1 := by
  unfold Machine.takePlanClear
  split
  · exact h
  · exact k.gauging _ h

theorem takePlanPut (k : Kept P) (h : P s) (a : PlanPutArgs) : P (takePlanPut a s).1 := by
  unfold Machine.takePlanPut
  dsimp only
  split
  · exact h
  · split_ifs
    case neg => exact k.gauging _ h
    all_goals exact h

theorem takePlanRead (h : P s) (n : Nat) : P (takePlanRead n s).1 := by
  unfold Machine.takePlanRead; dsimp only; split_ifs <;> exact h

theorem takeRunStart (k : Kept P) (h : P s) : P (takeRunStart s).1 := by
  unfold Machine.takeRunStart
  split_ifs
  case neg => exact k.startRun h
  all_goals exact h

theorem takeRunSkip (k : Kept P) (h : P s) : P (takeRunSkip s).1 := by
  unfold Machine.takeRunSkip
  split
  · exact k.carriage .skipped h
  · exact h

theorem takeRunAbort (k : Kept P) (h : P s) : P (takeRunAbort s).1 := by
  unfold Machine.takeRunAbort
  split
  · exact k.carriage (.aborted _) h
  · exact h

theorem takeResultRead (h : P s) (n : Nat) : P (takeResultRead n s).1 := by
  unfold Machine.takeResultRead
  split
  · exact h
  · split <;> exact h

/-! ### The host link (R159 to R163) -/

/-- R161: whatever the request, its owner keeps the property. -/
theorem answer (k : Kept P) (h : P s) (q : Request) : P (answer q s).1 := by
  cases q with
  | linkSet n => exact k.takeLinkSet h n
  | timeSet n => exact k.takeTimeSet h n
  | timeSource n => exact k.takeTimeSource h n
  | trimSet c => exact k.takeTrimSet h c
  | fieldSet a => exact k.takeFieldSet h a
  | headSet a => exact k.takeHeadSet h a
  | headRead n => exact takeHeadRead h n
  | headParam a => exact k.takeHeadParam h a
  | captureRead => exact k.takeCaptureRead h
  | channelSet a => exact k.takeChannelSet h a
  | channelRead n => exact takeChannelRead h n
  | stageSet a => exact k.takeStageSet h a
  | recordRead start count => exact takeRecordRead h start count
  | ruleSet a => exact k.takeRuleSet h a
  | ruleRead n => exact takeRuleRead h n
  | warningSet a => exact k.takeWarningSet h a
  | warningAck => exact k.takeWarningAck h
  | warningFloor n => exact k.takeWarningFloor h n
  | monitorSet enable exponent => exact k.takeMonitorSet h enable exponent
  | carriageSet a => exact k.takeCarriageSet h a
  | carriageHome => exact k.takeCarriageHome h
  | meterSet a => exact k.takeMeterSet h a
  | planClear e l => exact k.takePlanClear h e l
  | planPut a => exact k.takePlanPut h a
  | planRead n => exact takePlanRead h n
  | runStart => exact k.takeRunStart h
  | runSkip => exact k.takeRunSkip h
  | runAbort => exact k.takeRunAbort h
  | resultRead n => exact takeResultRead h n
  | quiet => exact k.takeQuiet h
  | wakeSet a => exact k.takeWakeSet h a
  | causeClear => exact k.supervisor _ h
  | noticeSet m x => exact k.takeNoticeSet h m x
  | noticeDone => exact k.takeNoticeDone h
  | hold n => exact k.notices _ h
  | save => exact k.takeSave h
  | restart => exact k.takeRestart h
  | identify | timeRead | stageRead | warningRead | carriageRead | runRead | causeRead => exact h

theorem takeFrame (k : Kept P) (h : P s) (f : HostFrame) : P (takeFrame f s) := by
  have judged : ∀ {x : State}, P x → P (judgeFrame f x).1 := by
    intro x held
    unfold judgeFrame
    split
    · exact held
    · exact k.answer held _
  exact k.dispatch (k.startLine (k.link _ (judged (k.link _ h))))

theorem frameHeard (k : Kept P) (h : P s) : P (frameHeard s) := k.endQuiet (k.hostHeard (k.link _ h))

theorem frameArrives (k : Kept P) (h : P s) (f : HostFrame) : P (frameArrives f s) := by
  have heard := k.frameHeard h
  unfold Machine.frameArrives placeFrame
  split
  · exact k.takeFrame heard f
  · split
    · exact k.link _ heard
    · exact k.link _ heard

theorem hostOctetsArrive (k : Kept P) (h : P s) (octets : List Byte) : P (hostOctetsArrive octets s) := by
  unfold Machine.hostOctetsArrive
  dsimp only
  split
  · exact k.frameArrives (k.link _ h) _
  · exact k.link _ h

theorem hostGapFalls (k : Kept P) (h : P s) : P (hostGapFalls s) := by
  unfold Machine.hostGapFalls
  split
  · exact k.link _ h
  · exact h

theorem hostCharacter (k : Kept P) (h : P s) (octet : Byte) (stopBit : Bool) : P (hostCharacter octet stopBit s) := by
  have assembled : ∀ {x : State}, P x → P (assembleOctet octet x) := by
    intro x held
    unfold assembleOctet
    split
    · split
      · exact k.link _ held
      · exact held
    · dsimp only
      split_ifs
      · exact k.link _ held
      · exact k.hostOctetsArrive held _
      · exact k.link _ held
  unfold Machine.hostCharacter
  split
  · exact assembled (k.hostGapFalls h)
  · exact k.link _ h

theorem lineFree (k : Kept P) (h : P s) : P (lineFree s) := k.dispatch (k.startLine (k.link _ h))

theorem hostSent (k : Kept P) (h : P s) : P (hostSent s) := by
  unfold Machine.hostSent replyGone
  split
  · exact h
  · exact k.lineFree (k.link _ h)
  · split
    · exact k.link _ h
    · dsimp only
      split
      · exact k.takeFrame (k.link _ (k.link _ h)) _
      · exact k.lineFree (k.link _ h)

/-! ### One command and one step -/

theorem reset (k : Kept P) (h : P s) (cause : ResetCause) : P (reset cause s) :=
  k.arbitrate (k.raise (k.link _ (k.restarted cause h)) _ _)

/-- A command has a next state, which keeps the property. -/
theorem exec (k : Kept P) (h : P s) (c : Instr) : ∃ t, exec c s = .next t ∧ P t := by
  cases c with
  | powerOn | brownout | resetIn => exact ⟨_, rfl, k.reset h _⟩
  | restartRequest =>
    refine ⟨_, rfl, ?_⟩
    unfold restartReset
    split
    · exact k.reset h _
    · exact h
  | crystalEdge => exact ⟨_, rfl, k.time _ h⟩
  | edgeGapExpiry => exact ⟨_, rfl, k.edgeGapExpires h⟩
  | qualificationExpiry => exact ⟨_, rfl, k.qualificationExpires h⟩
  | hostFrameArrival octets => exact ⟨_, rfl, k.hostOctetsArrive h octets⟩
  | hostFrameGapExpiry => exact ⟨_, rfl, k.hostGapFalls h⟩
  | hostFrameSent => exact ⟨_, rfl, k.hostSent h⟩
  | unknownKind _ _ | identify _ | linkSet _ _ | timeSet _ _ | timeRead _ | timeSource _ _ | trimSet _ _
  | fieldSet _ _ | headSet _ _ | headRead _ _ | headParam _ _ | captureRead _ | channelSet _ _ | channelRead _ _
  | stageSet _ _ | stageRead _ | recordRead _ _ _ | ruleSet _ _ | ruleRead _ _ | warningSet _ _ | warningRead _
  | warningAck _ | warningFloor _ _ | monitorSet _ _ _ | carriageSet _ _ | carriageHome _ | carriageRead _
  | meterSet _ _ | planClear _ _ _ | planPut _ _ | planRead _ _ | runStart _ | runSkip _ | runAbort _ | runRead _
  | resultRead _ _ | quiet _ | wakeSet _ _ | causeRead _ | causeClear _ | noticeSet _ _ _ | noticeDone _ | hold _ _
  | save _ | restart _ => exact ⟨_, rfl, k.frameArrives h _⟩
  | saveWriteEnd holds => exact ⟨_, rfl, k.writeEnds h holds⟩
  | fieldFrameReceived octets => exact ⟨_, rfl, k.frameReceived h octets⟩
  | fieldCharacterGap => exact ⟨_, rfl, k.fieldGapFalls h⟩
  | pollDue entry => exact ⟨_, rfl, k.pollFallsDue h entry⟩
  | lineIdle => exact ⟨_, rfl, k.lineFallsIdle h⟩
  | deferralExpiry => exact ⟨_, rfl, k.deferralExpires h⟩
  | collision => exact ⟨_, rfl, k.collides h⟩
  | backoffExpiry => exact ⟨_, rfl, k.backoffEnds h⟩
  | fieldFrameSent => exact ⟨_, rfl, k.frameSent h⟩
  | replyWindowExpiry => exact ⟨_, rfl, k.windowExpires h⟩
  | warnRefreshExpiry => exact ⟨_, rfl, k.refreshExpires h⟩
  | staleExpiry channel =>
    refine ⟨_, rfl, ?_⟩
    cases place channel 4 with
    | none => exact h
    | some i => exact k.channelEvent h i _
  | recordTimerExpiry => exact ⟨_, rfl, k.recordExpires h⟩
  | waitingAppend => exact ⟨_, rfl, k.appendWaiting h⟩
  | confirmTimerExpiry rule | clearTimerExpiry rule =>
    refine ⟨_, rfl, ?_⟩
    cases place rule 8 with
    | none => exact h
    | some i => exact k.ruleExpires h _ _ i
  | sirenRunExpiry => exact ⟨_, rfl, k.sirenExpires h⟩
  | repeatExpiry => exact ⟨_, rfl, k.repeatExpires h⟩
  | monitorExpiry => exact ⟨_, rfl, k.monitorExpires h⟩
  | traversePulse outward => exact ⟨_, rfl, k.carriage (.traverse _) h⟩
  | reelPulse down => exact ⟨_, rfl, k.carriage (.reel _) h⟩
  | homeLimitClose => exact ⟨_, rfl, k.carriage .homeLimit h⟩
  | farLimitClose => exact ⟨_, rfl, k.carriage .farLimit h⟩
  | reelTopChange closed => exact ⟨_, rfl, k.carriage (.reelTop _) h⟩
  | surfaceContactClose => exact ⟨_, rfl, k.carriage .surface h⟩
  | bottomContactChange closed => exact ⟨_, rfl, k.carriage (.bottom _) h⟩
  | winchOverload => exact ⟨_, rfl, k.carriage .overload h⟩
  | stallExpiry => exact ⟨_, rfl, k.carriage .stall h⟩
  | holdTimerExpiry => exact ⟨_, rfl, k.carriage .holdTimer h⟩
  | settleExpiry => exact ⟨_, rfl, k.carriage .settle h⟩
  | meterContact => exact ⟨_, rfl, k.carriage .meter h⟩
  | exposureEnding => exact ⟨_, rfl, k.exposureEnds h⟩
  | lateLimitExpiry => exact ⟨_, rfl, k.carriage .lateLimit h⟩
  | startWaitExpiry => exact ⟨_, rfl, k.carriage .startWait h⟩
  | holdExpiry => exact ⟨_, rfl, k.holdExpires h⟩
  | hostCharacterReceived octet stopBit => exact ⟨_, rfl, k.hostCharacter h octet stopBit⟩
  | fieldCharacterReceived octet => exact ⟨_, rfl, k.fieldCharacter h octet⟩
  | homeLimitOpen | farLimitOpen | surfaceContactOpen | winchOverloadClear =>
    exact ⟨_, rfl, k.carriage (.switchAlone _ fun _ => rfl) h⟩

/-- A step is a command taken from the queue, one that is due, or a millisecond of the reference; what the queue holds is
no part of the property. -/
theorem step (k : Kept P) (queue : ∀ {s} x, P s → P (s.setPending x)) (h : P s) (e : step s = .next t) : P t := by
  have next : ∀ {x : State} (c : Instr), P x → Machine.exec c x = .next t → P t := by
    intro x c held e
    obtain ⟨u, f, kept⟩ := k.exec held c
    exact Host.Outcome.next.inj (f.symm.trans e) ▸ kept
  unfold Machine.step idle at e
  split at e
  · exact next _ (queue _ h) e
  · split at e
    · exact next _ (k.freeCount _ h) e
    · exact Host.Outcome.next.inj e ▸ k.time _ h

end Kept
end Sys2Proof.Machine

namespace Sys2Proof.Machine

/-! ## The reach of an event at the carriage: outside the carriage, the run and the notices nothing changes -/

namespace RunOnly

variable {s : State}

/-- A completion handed on by what itself keeps within the reach of the run (R112). -/
theorem thenCompletion {p : State × Option Completion} (h : RunOnly s p.1) : RunOnly s (Machine.handCompletion p) :=
  trans h (RunOnly.handCompletion p)

theorem thenOrder {p : State × Option Order} (h : RunOnly s p.1) : RunOnly s (Machine.handOrder p) :=
  trans h (RunOnly.handOrder p)

theorem restartStall (s : State) (driven : Bool) : RunOnly s (restartStall driven s) := by
  unfold Machine.restartStall
  split
  · exact setCable s _
  · exact refl s

theorem traverseJudged (s : State) : RunOnly s (traverseJudged s).1 := by
  unfold Machine.traverseJudged
  split
  · split
    · exact arrive s
    · exact refl s
  · exact refl s

theorem reelJudged (s : State) : RunOnly s (reelJudged s) := by
  unfold Machine.reelJudged
  split
  · split
    · exact takeFault s _
    · exact refl s
  · exact judgeDepthLimit s
  · split
    · exact enterSeek s
    · exact refl s
  · split
    · exact enterAtPoint s _
    · exact judgeDepthLimit s
  · exact refl s

theorem attemptFails (s : State) : RunOnly s (attemptFails s).1 := by
  unfold Machine.attemptFails
  dsimp only
  split
  · exact setCable s _
  · split
    · exact trans (trans (setCable s _) (setMotion _ _)) (enterSeek _)
    · exact trans (trans (setCable s _) (setMotion _ _)) (setDrive _ _)

theorem endExposure (s : State) (r : PointRecord) : RunOnly s (endExposure r s).1 :=
  trans (trans (trans (setRun s _) (closeExposureSpan _)) (setVertical _ _)) (placeNext _)

theorem contactTaken (s : State) (e : Exposure) : RunOnly s (contactTaken e s).1 := by
  unfold Machine.contactTaken
  split
  · exact refl s
  · split
    · exact setRun s _
    · dsimp only
      split
      · exact endExposure s _
      · exact setRun s _

theorem lateLimitEnds (s : State) : RunOnly s (lateLimitEnds s).1 := by
  unfold Machine.lateLimitEnds
  split
  · split_ifs
    · exact endExposure s _
    · exact endExposure s _
    · exact refl s
  · exact refl s

theorem startWaitEnds (s : State) : RunOnly s (startWaitEnds s).1 := by
  unfold Machine.startWaitEnds
  split
  · exact endExposure s _
  · exact refl s

theorem skipVertical (s : State) : RunOnly s (skipVertical s) := by
  unfold Machine.skipVertical
  split
  · exact setVertical s _
  · exact thenOrder (trans (abandonExposure s) (markSkipped _ _))

theorem beginRun (s : State) : RunOnly s (beginRun s) :=
  thenOrder (p := (s.setRun (startedRun s), some (.travel (planEntry s 1).distance))) (setRun s _)

end RunOnly

/-- Whatever an event at the carriage makes of the switches and the settings, the rest of its doing is the run's. -/
theorem CarriageStep.reach {s t : State} (h : CarriageStep s t) : ∃ c, RunOnly (s.setCable c) t := by
  have stood : ∀ u, RunOnly s u → ∃ c, RunOnly (s.setCable c) u := fun _ run => ⟨s.cable, run⟩
  cases h with
  | traverse outward =>
    exact ⟨_, ((RunOnly.restartStall _ _).trans (RunOnly.traverseJudged _)).thenCompletion⟩
  | reel down => exact ⟨_, (RunOnly.restartStall _ _).trans (RunOnly.reelJudged _)⟩
  | homeLimit =>
    unfold homeLimitCloses
    dsimp only
    split
    · exact stood _ (.refl s)
    · split
      · exact ⟨_, .reachHome _⟩
      · exact ⟨_, (RunOnly.reachHome (setSwitches _ s)).thenCompletion⟩
      · split
        · exact ⟨_, (RunOnly.arriveHome _).thenCompletion⟩
        · exact ⟨_, .takeFault _ _⟩
      · exact ⟨_, .refl _⟩
  | farLimit =>
    unfold farLimitCloses
    dsimp only
    split
    · exact stood _ (.refl s)
    · split
      · exact ⟨_, .takeFault _ _⟩
      · exact ⟨_, .refl _⟩
  | reelTop closed =>
    unfold reelTopChanges
    dsimp only
    split
    · exact stood _ (.refl s)
    · split
      · split
        · exact ⟨_, (RunOnly.endRaise _).thenCompletion⟩
        · exact ⟨_, (RunOnly.pursue _).thenCompletion⟩
      · exact ⟨_, (RunOnly.pursue _).thenCompletion⟩
  | surface =>
    unfold surfaceCloses
    dsimp only
    split
    · exact stood _ (.refl s)
    · split
      · exact ⟨_, (RunOnly.surfaceFound _ _).thenCompletion⟩
      · exact ⟨_, .refl _⟩
  | bottom closed =>
    unfold bottomChanges
    split_ifs
    · exact stood _ (.refl s)
    · unfold bottomCloses
      dsimp only
      split
      · exact ⟨_, (RunOnly.surfaceFound _ _).thenCompletion⟩
      · exact ⟨_, .enterHold _⟩
      · exact ⟨_, .enterAtPoint _ _⟩
      · exact ⟨_, .refl _⟩
    · unfold bottomOpens
      dsimp only
      split
      · exact ⟨_, (RunOnly.attemptFails _).thenCompletion⟩
      · exact ⟨_, .refl _⟩
  | overload =>
    unfold overloadTrips
    dsimp only
    split
    · exact stood _ (.refl s)
    · split
      · exact ⟨_, .refl _⟩
      · exact ⟨_, .refl _⟩
      · exact ⟨_, .takeFault _ _⟩
  | stall =>
    unfold stallExpires
    split
    · exact stood _ (.takeFault s _)
    · exact stood _ (.refl s)
  | holdTimer =>
    unfold holdTimerExpires
    split
    · exact stood _ (RunOnly.thenCompletion (p := sounded s) (.setCable s _))
    · exact stood _ (.refl s)
  | settle =>
    unfold settleExpires
    split
    · exact stood _ (RunOnly.thenCompletion (p := pointReady s) (.setCable s _))
    · exact stood _ (.refl s)
  | meter =>
    unfold meterCloses
    split
    · exact stood _ (RunOnly.contactTaken s _).thenOrder
    · exact stood _ (.refl s)
  | lateLimit => exact stood _ (RunOnly.lateLimitEnds s).thenOrder
  | startWait => exact stood _ (RunOnly.startWaitEnds s).thenOrder
  | switchAlone f top => exact ⟨_, .refl _⟩
  | configured held => exact ⟨_, .refl _⟩
  | homing => exact ⟨_, .pursue _⟩
  | started => exact stood _ (.beginRun s)
  | skipped => exact stood _ (.skipVertical s)
  | aborted reason => exact stood _ (.abortRun s reason)

/-! ## The greatest level of the rules that hold (R89) -/

@[simp] theorem mapTable_getElem {α β : Type} {n : Nat} (f : α → β) (v : Vector α n) (i : Nat) (h : i < n) :
    (mapTable f v)[i] = f v[i] := mapTable_get f v ⟨i, h⟩

@[simp] theorem mapPlaces_getElem {α β : Type} {n : Nat} (f : Fin n → α → β) (v : Vector α n) (i : Nat) (h : i < n) :
    (mapPlaces f v)[i] = f ⟨i, h⟩ v[i] := mapPlaces_get f v ⟨i, h⟩

/-- A running maximum over the places that count is at most `n` exactly when its start and each of their values is. -/
theorem foldl_max_le_iff {ι : Type} (holds : ι → Bool) (value : ι → Nat) (n : Nat) (l : List ι) (a : Nat) :
    l.foldl (fun m i => if holds i then max m (value i) else m) a ≤ n
      ↔ a ≤ n ∧ ∀ i ∈ l, holds i = true → value i ≤ n := by
  induction l generalizing a with
  | nil => simp
  | cons i l ih =>
    rw [List.foldl_cons, ih]
    cases hold : holds i <;> simp [hold, and_assoc]

theorem rulesLevel_le_iff (rules : Vector Rule 8) (n : Nat) :
    rulesLevel rules ≤ n ↔ ∀ i : Fin 8, ruleHolds rules[i] = true → rules[i].definition.level ≤ n := by
  unfold rulesLevel
  rw [foldl_max_le_iff (fun i : Fin 8 => ruleHolds rules[i]) fun i => rules[i].definition.level]
  exact ⟨fun h i => h.2 i (mem_places i), fun h => ⟨Nat.zero_le _, fun i _ => h i⟩⟩

theorem rulesLevel_eq_zero (rules : Vector Rule 8) (idle : ∀ i : Fin 8, ruleHolds rules[i] = false) :
    rulesLevel rules = 0 :=
  Nat.le_zero.mp ((rulesLevel_le_iff rules 0).mpr fun i hold => absurd hold (by rw [idle i]; decide))

/-! ## The level (R89), the ring (R71) and the queue at every command -/

/-- R104: every rule that a cold reset starts is IDLE. -/
theorem startBlocks_level (cause : ResetCause) (s : State) (cold : isCold cause = true) :
    (startBlocks cause s).LevelHeld := by
  have idle : ∀ i : Fin 8, ruleHolds (startBlocks cause s).warning.rules[i] = false := by
    intro i
    simp [startBlocks, startWarning, startRules, cold, startedRule, ruleHolds]
  unfold State.LevelHeld computedLevel
  rw [rulesLevel_eq_zero _ idle]
  simp [startBlocks, startWarning, cold]

/-- R89 rests on the warning unit alone, and computing the level holds it. -/
theorem kept_levelHeld : Kept State.LevelHeld where
  time _ h := h
  field _ h := h
  channels _ h := h
  gauging _ h := h
  notices _ h := h
  link _ h := h
  supervisor _ h := h
  freeCount _ h := h
  warning _ h level floor rules := levelHeld_of_same h level floor rules
  stage _ h _ _ := h
  joined _ _ h := h
  carriage step h := by
    obtain ⟨c, run⟩ := step.reach
    exact levelHeld_ofWarning h run.warning
  levelled keeps _ _ before forced _ := recompute_held _ keeps before forced _
  restarted cause s _ := by
    unfold resetLevel
    split
    case isTrue cold => exact startBlocks_level cause s cold
    case isFalse => exact recompute_held _ askEvent_held _ _ _

/-- R71 rests on the ring and the next sequence number, which change where a record joins the ring and at a cold reset. -/
theorem leaves_ringHeld : Leaves State.RingHeld where
  time _ h := h
  field _ h := h
  channels _ h := h
  gauging _ h := h
  notices _ h := h
  link _ h := h
  supervisor _ h := h
  freeCount _ h := h
  warning _ h _ _ _ := h
  stage _ h ring next := by
    unfold State.RingHeld at *
    rw [State.setStage_stage, ring, next]
    exact h
  joined kind opened h := joinRing_held kind _ h opened
  carriage step h := by
    obtain ⟨c, run⟩ := step.reach
    unfold State.RingHeld at *
    rw [run.stage]
    exact h

/-- R71, R81: a cold reset empties the ring, a warm one leaves it. -/
theorem startBlocks_ring (cause : ResetCause) {s : State} (h : s.RingHeld) : (startBlocks cause s).RingHeld := by
  cases cold : isCold cause
  · simpa [State.RingHeld, startBlocks, startStage, cold] using h
  · simp [State.RingHeld, startBlocks, startStage, cold, nextAfter]

theorem kept_ringHeld : Kept State.RingHeld :=
  (leaves_ringHeld.levelKept fun _ h => h).kept fun cause _ h => startBlocks_ring cause h

/-- The queue is no component that a command's meaning touches. -/
theorem kept_pending (queue : List Instr) : Kept fun s => s.pending = queue :=
  Leaves.levelKept
      { time := fun _ h => h, field := fun _ h => h, channels := fun _ h => h, gauging := fun _ h => h
        notices := fun _ h => h, link := fun _ h => h, supervisor := fun _ h => h, freeCount := fun _ h => h
        warning := fun _ h _ _ _ => h, stage := fun _ h _ _ => h, joined := fun _ _ h => h
        carriage := fun step h => by obtain ⟨c, run⟩ := step.reach; exact run.pending.trans h }
      (fun _ h => h)
    |>.kept fun _ _ h => h

/-- Settles O58: R89 is kept by every command, by the walk over the commands. -/
theorem levelAlwaysHeld : Obligations.LevelAlwaysHeld := by
  unfold Obligations.LevelAlwaysHeld
  exact fun _ _ held next => kept_levelHeld.step (fun _ h => h) held next

/-- Settles O59: R71 is kept by every command, by the walk over the commands. -/
theorem ringAlwaysHeld : Obligations.RingAlwaysHeld := by
  unfold Obligations.RingAlwaysHeld
  exact fun _ _ held next => kept_ringHeld.step (fun _ h => h) held next

/-- Settles O2: the queue by the walk over the commands, the idle step by its definition. -/
theorem queueStandsAndIdleStep : Obligations.QueueStandsAndIdleStep := by
  unfold Obligations.QueueStandsAndIdleStep
  refine ⟨fun c s => (kept_pending s.pending).exec rfl c, fun s empty => ⟨fun none => ?tick, fun c rest first => ?due⟩⟩
  case tick => simp only [step, empty, idle, none]
  case due => simp only [step, empty, idle, first]

/-- Settles O1: the step looks at the queue's front and leaves the rest. -/
theorem stepTakesTheFrontCommand : Obligations.StepTakesTheFrontCommand := by
  unfold Obligations.StepTakesTheFrontCommand
  exact fun _ _ => rfl

/-- Settles O3: the first cold reset computed, and the four invariants at the machine it leaves. -/
theorem resetState : Obligations.ResetState := by
  unfold Obligations.ResetState
  refine ⟨rfl, ?level, ?ring, ?drive, ?beacons⟩
  case level => unfold State.LevelHeld; decide
  case ring => exact ⟨by decide, by simp [State.reset, resetStage], trivial⟩
  case drive => unfold State.DriveHeld; decide
  case beacons => unfold State.BeaconsHeld; decide

end Sys2Proof.Machine

namespace Sys2Proof.Machine

/-! ## The drive (R109): what an order to it sets and leaves -/

@[simp] theorem setDrive_drive (d : Option Drive) (s : State) : (setDrive d s).cable.drive = d := by
  unfold setDrive
  split
  case isTrue same => exact same
  case isFalse => rfl

@[simp] theorem setDrive_motion (d : Option Drive) (s : State) : (setDrive d s).cable.motion = s.cable.motion := by
  unfold setDrive; split <;> rfl

@[simp] theorem setDrive_switches (d : Option Drive) (s : State) :
    (setDrive d s).cable.switches = s.cable.switches := (RunOnly.setDrive s d).switches

/-- R119: a fault changes the carriage as its first three steps say. -/
@[simp] theorem takeFault_cable (c : FaultCause) (s : State) : (takeFault c s).cable = (enterFaulted c s).cable := by
  simp [takeFault]

/-! ## What the sequencer takes leaves the carriage -/

@[simp] theorem placeNext_cable (s : State) : (placeNext s).1.cable = s.cable := by
  unfold placeNext; dsimp only; split <;> rfl
@[simp] theorem judgeDepth_cable (s : State) : (judgeDepth s).1.cable = s.cable := by
  unfold judgeDepth
  split
  · rfl
  · exact placeNext_cable _
@[simp] theorem goOn_cable (s : State) : (goOn s).1.cable = s.cable := by
  unfold goOn; dsimp only; split <;> rfl
@[simp] theorem takeArrived_cable (p : Int) (s : State) : (takeArrived p s).1.cable = s.cable := by
  unfold takeArrived
  dsimp only
  split
  · simp [setVertical, State.setRun]
  · split
    · simp [setVertical, State.setRun]
    · rfl
@[simp] theorem completeRun_cable (o : ReturnOutcome) (s : State) : (completeRun o s).cable = s.cable := by
  simp [completeRun, raiseRunEnd, State.setRun]
@[simp] theorem endAbortedReturn_cable (o : ReturnOutcome) (s : State) : (endAbortedReturn o s).cable = s.cable := by
  simp [endAbortedReturn, raiseRunEnd, State.setRun]
@[simp] theorem endExposure_cable (r : PointRecord) (s : State) : (endExposure r s).1.cable = s.cable :=
  placeNext_cable _

/-- R112: a completion moves the carriage only by the order that follows it. -/
@[simp] theorem sequencerTakes_cable (c : Completion) (s : State) : (sequencerTakes c s).1.cable = s.cable := by
  unfold sequencerTakes
  split
  · exact takeArrived_cable _ _
  · exact judgeDepth_cable _
  · exact judgeDepth_cable _
  · rfl
  · rfl
  · rw [goOn_cable, storeVertical_cable]
  · exact completeRun_cable _ _
  · split
    · exact endAbortedReturn_cable _ _
    · rfl
  · rfl

@[simp] theorem contactTaken_cable (e : Exposure) (s : State) : (contactTaken e s).1.cable = s.cable := by
  unfold contactTaken
  split
  · rfl
  · split
    · rfl
    · dsimp only
      split
      · exact endExposure_cable _ _
      · rfl
@[simp] theorem lateLimitEnds_cable (s : State) : (lateLimitEnds s).1.cable = s.cable := by
  unfold lateLimitEnds
  split
  · split_ifs
    · exact endExposure_cable _ _
    · exact endExposure_cable _ _
    · rfl
  · rfl
@[simp] theorem startWaitEnds_cable (s : State) : (startWaitEnds s).1.cable = s.cable := by
  unfold startWaitEnds
  split
  · exact endExposure_cable _ _
  · rfl

/-! ## R109 at every event of the carriage -/

namespace State.DriveHeld

variable {s t : State}

/-- With no traverse output driven there is nothing to hold. -/
theorem ofStill (still : drivesTraverse t.cable.drive = false) : t.DriveHeld := fun driven =>
  absurd driven (by rw [still]; decide)

theorem ofCable (h : s.DriveHeld) (c : t.cable = s.cable) : t.DriveHeld := by
  unfold State.DriveHeld; rw [c]; exact h

/-- R109: outside the traverse motions no traverse output is driven. -/
theorem still (h : s.DriveHeld) (motion : traverseMotion s.cable.motion = false) :
    drivesTraverse s.cable.drive = false := by
  cases driven : drivesTraverse s.cable.drive
  · rfl
  · exact absurd (h driven).1 (by rw [motion]; decide)

theorem setDrive (d : Option Drive) (s : State) (still : drivesTraverse d = false) : (setDrive d s).DriveHeld :=
  ofStill (by rw [setDrive_drive, still])

/-- R109: an output may be driven in a traverse motion with REEL_TOP closed. -/
theorem setDrive_traverse (d : Option Drive) (motion : traverseMotion s.cable.motion = true)
    (top : s.cable.switches.reelTop = true) : (Machine.setDrive d s).DriveHeld := fun _ => by
  rw [setDrive_motion, setDrive_switches]
  exact ⟨motion, top⟩

theorem takeFault (c : FaultCause) (s : State) : (takeFault c s).DriveHeld :=
  ofStill (by rw [takeFault_cable]; rfl)

theorem reachHome (s : State) : (reachHome s).DriveHeld := ofStill (by simp [Machine.reachHome, drivesTraverse])

theorem arrive (s : State) : (arrive s).1.DriveHeld := ofStill (by simp [Machine.arrive, drivesTraverse])

theorem driveToTarget (n : Nat) (motion : traverseMotion s.cable.motion = true)
    (top : s.cable.switches.reelTop = true) : (driveToTarget n s).1.DriveHeld := by
  unfold Machine.driveToTarget
  split_ifs
  · exact arrive s
  · exact arrive _
  · exact takeFault _ _
  · exact setDrive_traverse _ motion top
  · exact takeFault _ _
  · exact setDrive_traverse _ motion top

/-- R109: the reel first while REEL_TOP is open, so a traverse output only with it closed. -/
theorem pursue_traverse (motion : traverseMotion s.cable.motion = true) : (pursue s).1.DriveHeld := by
  unfold Machine.pursue
  split
  · split_ifs with opened home
    · exact setDrive _ s rfl
    · exact reachHome s
    · exact setDrive_traverse _ motion (by simpa using opened)
  · split_ifs with opened home
    · exact setDrive _ s rfl
    · exact reachHome s
    · exact setDrive_traverse _ motion (by simpa using opened)
  · split_ifs with opened
    · exact setDrive _ s rfl
    · exact driveToTarget _ motion (by simpa using opened)
  · cases at_rest : s.cable.motion <;> simp_all [traverseMotion]

theorem pursue_still (motion : traverseMotion s.cable.motion = false) : (pursue s).1 = s := by
  unfold Machine.pursue
  cases at_rest : s.cable.motion <;> simp_all [traverseMotion]

/-- R109: the goal pursued, in whatever motion. -/
theorem pursue (still : traverseMotion s.cable.motion = false → s.DriveHeld) : (pursue s).1.DriveHeld := by
  cases motion : traverseMotion s.cable.motion
  · rw [pursue_still motion]; exact still motion
  · exact pursue_traverse motion

/-! ### Sounding, placing, raising and retracting -/

theorem judgeDepthLimit (h : s.DriveHeld) : (judgeDepthLimit s).DriveHeld := by
  unfold Machine.judgeDepthLimit
  split
  · exact takeFault _ s
  · exact h

theorem enterHold (s : State) : (enterHold s).DriveHeld := ofStill (by simp [Machine.enterHold, drivesTraverse])

theorem enterSeek (s : State) : (enterSeek s).DriveHeld := by
  unfold Machine.enterSeek
  split
  · exact enterHold s
  · exact (setDrive _ _ rfl).judgeDepthLimit

theorem surfaceFound (m : SoundMode) (s : State) : (surfaceFound m s).1.DriveHeld := by
  cases m
  · exact enterSeek _
  · exact setDrive _ _ rfl

theorem takeSound (m : SoundMode) (s : State) : (takeSound m s).1.DriveHeld := by
  unfold Machine.takeSound
  dsimp only
  split_ifs
  · exact surfaceFound _ _
  · exact takeFault _ _
  · exact setDrive _ _ rfl

theorem attemptFails (h : s.DriveHeld) : (attemptFails s).1.DriveHeld := by
  unfold Machine.attemptFails
  dsimp only
  split_ifs
  · exact h
  · exact enterSeek _
  · exact setDrive _ _ rfl

theorem enterAtPoint (b : Bool) (s : State) : (enterAtPoint b s).DriveHeld :=
  ofStill (by simp [Machine.enterAtPoint, drivesTraverse])

theorem takeToPoint (n : Int) (s : State) : (takeToPoint n s).DriveHeld := by
  unfold Machine.takeToPoint
  dsimp only
  split
  · exact setDrive _ _ rfl
  · split_ifs
    · exact enterAtPoint _ _
    · exact enterAtPoint _ _
    · exact (setDrive _ _ rfl).judgeDepthLimit
    · exact setDrive _ _ rfl

theorem endRaise (s : State) : (endRaise s).1.DriveHeld := ofStill (by simp [Machine.endRaise, drivesTraverse])

theorem beginRaise (s : State) : (beginRaise s).1.DriveHeld := by
  unfold Machine.beginRaise
  dsimp only
  split
  · exact endRaise _
  · exact setDrive _ _ rfl

theorem beginRetract (s : State) : (beginRetract s).1.DriveHeld := pursue_traverse rfl

/-! ### Orders and completions (R112) -/

theorem cablewayTakes (h : s.DriveHeld) (o : Order) : (cablewayTakes o s).1.DriveHeld := by
  have travelled : ∀ n, (if withinTolerance s.cable n then Machine.arrive s
      else Machine.pursue (setMotion (.travelling n) s)).1.DriveHeld := by
    intro n
    split
    · exact arrive s
    · exact pursue_traverse rfl
  have placed : ∀ (p : Prop) [Decidable p] n,
      (if p then (Machine.takeToPoint n s, (none : Option Completion)) else (s, none)).1.DriveHeld := by
    intro p _ n
    split
    · exact takeToPoint n s
    · exact h
  unfold Machine.cablewayTakes
  split
  · exact travelled _
  · exact travelled _
  · exact takeSound _ s
  · exact placed _ _
  · exact placed _ _
  · exact takeToPoint _ s
  · exact beginRaise s
  · exact beginRaise s
  · exact beginRaise s
  · exact beginRaise s
  · exact h
  · exact h
  · exact h
  · exact h
  · exact h
  · exact h
  · exact beginRetract s
  · exact h

theorem settleOrders (n : Nat) (c : Option Completion) (h : s.DriveHeld) : (settleOrders n c s).DriveHeld := by
  induction n generalizing c s with
  | zero => exact h
  | succ n ih =>
    cases c with
    | none => exact h
    | some c =>
      have taken : (sequencerTakes c s).1.DriveHeld := h.ofCable (sequencerTakes_cable c s)
      unfold Machine.settleOrders
      split
      · rename_i s' e; rw [e] at taken; exact taken
      · rename_i s' o e; rw [e] at taken; exact ih _ (taken.cablewayTakes o)

theorem handCompletion {p : State × Option Completion} (h : p.1.DriveHeld) : (handCompletion p).DriveHeld :=
  h.settleOrders _ _

theorem handOrder {p : State × Option Order} (h : p.1.DriveHeld) : (handOrder p).DriveHeld := by
  unfold Machine.handOrder
  split
  · exact h
  · exact (h.cablewayTakes _).handCompletion

/-! ### Every event of the carriage -/

/-- A change of the carriage that leaves the drive, the motion and REEL_TOP. -/
theorem ofSame (h : s.DriveHeld) (drive : t.cable.drive = s.cable.drive) (motion : t.cable.motion = s.cable.motion)
    (top : t.cable.switches.reelTop = s.cable.switches.reelTop) : t.DriveHeld := by
  unfold State.DriveHeld; rw [drive, motion, top]; exact h

theorem restartStall (h : s.DriveHeld) (driven : Bool) : (restartStall driven s).DriveHeld := by
  unfold Machine.restartStall; split <;> exact h

theorem traverseMoves (h : s.DriveHeld) (outward : Bool) : (traverseMoves outward s).DriveHeld := by
  have counted : (s.setCable (countTraverse outward s.cable)).DriveHeld := by
    unfold countTraverse; split <;> exact h
  refine handCompletion ?_
  unfold traverseJudged
  split
  · split
    · exact arrive _
    · exact counted.restartStall _
  · exact counted.restartStall _

theorem reelMoves (h : s.DriveHeld) (down : Bool) : (reelMoves down s).DriveHeld := by
  have counted : (s.setCable (countReel down s.cable)).DriveHeld := by
    unfold countReel
    split
    · exact h
    · split <;> exact h
  have restarted := counted.restartStall (drivesReel s.cable.drive)
  unfold Machine.reelMoves reelJudged
  split
  · split
    · exact takeFault _ _
    · exact restarted
  · exact restarted.judgeDepthLimit
  · split
    · exact enterSeek _
    · exact restarted
  · split
    · exact enterAtPoint _ _
    · exact restarted.judgeDepthLimit
  · exact restarted

theorem setSwitches (h : s.DriveHeld) (f : Switches → Switches) (top : ∀ x, (f x).reelTop = x.reelTop) :
    (setSwitches f s).DriveHeld := h.ofSame rfl rfl (top _)

theorem homeLimitCloses (h : s.DriveHeld) : (homeLimitCloses s).DriveHeld := by
  unfold Machine.homeLimitCloses
  dsimp only
  split
  · exact h
  · split
    · exact reachHome _
    · exact handCompletion (reachHome _)
    · split
      · exact handCompletion (arrive _)
      · exact takeFault _ _
    · exact h.setSwitches _ fun _ => rfl

theorem farLimitCloses (h : s.DriveHeld) : (farLimitCloses s).DriveHeld := by
  unfold Machine.farLimitCloses
  dsimp only
  split
  · exact h
  · split
    · exact takeFault _ _
    · exact h.setSwitches _ fun _ => rfl

theorem reelTopChanges (h : s.DriveHeld) (closed : Bool) : (reelTopChanges closed s).DriveHeld := by
  unfold Machine.reelTopChanges
  dsimp only
  split_ifs
  · exact h
  · split
    · exact handCompletion (endRaise _)
    · exact handCompletion (pursue fun motion => ofStill (h.still motion))
  · exact handCompletion (pursue fun motion => ofStill (h.still motion))

theorem surfaceCloses (h : s.DriveHeld) : (surfaceCloses s).DriveHeld := by
  unfold Machine.surfaceCloses
  dsimp only
  split
  · exact h
  · split
    · exact handCompletion (surfaceFound _ _)
    · exact h.setSwitches _ fun _ => rfl

theorem bottomChanges (h : s.DriveHeld) (closed : Bool) : (bottomChanges closed s).DriveHeld := by
  unfold Machine.bottomChanges
  split_ifs
  · exact h
  · unfold bottomCloses
    dsimp only
    split
    · exact handCompletion (surfaceFound _ _)
    · exact enterHold _
    · exact enterAtPoint _ _
    · exact h.setSwitches _ fun _ => rfl
  · have opened := h.setSwitches (fun x => { x with bottom := false }) fun _ => rfl
    unfold bottomOpens
    dsimp only
    split
    · exact opened.attemptFails.handCompletion
    · exact opened

theorem overloadTrips (h : s.DriveHeld) : (overloadTrips s).DriveHeld := by
  unfold Machine.overloadTrips
  have tripped := h.setSwitches (fun x => { x with overload := true }) fun _ => rfl
  dsimp only
  split
  · exact h
  · split
    · exact tripped
    · exact tripped
    · exact takeFault _ _

/-- R107: a changed scale takes PARKED to UNREFERENCED, and leaves every other motion. -/
theorem configured (h : s.DriveHeld) (held : CarriageSettings) :
    (s.setCable (carriageSetTo held s.cable)).DriveHeld := by
  intro driven
  obtain ⟨motion, top⟩ := h driven
  refine ⟨?_, top⟩
  have parked : s.cable.motion ≠ .parked := by intro e; rw [e] at motion; cases motion
  simpa [carriageSetTo, parked] using motion

theorem abandonExposure (h : s.DriveHeld) : (abandonExposure s).DriveHeld := h.ofCable (abandonExposure_cable s)

theorem abortRun (h : s.DriveHeld) (r : AbortReason) : (abortRun r s).DriveHeld :=
  handOrder (p := ((abortCore r s).setRun _, some .retract)) (h.ofCable (abortCore_cable r s))

/-- R109: whatever happens at the carriage. -/
theorem carriageStep (h : s.DriveHeld) (step : CarriageStep s t) : t.DriveHeld := by
  cases step with
  | traverse outward => exact h.traverseMoves outward
  | reel down => exact h.reelMoves down
  | homeLimit => exact h.homeLimitCloses
  | farLimit => exact h.farLimitCloses
  | reelTop closed => exact h.reelTopChanges closed
  | surface => exact h.surfaceCloses
  | bottom closed => exact h.bottomChanges closed
  | overload => exact h.overloadTrips
  | stall =>
    unfold stallExpires
    split
    · exact takeFault _ s
    · exact h
  | holdTimer =>
    unfold holdTimerExpires
    split
    · exact handCompletion (p := sounded s) h
    · exact h
  | settle =>
    unfold settleExpires
    split
    · exact handCompletion (p := pointReady s) h
    · exact h
  | meter =>
    unfold meterCloses
    split
    · exact handOrder (h.ofCable (contactTaken_cable _ s))
    · exact h
  | lateLimit => exact handOrder (h.ofCable (lateLimitEnds_cable s))
  | startWait => exact handOrder (h.ofCable (startWaitEnds_cable s))
  | switchAlone f top => exact h.setSwitches f top
  | configured held => exact h.configured held
  | homing => exact pursue_traverse rfl
  | started => exact handOrder (p := (s.setRun (startedRun s), some (.travel (planEntry s 1).distance))) h
  | skipped =>
    unfold skipVertical
    split
    · exact h
    · exact handOrder (p := markSkipped .byRequest (Machine.abandonExposure s)) h.abandonExposure
  | aborted reason => exact h.abortRun reason

end State.DriveHeld

theorem kept_driveHeld : Kept State.DriveHeld :=
  Leaves.levelKept
      { time := fun _ h => h, field := fun _ h => h, channels := fun _ h => h, gauging := fun _ h => h
        notices := fun _ h => h, link := fun _ h => h, supervisor := fun _ h => h, freeCount := fun _ h => h
        warning := fun _ h _ _ _ => h, stage := fun _ h _ _ => h, joined := fun _ _ h => h
        carriage := fun step h => h.carriageStep step }
      (fun _ h => h)
    |>.kept fun _ _ _ => .ofStill rfl

/-- Settles O60: R109 is kept by every command, by the walk over the commands. -/
theorem driveAlwaysHeld : Obligations.DriveAlwaysHeld := by
  unfold Obligations.DriveAlwaysHeld
  exact fun _ _ held next => kept_driveHeld.step (fun _ h => h) held next

end Sys2Proof.Machine

namespace Sys2Proof.Machine

/-! ## Requests that read (R12, R80, R103, R122, R143, R165, R168) -/

@[simp] theorem takenAt_timeQuality (f : HostFrame) (s : State) : (takenAt f s).timeQuality = s.timeQuality := by
  unfold State.timeQuality
  rw [takenAt_time]

/-- A request whose owner changes nothing changes no block; the warning unit is as the frame's arrival left it. -/
theorem read_request (tag : Byte) (q : Request) (s : State) (h : s.Calm) (p : List Field)
    (reads : answer q (takenAt (requestFrame tag q) s) = (takenAt (requestFrame tag q) s, .reply p)) :
    ∃ t, exec (requestCommand tag q) s = .next t ∧ s.Keeps t ∧ t.Answered (requestKind q) tag p := by
  obtain ⟨t, next, placed, answered⟩ := answered_request tag q s _ h p reads (by simp [requestFrame])
  exact ⟨t, next, placed ▸ keeps_placeReply _ _ _ (keeps_takenAt _ _), answered⟩

/-- The same where the reply shows the warning unit, whose monitor the frame has restarted (R98). -/
theorem read_request_warning (tag : Byte) (q : Request) (s : State) (h : s.Calm) (p : WarningUnit → List Field)
    (reads : answer q (takenAt (requestFrame tag q) s)
      = (takenAt (requestFrame tag q) s, .reply (p (takenAt (requestFrame tag q) s).warning))) :
    ∃ t, exec (requestCommand tag q) s = .next t ∧ s.Keeps t ∧ ∃ w, w = t.warning
      ∧ t.Answered (requestKind q) tag (p w) := by
  obtain ⟨t, next, placed, answered⟩ := answered_request tag q s _ h _ reads (by simp [requestFrame])
  refine ⟨t, next, placed ▸ keeps_placeReply _ _ _ (keeps_takenAt _ _), _, rfl, ?_⟩
  rw [placed, placeReply_warning, ← placed]
  exact answered

/-! ### The shape of replies: an optional part, its presence octet written out -/

theorem sirenCode_expiry (x : Siren) (rest : List Field) :
    .code (sirenCode x) :: (optTime (sirenExpiry x) ++ rest) = (match x with
      | .off => [.code 0, .absent]
      | .sounding e => [.code 1, .present, .num 6 e]
      | .repeatWait e => [.code 2, .present, .num 6 e] : List Field) ++ rest := by
  cases x <;> rfl

theorem monitorCode_expiry (x : Monitor) (rest : List Field) :
    .code (monitorCode x) :: (optTime (monitorExpiry x) ++ rest) = (match x with
      | .off => [.code 0, .absent]
      | .running e => [.code 1, .present, .num 6 e]
      | .suspended => [.code 2, .absent]
      | .stopped => [.code 3, .absent] : List Field) ++ rest := by
  cases x <;> rfl

theorem optNum_timerRemaining (n now : Nat) (x : RuleTimer) : optNum n (timerRemaining now x) = (match x with
    | .none => [.absent]
    | .running e => [.present, .num n (e - now : Nat)]
    | .paused m => [.present, .num n m] : List Field) := by
  cases x <;> rfl

theorem outputFields_eq (d : Option Drive) : outputFields d = (match d with
    | none => [.count 0]
    | some x => [.count 1, .code (driveCode x)] : List Field) := by
  cases d <;> rfl

theorem runningTimer_eq (c : Cableway) :
    optFields (runningTimer c) (fun p => [.code p.1, .num 6 p.2]) = (match c.stall, c.hold, c.settle with
      | some e, _, _ => [.present, .code 0, .num 6 e]
      | none, some e, _ => [.present, .code 1, .num 6 e]
      | none, none, some e => [.present, .code 2, .num 6 e]
      | none, none, none => [.absent] : List Field) := by
  unfold runningTimer
  cases c.stall <;> cases c.hold <;> cases c.settle <;> rfl

theorem pointShown_eq (r : Run) :
    pointShown r = if r.phase = some .place ∨ r.phase = some .expose then r.vertical.point else none := by
  unfold pointShown
  rcases r.phase with _ | p
  · rfl
  · cases p <;> simp

theorem lastChangeFields_eq (x : Option LevelChange) :
    optFields x (fun c => .num 1 c.oldLevel :: .num 1 c.newLevel :: (levelCauseFields c.cause ++ [.num 6 c.runTime]))
      = (match x with
        | none => [.absent]
        | some c => [.present, .num 1 c.oldLevel, .num 1 c.newLevel]
          ++ (match c.cause with
            | .rule i => [.code 0, .num 1 (i.val + 1)]
            | .floor => [.code 1])
          ++ [.num 6 c.runTime] : List Field) := by
  rcases x with _ | c
  · rfl
  · obtain ⟨old, new, cause, at_⟩ := c
    cases cause <;> rfl

theorem spellFields_eq (x : Option Spell) :
    optFields x linkContent = (match x with
      | none => [.absent]
      | some p => [.present, .num 6 p.enteredRunTime] ++ optTime p.enteredStation
        ++ [.num 6 (p.leftRunTime.getD 0)] ++ optTime p.leftStation
        ++ [.num 1 p.highest, .num 1 (p.atDeparture.getD 0), .num 1 p.sirenStarts] : List Field) := by
  cases x <;> rfl

theorem outcomeField_eta : outcomeField = fun o => .code (returnCode o) := rfl

theorem exposureFields_eta : exposureFields = fun e => [.code (exposureCode e.state), .num 3 e.length] ++ optTime e.start
    ++ [.num 4 e.contacts] ++ optTime e.lastCounted ++ optTime e.expiry := rfl

theorem momentFields_eta : momentFields = fun m => [.num 6 m.runTime] ++ optTime m.stationTime ++ optInt 3 m.stage
    ++ [.code (qualityCode m.quality)] := rfl

/-- Settles O12: each reading owner's reply, written out. -/
theorem plainReads : Obligations.PlainReads := by
  unfold Obligations.PlainReads
  intro s tag calm
  refine ⟨?time, ?identify, ?cause, ?stage, ?warning, ?carriage, ?run⟩
  case time => exact read_request tag .timeRead s calm _ (by simp [answer, takeTimeRead, timeField])
  case identify =>
    exact read_request tag .identify s calm _
      (by simp [answer, takeIdentify, timeField, storeCode, Config.revision, Config.hostPayload, Config.ringSize,
        Config.planSize])
  case cause =>
    exact read_request tag .causeRead s calm _ (by simp [answer, takeCauseRead, timeField, storeCode, resetKindCode])
  case stage =>
    simp only [exists_eq_left]
    exact read_request tag .stageRead s calm _ (by
      simp [answer, takeStageRead, stageReadReply, stageSettingFields, firstWaiting, timeField, ranksOf]
      split <;> simp [optTime, optField, timeField])
  case carriage =>
    simp only [exists_eq_left]
    exact read_request tag .carriageRead s calm _ (by
      simp [answer, takeCarriageRead, carriageReadReply, motionFields, outputFields_eq, runningTimer_eq, faultFields,
        timeField, positionMm, payoutMm, depthMm, reelDepth, motionTarget, Function.comp_def] <;> rfl)
  case run =>
    simp only [exists_and_left, exists_eq_left]
    exact read_request tag .runRead s calm _ (by
      have counted := List.length_filter_le (fun v : VerticalResult => v.skip.isNone) s.run.verticals
      simp [answer, takeRunRead, runReadReply, runActive, countedVerticals, outcomeField_eta,
        exposureFields_eta, pointShown_eq, momentFields_eta, Int.ofNat_sub counted])
  case warning =>
    simp only [exists_eq_left]
    refine (read_request_warning tag .warningRead s calm
      (fun w => warningReadReply (s.setWarning w)) (by simp [answer, takeWarningRead, warningReadReply])).imp ?_
    rintro t ⟨next, keeps, w, rfl, answered⟩
    refine ⟨next, keeps, ?_⟩
    simp [warningReadReply, warningSettingFields, timeField, lastChangeFields_eq, spellFields_eq, sirenCode_expiry,
      monitorCode_expiry, optNum_timerRemaining] at answered
    simp only [List.append_assoc, List.cons_append, List.nil_append, Fin.getElem_fin]
    exact answered

end Sys2Proof.Machine

namespace Sys2Proof.Machine

/-! ## The reads of one entry (R26, R63, R84, R126, R144, R162) -/

@[simp] theorem takenAt_rules (f : HostFrame) (s : State) : (takenAt f s).warning.rules = s.warning.rules := by
  rw [takenAt_warning]
  split <;> rfl

theorem transactionFields_eq (x : Option Transaction) : optFields x flightFields = (match (x.map (·.kind) : Option TxKind) with
    | none => [.absent]
    | some (.poll j) => [.present, .code 0, .num 1 (j.val + 1)]
    | some .management => [.present, .code 1]
    | some (.warn _) => [.present, .code 2] : List Field) := by
  rcases x with _ | t
  · rfl
  · obtain ⟨kind, attempts, bits, single, frame⟩ := t
    cases kind <;> rfl

theorem filteredValue_eq (c : Channel) :
    filteredValue c = if c.state = .valid then middleValue c.window else none := by
  unfold filteredValue
  cases c.state <;> rfl

theorem lastChannelChange_eq (x : Option ChannelChange) :
    optField x (fun x => .code (channelCauseCode x.cause)) ++ optTime (x.map (·.runTime)) = (match x with
      | none => [.absent, .absent]
      | some x => [.present, .code (channelCauseCode x.cause), .present, .num 6 x.runTime] : List Field) := by
  cases x <;> rfl

theorem ruleTimer_eq (r : Rule) (now : Nat) (rest : List Field) :
    .code (timerCode r) :: (optNum 4 (timerRemaining now r.timer) ++ (optTime (timerExpiry r.timer) ++ rest))
      = (match r.timer with
        | .none => [.code 2, .absent, .absent]
        | .running e => [.code (if r.state = .clearing then 1 else 0), .present, .num 4 (e - now : Nat),
            .present, .num 6 e]
        | .paused m => [.code (if r.state = .clearing then 1 else 0), .present, .num 4 m, .absent]
          : List Field) ++ rest := by
  obtain ⟨definition, state, blind, timer⟩ := r
  cases timer <;> cases state <;> rfl

theorem managementCode_eq (m : Option Management) : managementCode m = (match m with
    | none => 0
    | some m => if m.inFlight = true then 2 else 1) := rfl

theorem numberOf_eta (n : Nat) : (numberOf : Fin n → Nat) = fun i => i.val + 1 := rfl

theorem entryFields_eta : entryFields = fun e => [.num 3 e.distance, .code (methodCode e.method)] ++ optNum 2 e.depth
    ++ optNum 2 e.coefficient ++ optNum 1 e.exposure := rfl

theorem lastReadingFields_eta : lastReadingFields = fun r => [.num 4 r.value, .code (if r.fault = true then 1 else 0)]
    ++ optInt 3 r.corrected ++ [.num 6 r.runTime, .code (verdictCode r.verdict)] := rfl

theorem pointRecordFields_eta : pointRecordFields = fun p =>
    [.code (match p.fraction with
        | .two => 2
        | .six => 6
        | .eight => 8
        | .surface => 0), .num 4 p.meterDepth, .num 4 p.contacts] ++ optNum 4 p.time ++ optNum 4 p.rate
      ++ [.num 2 p.velocity, .bits 1 (flagMask [p.flags.clamped, p.flags.bedStop, p.flags.short,
          p.flags.stalled, p.flags.belowStart, p.flags.clampedV, p.flags.timingRC])] := rfl

/-- Settles O13: the reply of each read, written out, and its refusals. -/
theorem indexedReads : Obligations.IndexedReads := by
  unfold Obligations.IndexedReads
  intro s tag n calm
  refine ⟨?head, ?channel, ?rule, ?plan, ?result, ?noEntry, ?noChannel, ?noPlanEntry, ?noResult, ?planRange,
    ?resultRange⟩
  case head =>
    intro i at_
    simp only [exists_and_left, exists_eq_left]
    exact read_request tag (.headRead n) s calm _ (by
      simp [answer, takeHeadRead, at_, headReadReply, headConfigFields, fieldSettingFields, transactionFields_eq,
        managementCode_eq] <;> rfl)
  case channel =>
    intro i at_
    simp only [exists_and_left, exists_eq_left]
    exact read_request tag (.channelRead n) s calm _ (by
      have window (l : List Int) : (l.map fun v => [Field.num 3 v]).flatten = l.map (Field.num 3) :=
        (List.map_eq_flatMap ..).symm
      simp [answer, takeChannelRead, at_, channelReadReply, channelSettingFields, feedingEntry, fillThreshold,
        filteredValue_eq, listFields, lastReadingFields_eta, lastChannelChange_eq, numberOf, numberOf_eta,
        window] <;> rfl)
  case rule =>
    intro i at_
    simp only [exists_and_left, exists_eq_left]
    exact read_request tag (.ruleRead n) s calm _ (by
      simp [answer, takeRuleRead, at_, ruleDefFields, ruleTimer_eq, shownValue] <;> rfl)
  case plan =>
    intro most stands
    exact read_request tag (.planRead n) s calm _ (by
      simp [answer, takePlanRead, Config.planSize, Nat.not_lt.2 most, Nat.not_lt.2 stands, headerFields,
        entryFields_eta])
  case result =>
    intro v least most found
    exact read_request tag (.resultRead n) s calm _ (by
      simp [answer, takeResultRead, Config.planSize, Nat.not_lt.2 most, Nat.ne_of_gt least, found, verticalFields,
        listFields, pointRecordFields_eta, verticalFlagMask] <;> rfl)
  case noEntry =>
    intro outside
    have none_ : place n 8 = none := place_none (by omega)
    exact ⟨refused_request tag (.headRead n) s calm .range (by simp [answer, takeHeadRead, none_]),
      refused_request tag (.ruleRead n) s calm .range (by simp [answer, takeRuleRead, none_])⟩
  case noChannel =>
    intro outside
    have none_ : place n 4 = none := place_none (by omega)
    exact refused_request tag (.channelRead n) s calm .range (by simp [answer, takeChannelRead, none_])
  case noPlanEntry =>
    intro most beyond
    exact refused_request tag (.planRead n) s calm .notFound
      (by simp [answer, takePlanRead, Config.planSize, Nat.not_lt.2 most, beyond])
  case noResult =>
    intro least most absent
    have none_ : s.run.verticals.find? (fun v => v.index == n) = none :=
      List.find?_eq_none.2 fun v mem => by simpa using absent v mem
    exact refused_request tag (.resultRead n) s calm .notFound
      (by simp [answer, takeResultRead, Config.planSize, Nat.not_lt.2 most, Nat.ne_of_gt least, none_])
  case planRange =>
    intro beyond
    exact refused_request tag (.planRead n) s calm .range (by simp [answer, takePlanRead, Config.planSize, beyond])
  case resultRange =>
    intro outside
    exact refused_request tag (.resultRead n) s calm .range
      (by simp [answer, takeResultRead, Config.planSize, outside])

end Sys2Proof.Machine

namespace Sys2Proof.Machine

/-! ## Keeping, but for one block -/

namespace State.Keeps

variable {a b : State}

theorem setTime (h : a.Keeps b) (x : TimeBase) : (a.setTime x).Keeps (b.setTime x) := by
  obtain ⟨-, field, channels, stage, warning, cable, gauging, supervisor, settings, hold, held, inForce, assembling, restart, free, pending⟩ := h
  exact ⟨rfl, field, channels, stage, warning, cable, gauging, supervisor, settings, hold, held, inForce, assembling, restart, free, pending⟩

theorem setField (h : a.Keeps b) (x : FieldLine) : (a.setField x).Keeps (b.setField x) := by
  obtain ⟨time, -, channels, stage, warning, cable, gauging, supervisor, settings, hold, held, inForce, assembling, restart, free, pending⟩ := h
  exact ⟨time, rfl, channels, stage, warning, cable, gauging, supervisor, settings, hold, held, inForce, assembling, restart, free, pending⟩

theorem setChannels (h : a.Keeps b) (x : Vector Channel 4) : (a.setChannels x).Keeps (b.setChannels x) := by
  obtain ⟨time, field, -, stage, warning, cable, gauging, supervisor, settings, hold, held, inForce, assembling, restart, free, pending⟩ := h
  exact ⟨time, field, rfl, stage, warning, cable, gauging, supervisor, settings, hold, held, inForce, assembling, restart, free, pending⟩

theorem setStage (h : a.Keeps b) (x : StageUnit) : (a.setStage x).Keeps (b.setStage x) := by
  obtain ⟨time, field, channels, -, warning, cable, gauging, supervisor, settings, hold, held, inForce, assembling, restart, free, pending⟩ := h
  exact ⟨time, field, channels, rfl, warning, cable, gauging, supervisor, settings, hold, held, inForce, assembling, restart, free, pending⟩

theorem setCable (h : a.Keeps b) (x : Cableway) : (a.setCable x).Keeps (b.setCable x) := by
  obtain ⟨time, field, channels, stage, warning, -, gauging, supervisor, settings, hold, held, inForce, assembling, restart, free, pending⟩ := h
  exact ⟨time, field, channels, stage, warning, rfl, gauging, supervisor, settings, hold, held, inForce, assembling, restart, free, pending⟩

theorem setGauging (h : a.Keeps b) (x : Gauging) : (a.setGauging x).Keeps (b.setGauging x) := by
  obtain ⟨time, field, channels, stage, warning, cable, -, supervisor, settings, hold, held, inForce, assembling, restart, free, pending⟩ := h
  exact ⟨time, field, channels, stage, warning, cable, rfl, supervisor, settings, hold, held, inForce, assembling, restart, free, pending⟩

theorem setSupervisor (h : a.Keeps b) (x : Supervisor) : (a.setSupervisor x).Keeps (b.setSupervisor x) := by
  obtain ⟨time, field, channels, stage, warning, cable, gauging, -, settings, hold, held, inForce, assembling, restart, free, pending⟩ := h
  exact ⟨time, field, channels, stage, warning, cable, gauging, rfl, settings, hold, held, inForce, assembling, restart, free, pending⟩

end State.Keeps

/-! ## RECORD_READ and CAPTURE_READ (R23, R78, R164) -/

@[simp] theorem payloadOctets_nil : payloadOctets [] = [] := rfl

@[simp] theorem payloadOctets_append (a b : List Field) :
    payloadOctets (a ++ b) = payloadOctets a ++ payloadOctets b := by
  simp [payloadOctets]

@[simp] theorem payloadOctets_cons (f : Field) (b : List Field) :
    payloadOctets (f :: b) = fieldOctets f ++ payloadOctets b := by
  simp [payloadOctets]

@[simp] theorem numberOctets_length (n : Nat) (v : Int) : (numberOctets n v).length = n := by
  induction n generalizing v with
  | zero => rfl
  | succ n ih => simp [numberOctets, ih]

/-- R164: what the cut of a payload keeps is a beginning of the items that fits, and the next one would not. -/
theorem itemsThatFit_spec (used : Nat) (xs : List (List Field)) :
    ∃ k ≤ xs.length, itemsThatFit used xs = xs.take k
      ∧ (used ≤ 200 → used + (payloadOctets (xs.take k).flatten).length ≤ 200)
      ∧ ∀ x, xs[k]? = some x → 200 < used + (payloadOctets (xs.take k).flatten).length + (payloadOctets x).length := by
  induction xs generalizing used with
  | nil => exact ⟨0, by simp, by simp [itemsThatFit], by simp, by simp⟩
  | cons item rest ih =>
    by_cases fits : used + (payloadOctets item).length ≤ Config.hostPayload
    · obtain ⟨k, le, eq, low, high⟩ := ih (used + (payloadOctets item).length)
      have fits200 : used + (payloadOctets item).length ≤ 200 := fits
      refine ⟨k + 1, by simpa using le, by simp [itemsThatFit, fits, eq], fun _ => ?_, fun x next => ?_⟩
      · have := low fits200
        simp only [List.take_succ_cons, List.flatten_cons, payloadOctets_append, List.length_append]
        omega
      · have := high x (by simpa using next)
        simp only [List.take_succ_cons, List.flatten_cons, payloadOctets_append, List.length_append]
        omega
    · have long : 200 < used + (payloadOctets item).length := Nat.lt_of_not_le fits
      refine ⟨0, by simp, by simp [itemsThatFit, fits], by simp, fun x next => ?_⟩
      obtain rfl : item = x := by simpa using next
      simpa using long

/-- R78: where the records asked for begin, by the distance `d` of the first of them. -/
theorem recordsFrom_eq (u : StageUnit) (start count d : Nat) (distance : sequenceDistance u.nextSequence start = d) :
    recordsFrom u start count =
      if d = 0 ∨ 2147483648 ≤ d then ([], false)
      else if d ≤ u.ring.length then ((u.ring.drop (u.ring.length - d)).take count, false)
      else (u.ring.take count, true) := by
  rw [← distance]
  unfold recordsFrom
  rfl

theorem recordsFrom_gap (u : StageUnit) (start count d : Nat) (distance : sequenceDistance u.nextSequence start = d) :
    (recordsFrom u start count).2 = true ↔ u.ring.length < d ∧ d < 2147483648 := by
  rw [recordsFrom_eq u start count d distance]
  split_ifs with outside held
  · simp; omega
  · simp; omega
  · simp; omega

theorem recordsFrom_records (u : StageUnit) (start count d : Nat)
    (distance : sequenceDistance u.nextSequence start = d) :
    (recordsFrom u start count).1
      = (if d = 0 ∨ 2147483648 ≤ d then []
        else if d ≤ u.ring.length then u.ring.drop (u.ring.length - d)
        else u.ring).take count := by
  rw [recordsFrom_eq u start count d distance]
  split_ifs
  · simp
  · rfl
  · rfl

theorem recordHead_length (u : StageUnit) (gap : Bool) (count : Nat) :
    (payloadOctets (recordHead u gap count)).length = (payloadOctets (recordHead u gap 0)).length := by
  simp [recordHead, fieldOctets]

theorem recordHead_fits (u : StageUnit) (gap : Bool) : (payloadOctets (recordHead u gap 0)).length ≤ 200 := by
  unfold recordHead optNum
  cases u.ring.head?.map (·.sequence) <;> simp [optField, fieldOctets]

theorem recordFields_eta : recordFields = fun r => [.num 4 r.sequence, .num 6 r.runTime] ++ optTime r.stationTime
    ++ optInt 3 r.stage ++ [.code (qualityCode r.quality)] ++ optInt 3 r.rate
    ++ [.num 1 r.level, .bits 1 (numberMask r.channels),
        .bits 1 (flagMask [r.flags.timingRC, r.flags.timeStepped, r.flags.event, r.flags.runActive,
          r.flags.autonomous, r.flags.warmRestart])] := rfl

theorem takeRecordRead_eq (start count : Nat) (s : State) (range : ¬ (count = 0 ∨ 8 < count))
    (p : List StageRecord × Bool) (h : recordsFrom s.stage start count = p) :
    takeRecordRead start count s
      = (s, .reply (recordHead s.stage p.2
            (itemsThatFit (payloadOctets (recordHead s.stage p.2 0)).length (p.1.map recordFields)).length
          ++ (itemsThatFit (payloadOctets (recordHead s.stage p.2 0)).length (p.1.map recordFields)).flatten)) := by
  unfold takeRecordRead
  refine (if_neg range).trans ?_
  rw [h]

/-- R78: RECORD_READ's reply: as many of the records asked for as fit behind its head. -/
theorem takeRecordRead_reply (start count : Nat) (s : State) (least : 1 ≤ count) (most : count ≤ 8)
    (p : List StageRecord × Bool) (h : recordsFrom s.stage start count = p) :
    ∃ items : List StageRecord,
      items = p.1.take items.length
      ∧ (payloadOctets (recordHead s.stage p.2 items.length ++ (items.map recordFields).flatten)).length ≤ 200
      ∧ (∀ r, p.1[items.length]? = some r →
          200 < (payloadOctets (recordHead s.stage p.2 items.length
            ++ ((items ++ [r]).map recordFields).flatten)).length)
      ∧ takeRecordRead start count s
        = (s, .reply (recordHead s.stage p.2 items.length ++ (items.map recordFields).flatten)) := by
  rw [takeRecordRead_eq start count s (by omega) p h]
  obtain ⟨k, le, eq, low, high⟩ :=
    itemsThatFit_spec (payloadOctets (recordHead s.stage p.2 0)).length (p.1.map recordFields)
  rw [List.length_map] at le
  have length_k : (p.1.take k).length = k := by simpa using le
  rw [← List.map_take] at eq low high
  refine ⟨p.1.take k, by rw [length_k], ?_, ?_, ?_⟩
  · rw [payloadOctets_append, List.length_append, recordHead_length]
    exact low (recordHead_fits _ _)
  · intro r next
    rw [length_k] at next
    have := high (recordFields r) (by simp [next])
    rw [payloadOctets_append, List.length_append, recordHead_length, List.map_append, List.flatten_append,
      payloadOctets_append, List.length_append]
    simpa [Nat.add_assoc] using this
  · simp only [eq, List.length_map, length_k]

/-- R23: what the oldest capture leaves in the queue. -/
theorem fieldLine_nothingCaptured (x : FieldLine) (queue : x.captured = []) :
    x = { x with captured := [], overflow := x.overflow } := by
  cases x
  simp_all

theorem takeCaptureRead_eq (s : State) : takeCaptureRead s =
    (s.setField { s.field with
        captured := s.field.captured.tail
        overflow := if s.field.captured.length = 1 then false else s.field.overflow },
      .reply ((match s.field.captured with
          | [] => [Field.absent]
          | c :: _ => [.present, .num 6 c.runTime, .num 1 c.frame.destination, .num 1 c.frame.source,
              .num 1 c.frame.kind, .num 1 c.frame.payload.length, .raw c.frame.payload, .code (filterCode c.result)])
          ++ [.num 1 (s.field.captured.length - 1 : Nat), .flag s.field.overflow])) := by
  unfold takeCaptureRead
  rcases queue : s.field.captured with _ | ⟨c, _ | ⟨d, rest⟩⟩
  · refine Prod.ext (congrArg s.setField (a₁ := s.field) ?_) (by simp)
    simpa using fieldLine_nothingCaptured s.field queue
  · simp [capturedFields, timeField]
  · simp [capturedFields, timeField]

/-- Settles O14: the cut of R164 over the records asked for, and the oldest capture taken. -/
theorem recordAndCaptureReading : Obligations.RecordAndCaptureReading := by
  unfold Obligations.RecordAndCaptureReading
  refine ⟨fun s tag start count calm => ⟨?read, ?range⟩, ?capture⟩
  case read =>
    intro least most
    obtain ⟨p, asked⟩ : ∃ p, recordsFrom s.stage start count = p := ⟨_, rfl⟩
    obtain ⟨items, beginning, fits, full, reply⟩ :=
      takeRecordRead_reply start count (takenAt (requestFrame tag (.recordRead start count)) s) least most p
        (by simpa using asked)
    simp only [takenAt_stage] at fits full
    obtain ⟨t, next, keeps, answered⟩ := read_request tag (.recordRead start count) s calm _ reply
    refine ⟨t, items, next, keeps, p.2, p.1, recordFields, recordFields_eta, ?_, ?_, beginning, fits, full, ?_⟩
    · rw [← asked]
      exact recordsFrom_gap s.stage start count _ rfl
    · rw [← asked]
      exact recordsFrom_records s.stage start count _ rfl
    · simpa [recordHead, requestKind] using answered
  case range =>
    intro outside
    exact refused_request tag (.recordRead start count) s calm .range (by simp [answer, takeRecordRead, outside])
  case capture =>
    intro s tag calm
    obtain ⟨t, next, placed, answered⟩ := answered_request tag .captureRead s _ calm _
      (takeCaptureRead_eq _) (by simp [requestFrame])
    refine ⟨t, next, ?_, ?_, ?_⟩
    · rw [placed]
      exact keeps_placeReply _ _ _ (by simpa using (keeps_takenAt (requestFrame tag .captureRead) s).setField _)
    · simp [placed]
    · rw [takenAt_field] at answered
      exact answered

end Sys2Proof.Machine

namespace Sys2Proof.Machine

/-! ## What a kept state says of each block -/

namespace State.Keeps

variable {a b : State}

theorem time (h : a.Keeps b) : b.time = a.time := h.1
theorem field (h : a.Keeps b) : b.field = a.field := h.2.1
theorem channels (h : a.Keeps b) : b.channels = a.channels := h.2.2.1
theorem stage (h : a.Keeps b) : b.stage = a.stage := h.2.2.2.1
theorem warning (h : a.Keeps b) : sameBut a.warning b.warning := h.2.2.2.2.1
theorem cable (h : a.Keeps b) : b.cable = a.cable := h.2.2.2.2.2.1
theorem gauging (h : a.Keeps b) : b.gauging = a.gauging := h.2.2.2.2.2.2.1
theorem supervisor (h : a.Keeps b) : b.supervisor = a.supervisor := h.2.2.2.2.2.2.2.1
theorem noticeSettings (h : a.Keeps b) : b.notices.settings = a.notices.settings := h.2.2.2.2.2.2.2.2.1
theorem hold (h : a.Keeps b) : b.notices.hold = a.notices.hold := h.2.2.2.2.2.2.2.2.2.1
theorem rateHeld (h : a.Keeps b) : b.link.rateHeld = a.link.rateHeld := h.2.2.2.2.2.2.2.2.2.2.1
theorem rateInForce (h : a.Keeps b) : b.link.rateInForce = a.link.rateInForce := h.2.2.2.2.2.2.2.2.2.2.2.1

end State.Keeps

/-- A request that its owner takes: `base` is the state at the frame's arrival with the owner's change made. -/
theorem taken_request (tag : Byte) (q : Request) (s base s' : State) (h : s.Calm) (p : List Field)
    (takes : answer q (takenAt (requestFrame tag q) s) = (s', .reply p))
    (inHand : s'.link.inHand = some { kind := requestKind q, tag := tag }) (keeps : base.Keeps s') :
    ∃ t, exec (requestCommand tag q) s = .next t ∧ base.Keeps t ∧ t.Answered (requestKind q) tag p := by
  obtain ⟨t, next, placed, answered⟩ := answered_request tag q s s' h p takes inHand
  exact ⟨t, next, placed ▸ keeps_placeReply _ _ _ keeps, answered⟩

/-! ## The time base's requests (R2, R7, R10) -/

theorem countMillisecond_runTime (t : TimeBase) (h : t.runTime + 1 ≤ Config.lastRunTime) :
    (countMillisecond t).runTime = t.runTime + 1 := countMilliseconds_runTime 1 t h

/-- The ms in progress has given what it had left, and a new block has begun after it (R3, log 49). -/
structure TickGiven (t : TimeBase) (n : Nat) (u : TimeBase) : Prop where
  runTime : u.runTime = t.runTime + n
  reference : u.reference = t.reference + 1
  source : u.source = .rc
  blockCount : u.blockCount = 0
  completing : u.completing = none
  early : u.early = 0
  correction : u.correction = t.correction

theorem leftOfTick_completing (t : TimeBase) (n : Nat) (left : t.completing = some n) : leftOfTick t = n := by
  rw [leftOfTick, left]

theorem tickTime_rc (t : TimeBase) (rc : t.source = .rc) : tickTime t = tickRc t := by rw [tickTime, rc]

theorem endTick_given (t : TimeBase) (n : Nat) (rc : t.source = .rc) (left : t.completing = some n) :
    TickGiven t 0 (endTick t) where
  runTime := rfl
  reference := rfl
  source := rc
  blockCount := by simp [endTick, left]
  completing := rfl
  early := rfl
  correction := rfl

theorem TickGiven.countMillisecond {t u : TimeBase} {n : Nat} (h : TickGiven t n u)
    (room : t.runTime + (n + 1) ≤ Config.lastRunTime) : TickGiven t (n + 1) (countMillisecond u) where
  runTime := by rw [countMillisecond_runTime u (by have := h.runTime; omega), h.runTime]; rfl
  reference := h.reference
  source := h.source
  blockCount := h.blockCount
  completing := h.completing
  early := h.early
  correction := h.correction

/-- R3, log 9: a ms under RC that is cut short with `n` ms still to give has given them after as many ticks, or after one
where it gives none. -/
theorem ticks_given (n : Nat) (t : TimeBase) (rc : t.source = .rc) (left : t.completing = some n)
    (room : t.runTime + n ≤ Config.lastRunTime) : TickGiven t n (tickTime^[max 1 n] t) := by
  induction n generalizing t with
  | zero =>
    have tick : tickTime t = endTick t := by simp [tickTime_rc t rc, tickRc, leftOfTick_completing t 0 left]
    simpa [tick] using endTick_given t 0 rc left
  | succ n ih =>
    rcases n with _ | n
    · have tick : tickTime t = Machine.countMillisecond (endTick t) := by
        simp [tickTime_rc t rc, tickRc, leftOfTick_completing t 1 left]
      simpa [tick] using (endTick_given t 1 rc left).countMillisecond room
    · have tick : tickTime t = countEarly t := by
        simp [tickTime_rc t rc, tickRc, leftOfTick_completing t _ left]
      have runTime : (countEarly t).runTime = t.runTime + 1 := by
        simp only [countEarly, left]
        exact countMillisecond_runTime _ (by simp only; omega)
      have early := ih (countEarly t) (by simp [countEarly, left, Machine.countMillisecond, rc])
        (by simp [countEarly, left, Machine.countMillisecond]) (by omega)
      have most : max 1 (n + 1 + 1) = max 1 (n + 1) + 1 := by omega
      rw [most, Function.iterate_succ_apply, tick]
      exact {
        runTime := by rw [early.runTime, runTime]; omega
        reference := by rw [early.reference]; simp [countEarly, left, Machine.countMillisecond]
        source := early.source
        blockCount := early.blockCount
        completing := early.completing
        early := early.early
        correction := by rw [early.correction]; simp [countEarly, left, Machine.countMillisecond] }

theorem clampInt_eq (low high x : Int) : clampInt low high x = max low (min high x) := rfl

/-- R2, R3: the time base that a taken TRIM_SET leaves. -/
def trimmedTime (c : Int) (t : TimeBase) : TimeBase :=
  match t.source with
  | .rc => { t with correction := c, early := 0, completing := some (leftOfTick t) }
  | .xtal => { t with correction := c }

theorem trimmedTime_rc (c : Int) {t : TimeBase} (rc : t.source = .rc) :
    trimmedTime c t = { t with correction := c, early := 0, completing := some (leftOfTick t) } := by
  simp [trimmedTime, rc]

theorem trimmedTime_xtal (c : Int) {t : TimeBase} (xtal : t.source = .xtal) :
    trimmedTime c t = { t with correction := c } := by
  simp [trimmedTime, xtal]

theorem takeTrimSet_eq (c : Int) (s : State) (idle : s.supervisor.saving = none) :
    takeTrimSet c s = (s.setTime (trimmedTime (clampInt (-2000) 2000 c) s.time),
      .reply [.num 2 (clampInt (-2000) 2000 c)]) := by
  have idle : s.saveRuns = false := by rw [State.saveRuns, idle]; rfl
  cases source : s.time.source <;> simp [takeTrimSet, trimmedTime, idle, source, leftOfTick, earnedInBlock]

theorem taken_trimSet (s : State) (tag : Byte) (c : Int) (calm : s.Calm) (idle : s.supervisor.saving = none) :
    ∃ t, exec (.trimSet tag c) s = .next t ∧ (s.setTime (trimmedTime (clampInt (-2000) 2000 c) s.time)).Keeps t
      ∧ t.Answered 0x0B tag [.num 2 (clampInt (-2000) 2000 c)] := by
  refine taken_request tag (.trimSet c) s _ _ calm _ (takeTrimSet_eq c _ (by simpa using idle)) (by simp [requestFrame]) ?_
  rw [takenAt_time]
  exact (keeps_takenAt _ _).setTime _

theorem State.Keeps.freeTaken {a b : State} (h : a.Keeps b) : a.freeTaken.Keeps b.freeTaken := by
  obtain ⟨time, field, channels, stage, warning, cable, gauging, supervisor, settings, hold, held, inForce, assembling,
    restart, free, pending⟩ := h
  exact ⟨time, field, channels, stage, warning, cable, gauging, supervisor, settings, hold, held, inForce, assembling,
    restart, congrArg (· + 1) free, pending⟩

theorem selectXtal_of_xtal {s : State} (xtal : s.time.source = .xtal) : selectXtal s = s := by
  simp [selectXtal, xtal]

theorem selectXtal_of_rc {s : State} (rc : s.time.source = .rc) :
    selectXtal s = (s.setTime
      { s.time with source := .xtal, groupCycles := 0, early := 0, edgeless := 0
                    completing := some (1 + Config.phaseLeft s.freeCount % 33) }).freeTaken := by
  simp [selectXtal, rc]

theorem selectRc_of_rc {s : State} (n : Nat) (rc : s.time.source = .rc) : selectRc n s = s := by
  simp [selectRc, rc]

theorem selectRc_zero_of_xtal {s : State} (xtal : s.time.source = .xtal) :
    selectRc 0 s = s.setTime
      { s.time with source := .rc, blockCount := 0, early := 0, edgeless := 0
                    completing := some (max 1 s.time.edgeless), recordMark := true
                    exposureSpan := s.time.exposureSpan.map fun _ => true } := by
  simp [selectRc, xtal, countMilliseconds, markSpans]

theorem timeQualityCode_xtal {s : State} (xtal : s.time.source = .xtal) :
    timeQualityCode s.timeQuality = if s.time.stationTime = none then 0 else 1 := by
  unfold State.timeQuality
  rw [xtal]
  cases s.time.stationTime <;> rfl

theorem timeQualityCode_rc {s : State} (rc : s.time.source = .rc) :
    timeQualityCode s.timeQuality = if s.time.stationTime = none then 0 else 2 := by
  unfold State.timeQuality
  rw [rc]
  cases s.time.stationTime <;> rfl

theorem takeTimeSource_zero {s : State} (running : s.time.crystal = .running) :
    takeTimeSource 0 s = (selectXtal (s.setTime { s.time with arm := false }),
      .reply (timeSourceReply (selectXtal (s.setTime { s.time with arm := false })))) := if_pos running

theorem takeTimeSource_one (s : State) :
    takeTimeSource 1 s = (selectRc 0 (s.setTime { s.time with arm := false }),
      .reply (timeSourceReply (selectRc 0 (s.setTime { s.time with arm := false })))) := rfl

/-- Settles O15: each request's owner, and the ms in progress at a change of block or source. -/
theorem timeRequests : Obligations.TimeRequests := by
  unfold Obligations.TimeRequests
  refine ⟨?timeSet, ?trimSet, ?xtal, ?beyond, ?saving, ?stopped, ?rc, ?range⟩
  case timeSet =>
    intro s tag v calm most
    obtain ⟨t, next, keeps, answered⟩ := taken_request tag (.timeSet v) s
      (s.setTime { s.time with
          stationTime := some v, lastStep := s.time.stationTime.map fun h => (v : Int) - h
          lastStepRunTime := some s.now, stepPending := true }) _ calm
      (optTime s.time.stationTime ++ [.num 6 v, .num 6 s.now])
      (by simp [answer, takeTimeSet, Nat.not_lt.2 (show v ≤ Config.lastStationTime from most), timeField]; rfl)
      (by simp [requestFrame]) ((keeps_takenAt _ _).setTime _)
    have time := keeps.time
    exact ⟨t, next, time ▸ keeps, time, answered⟩
  case trimSet =>
    intro s tag c calm idle
    obtain ⟨t, next, keeps, answered⟩ := taken_trimSet s tag c calm idle
    have time : t.time = trimmedTime (clampInt (-2000) 2000 c) s.time := keeps.time
    refine ⟨t, next, time ▸ keeps, ?_, ?_, ?_, answered, ?_, ?_⟩
    · rw [time, trimmedTime]; split <;> rfl
    · rw [time, trimmedTime]; split <;> rfl
    · rw [time, trimmedTime]; split <;> rfl
    · intro xtal
      rw [time, trimmedTime_xtal _ xtal] <;> rfl
    · rintro rc n u rfl room rfl
      have trimmed : t.time = { s.time with
          correction := clampInt (-2000) 2000 c, early := 0, completing := some (leftOfTick s.time) } := by
        rw [time, trimmedTime_rc _ rc]
      have given := ticks_given (leftOfTick s.time) t.time (by rw [trimmed]; exact rc) (by rw [trimmed])
        (by rw [trimmed]; exact room)
      exact ⟨by rw [given.runTime, trimmed], by rw [given.reference, trimmed], given.blockCount, given.completing,
        given.early, by rw [given.correction, trimmed]; rfl⟩
  case xtal =>
    intro s tag calm running
    have takes := takeTimeSource_zero (s := takenAt (requestFrame tag (.timeSource 0)) s) (by simpa using running)
    rw [takenAt_time] at takes
    have keeps := (keeps_takenAt (requestFrame tag (.timeSource 0)) s).setTime { s.time with arm := false }
    cases source : s.time.source
    case xtal =>
      rw [selectXtal_of_xtal (by simpa using source), timeSourceReply, timeQualityCode_xtal (by simpa using source)]
        at takes
      obtain ⟨t, next, keeps, answered⟩ :=
        taken_request tag (.timeSource 0) s _ _ calm _ takes (by simp [requestFrame]) keeps
      have time : t.time = { s.time with arm := false } := keeps.time
      refine ⟨t, next, ?_, ?_, ?_, ?_, ?_, ?_, by simp, fun _ => ⟨time, time ▸ keeps⟩, ?_⟩
      · rw [time]; exact source
      iterate 5 rw [time]
      simpa [source, running, sourceCode, crystalCode, requestKind] using answered
    case rc =>
      rw [selectXtal_of_rc (by simpa using source), timeSourceReply, timeQualityCode_xtal (by rfl)] at takes
      obtain ⟨t, next, keeps, answered⟩ :=
        taken_request tag (.timeSource 0) s _ _ calm _ takes (by simp [requestFrame, State.freeTaken])
          (keeps.setTime _).freeTaken
      have time := keeps.time
      refine ⟨t, next, ?_, ?_, ?_, ?_, ?_, ?_, fun _ => ⟨?_, ?_⟩, by simp, ?_⟩
      iterate 7 rw [time]; rfl
      · rw [time]; exact keeps
      · simpa [running, sourceCode, crystalCode, requestKind, State.freeTaken] using answered
  case beyond =>
    intro s tag v beyond
    exact fun calm => refused_request tag (.timeSet v) s beyond .range
      (by simp [answer, takeTimeSet, show Config.lastStationTime < v from calm])
  case saving =>
    intro s tag c calm saving
    exact refused_request tag (.trimSet c) s calm .busy
      (by simp [answer, takeTrimSet, State.saveRuns, Option.isSome_iff_ne_none.2 saving])
  case stopped =>
    intro s tag calm stopped
    exact refused_request tag (.timeSource 0) s calm .state (by simp [answer, takeTimeSource, stopped])
  case rc =>
    intro s tag calm
    have takes := takeTimeSource_one (takenAt (requestFrame tag (.timeSource 1)) s)
    rw [takenAt_time] at takes
    have keeps := (keeps_takenAt (requestFrame tag (.timeSource 1)) s).setTime { s.time with arm := false }
    cases source : s.time.source
    case rc =>
      rw [selectRc_of_rc 0 (by simpa using source), timeSourceReply, timeQualityCode_rc (by simpa using source)]
        at takes
      obtain ⟨t, next, keeps, answered⟩ :=
        taken_request tag (.timeSource 1) s _ _ calm _ takes (by simp [requestFrame]) keeps
      have time : t.time = { s.time with arm := false } := keeps.time
      refine ⟨t, next, time ▸ keeps, by rw [time]; exact source, by rw [time], by rw [time], by simp, fun _ => time, ?_⟩
      simpa [source, sourceCode, time, requestKind] using answered
    case xtal =>
      rw [selectRc_zero_of_xtal (by simpa using source), timeSourceReply, timeQualityCode_rc (by rfl)] at takes
      obtain ⟨t, next, keeps, answered⟩ :=
        taken_request tag (.timeSource 1) s _ _ calm _ takes (by simp [requestFrame]) (keeps.setTime _)
      have time := keeps.time
      simp only [State.setTime_time] at time
      refine ⟨t, next, time ▸ keeps, by rw [time], by rw [time], by rw [time], fun _ => ⟨by rw [time], by rw [time],
        by rw [time], by rw [time], by rw [time], ?_⟩, by simp, ?_⟩
      · rintro n u rfl room rfl
        have given := ticks_given (max 1 s.time.edgeless) t.time (by rw [time]) (by rw [time])
          (by rw [time]; exact room)
        rw [max_eq_right (le_max_left 1 s.time.edgeless)] at given
        exact ⟨by rw [given.runTime, time], by rw [given.reference, time], given.source, given.blockCount,
          given.completing, given.early⟩
      · rw [time]
        exact answered
  case range =>
    intro s tag n calm beyond
    obtain ⟨m, rfl⟩ : ∃ m, n = m + 2 := ⟨n - 2, by omega⟩
    exact refused_request tag (.timeSource (m + 2)) s calm .range (by simp [answer, takeTimeSource])

end Sys2Proof.Machine

namespace Sys2Proof.Machine

/-! ## Operands that are ON or OFF -/

theorem onOff_of_le {n : Nat} (h : n ≤ 1) : onOff n = some (n == 1) := by
  match n, h with
  | 0, _ => rfl
  | 1, _ => rfl

theorem onOff_of_lt {n : Nat} (h : 1 < n) : onOff n = none := by
  match n, h with
  | n + 2, _ => rfl

theorem saveRuns_of_none {s : State} (idle : s.supervisor.saving = none) : s.saveRuns = false := by
  rw [State.saveRuns, idle]; rfl

theorem saveRuns_of_ne_none {s : State} (busy : s.supervisor.saving ≠ none) : s.saveRuns = true :=
  Option.isSome_iff_ne_none.2 busy

/-! ## Requests that change one block -/

section

variable {tag : Byte} {q : Request} {s : State} {p : List Field}

theorem taken_supervisor (h : s.Calm) {x : Supervisor}
    (takes : answer q (takenAt (requestFrame tag q) s) = ((takenAt (requestFrame tag q) s).setSupervisor x, .reply p)) :
    ∃ t, exec (requestCommand tag q) s = .next t ∧ (s.setSupervisor t.supervisor).Keeps t ∧ t.supervisor = x
      ∧ t.Answered (requestKind q) tag p := by
  obtain ⟨t, next, keeps, answered⟩ := taken_request tag q s _ _ h _ takes (by simp [requestFrame])
    ((keeps_takenAt _ s).setSupervisor x)
  exact ⟨t, next, keeps.supervisor ▸ keeps, keeps.supervisor, answered⟩

theorem taken_field (h : s.Calm) {x : FieldLine}
    (takes : answer q (takenAt (requestFrame tag q) s) = ((takenAt (requestFrame tag q) s).setField x, .reply p)) :
    ∃ t, exec (requestCommand tag q) s = .next t ∧ (s.setField t.field).Keeps t ∧ t.field = x
      ∧ t.Answered (requestKind q) tag p := by
  obtain ⟨t, next, keeps, answered⟩ := taken_request tag q s _ _ h _ takes (by simp [requestFrame])
    ((keeps_takenAt _ s).setField x)
  exact ⟨t, next, keeps.field ▸ keeps, keeps.field, answered⟩

theorem taken_cable (h : s.Calm) {x : Cableway}
    (takes : answer q (takenAt (requestFrame tag q) s) = ((takenAt (requestFrame tag q) s).setCable x, .reply p)) :
    ∃ t, exec (requestCommand tag q) s = .next t ∧ (s.setCable t.cable).Keeps t ∧ t.cable = x
      ∧ t.Answered (requestKind q) tag p := by
  obtain ⟨t, next, keeps, answered⟩ := taken_request tag q s _ _ h _ takes (by simp [requestFrame])
    ((keeps_takenAt _ s).setCable x)
  exact ⟨t, next, keeps.cable ▸ keeps, keeps.cable, answered⟩

theorem taken_gauging (h : s.Calm) {x : Gauging}
    (takes : answer q (takenAt (requestFrame tag q) s) = ((takenAt (requestFrame tag q) s).setGauging x, .reply p)) :
    ∃ t, exec (requestCommand tag q) s = .next t ∧ (s.setGauging t.gauging).Keeps t ∧ t.gauging = x
      ∧ t.Answered (requestKind q) tag p := by
  obtain ⟨t, next, keeps, answered⟩ := taken_request tag q s _ _ h _ takes (by simp [requestFrame])
    ((keeps_takenAt _ s).setGauging x)
  exact ⟨t, next, keeps.gauging ▸ keeps, keeps.gauging, answered⟩

end

/-! ## LINK_SET, CAUSE_CLEAR, WAKE_SET and RESTART (R158, R168, R169, R173) -/

theorem State.Keeps.setLink {a b : State} (h : a.Keeps b) (x y : HostLink) (rateHeld : y.rateHeld = x.rateHeld)
    (rateInForce : y.rateInForce = x.rateInForce) (assembling : y.assembling = x.assembling)
    (restart : y.restart = x.restart) : (a.setLink x).Keeps (b.setLink y) := by
  obtain ⟨time, field, channels, stage, warning, cable, gauging, supervisor, settings, hold, -, -, -, -, free, pending⟩ := h
  exact ⟨time, field, channels, stage, warning, cable, gauging, supervisor, settings, hold, rateHeld, rateInForce,
    assembling, restart, free, pending⟩

theorem lineRates_contains (rate : Nat) : lineRates.contains rate = true ↔ rate ∈ [9600, 19200, 38400, 57600] :=
  List.contains_iff_mem

/-- R173: the settings of a WAKE_SET in range. -/
theorem heldWake_of_range (a : WakeSetArgs) (level : a.levelChange ≤ 1) (stage : a.stage ≤ 1) (rate : a.rate ≤ 1)
    (five : a.levelFive ≤ 1) (fault : a.postFault ≤ 1) :
    heldWake a = some { levelChange := a.levelChange == 1, stage := a.stage == 1
                        wakeStage := max (-999999) (min 999999 a.wakeStage), rate := a.rate == 1
                        wakeRate := max (-99999) (min 99999 a.wakeRate), levelFive := a.levelFive == 1
                        postFault := a.postFault == 1 } := by
  simp [heldWake, onOff_of_le level, onOff_of_le stage, onOff_of_le rate, onOff_of_le five, onOff_of_le fault, clampInt]

theorem heldWake_outside (a : WakeSetArgs) (outside : 1 < a.levelChange ∨ 1 < a.stage ∨ 1 < a.rate ∨ 1 < a.levelFive
    ∨ 1 < a.postFault) : heldWake a = none := by
  unfold heldWake
  rcases outside with h | h | h | h | h <;> rw [onOff_of_lt h] <;>
    cases onOff a.levelChange <;> cases onOff a.stage <;> cases onOff a.rate <;> cases onOff a.levelFive <;> rfl

theorem takeLinkSet_eq (rate : Nat) (s : State) (idle : s.supervisor.saving = none)
    (listed : rate ∈ [9600, 19200, 38400, 57600]) :
    takeLinkSet rate s
      = (s.setLink { s.link with rateHeld := rate }, .reply [.num 2 rate, .num 2 s.link.rateInForce]) := by
  rw [takeLinkSet, (lineRates_contains rate).2 listed, saveRuns_of_none idle] <;> rfl

theorem takeLinkSet_busy (rate : Nat) (s : State) (busy : s.supervisor.saving ≠ none)
    (listed : rate ∈ [9600, 19200, 38400, 57600]) : takeLinkSet rate s = (s, .refuse .busy) := by
  rw [takeLinkSet, (lineRates_contains rate).2 listed, saveRuns_of_ne_none busy] <;> rfl

theorem takeLinkSet_range (rate : Nat) (s : State) (unlisted : rate ∉ [9600, 19200, 38400, 57600]) :
    takeLinkSet rate s = (s, .refuse .range) := by
  rw [takeLinkSet, Bool.eq_false_iff.2 (mt (lineRates_contains rate).1 unlisted)] <;> rfl

theorem takeWakeSet_eq (a : WakeSetArgs) (w : WakeSettings) (s : State) (held : heldWake a = some w)
    (idle : s.supervisor.saving = none) :
    takeWakeSet a s = (s.setSupervisor { s.supervisor with wake := w }, .reply (wakeSettingFields w)) := by
  simp [takeWakeSet, held, saveRuns_of_none idle]

theorem takeRestart_eq (s : State) (idle : s.supervisor.saving = none) :
    takeRestart s = (s.setLink { s.link with restart := .accepted }, .reply []) := by
  simp [takeRestart, saveRuns_of_none idle]

/-- Settles O16: what each of the four requests changes, and its refusals. -/
theorem linkAndCauseRequests : Obligations.LinkAndCauseRequests := by
  unfold Obligations.LinkAndCauseRequests
  refine ⟨?linkSet, ?linkRange, ?causeClear, ?linkBusy, ?wakeSet, ?restart, ?restartBusy⟩
  case linkSet =>
    intro s tag rate calm idle listed
    obtain ⟨t, next, keeps, answered⟩ := taken_request tag (.linkSet rate) s (s.setLink { s.link with rateHeld := rate })
      _ calm _ (takeLinkSet_eq rate _ (by simpa using idle) listed)
      (by simp [requestFrame]) ((keeps_takenAt _ _).setLink _ _ (by simp) (by simp) (by simp) (by simp))
    exact ⟨t, next, keeps.rateHeld, keeps.rateInForce, keeps, by simpa [requestKind] using answered⟩
  case linkRange =>
    intro s tag rate calm unlisted
    exact refused_request tag (.linkSet rate) s calm .range
      (takeLinkSet_range rate _ unlisted)
  case causeClear =>
    intro s tag calm
    have takes : takeCauseClear (takenAt (requestFrame tag .causeClear) s) = (_, _) := rfl
    rw [takenAt_supervisor] at takes
    exact taken_supervisor (q := .causeClear) calm takes
  case linkBusy =>
    intro s tag rate calm busy listed
    exact refused_request tag (.linkSet rate) s calm .busy
      (takeLinkSet_busy rate _ (by simpa using busy) listed)
  case wakeSet =>
    intro s tag a calm
    refine ⟨fun level stage rate five fault => ?_, fun outside => ?_⟩
    · have held := heldWake_of_range a level stage rate five fault
      refine ⟨fun idle => ?_, fun busy => ?_⟩
      · have takes := takeWakeSet_eq a _ (takenAt (requestFrame tag (.wakeSet a)) s) held (by simpa using idle)
        rw [takenAt_supervisor] at takes
        obtain ⟨t, next, keeps, wake, answered⟩ := taken_supervisor (q := .wakeSet a) calm takes
        exact ⟨t, _, next, keeps, wake, rfl, answered⟩
      · exact refused_request tag (.wakeSet a) s calm .busy
          (by simp [answer, takeWakeSet, held, saveRuns_of_ne_none busy])
    · exact refused_request tag (.wakeSet a) s calm .range (by simp [answer, takeWakeSet, heldWake_outside a outside])
  case restart =>
    intro s tag calm idle
    exact taken_request tag .restart s _ _ calm _ (takeRestart_eq _ (by simpa using idle))
      (by simp [requestFrame]) ((keeps_takenAt _ _).setLink _ _ (by simp) (by simp) (by simp) (by simp))
  case restartBusy =>
    intro s tag calm busy
    exact refused_request tag .restart s calm .busy (by simp [answer, takeRestart, saveRuns_of_ne_none busy])

/-! ## FIELD_SET (R17) -/

theorem heldField_of_range (a : FieldSetArgs) (accept : a.acceptBroadcast ≤ 1) (inverse : a.inverseGroups ≤ 1)
    (pass : a.passAllGroups ≤ 1) (capture : a.capture ≤ 1) (single : a.singleAttempt ≤ 1) (own : 1 ≤ a.ownAddress)
    (ownMost : a.ownAddress ≤ 126) (post : 128 ≤ a.postGroup) (postMost : a.postGroup ≤ 254) :
    heldField a = some
      { ownAddress := a.ownAddress, acceptBroadcast := a.acceptBroadcast == 1
        groupSet := a.groupSet % 2 ^ 16, inverseGroups := a.inverseGroups == 1
        passAllGroups := a.passAllGroups == 1, postGroup := a.postGroup, capture := a.capture == 1
        backoffBits := max 1 (min 6 a.backoffBits), singleAttempt := a.singleAttempt == 1 } := by
  simp [heldField, onOff_of_le accept, onOff_of_le inverse, onOff_of_le pass, onOff_of_le capture, onOff_of_le single,
    own, ownMost, post, postMost, clampNat]

theorem heldField_outside (a : FieldSetArgs) (outside : ¬ (1 ≤ a.ownAddress ∧ a.ownAddress ≤ 126 ∧ 128 ≤ a.postGroup
    ∧ a.postGroup ≤ 254)) : heldField a = none := by
  unfold heldField
  simp only [if_neg outside]
  cases onOff a.acceptBroadcast <;> cases onOff a.inverseGroups <;> cases onOff a.passAllGroups <;>
    cases onOff a.capture <;> cases onOff a.singleAttempt <;> rfl

theorem addressTaken_none (s : State) (address : Nat) :
    addressTaken s none address = true
      ↔ ∃ i : Fin 8, s.field.heads[i].config.enable = true ∧ s.field.heads[i].config.address = address := by
  simp [addressTaken, mem_places]

theorem takeFieldSet_eq (a : FieldSetArgs) {x : FieldSettings} (s : State) (held : heldField a = some x)
    (idle : s.supervisor.saving = none) (fresh : addressTaken s none x.ownAddress = false) :
    takeFieldSet a s = (s.setField { s.field with settings := x }, .reply (fieldSettingFields x)) := by
  simp [takeFieldSet, held, saveRuns_of_none idle, fresh]

/-- Settles O17: the settings as held, and the refusals in their order (log 16). -/
theorem fieldSet : Obligations.FieldSet := by
  unfold Obligations.FieldSet
  intro s tag a calm
  refine ⟨fun accept inverse pass capture single own ownMost post postMost => ?_, fun outside => ?_⟩
  · have held := heldField_of_range a accept inverse pass capture single own ownMost post postMost
    refine ⟨fun idle free => ?_, fun busy => ?_, fun idle i enabled same => ?_⟩
    · have fresh : addressTaken s none a.ownAddress = false := by
        rw [← Bool.not_eq_true, addressTaken_none]
        rintro ⟨i, enabled, same⟩
        exact free i enabled same
      obtain ⟨t, next, keeps, field, answered⟩ := taken_field (q := .fieldSet a) (tag := tag) calm
        (takeFieldSet_eq a _ held (by simpa using idle) (by simpa [addressTaken] using fresh))
      rw [takenAt_field] at field
      exact ⟨t, next, keeps, field, by rw [field]; exact answered⟩
    · exact refused_request tag (.fieldSet a) s calm .busy
        (by simp [answer, takeFieldSet, held, saveRuns_of_ne_none busy])
    · have taken : addressTaken s none a.ownAddress = true := (addressTaken_none s _).2 ⟨i, enabled, same⟩
      exact refused_request tag (.fieldSet a) s calm .duplicate
        (by simpa [answer, takeFieldSet, held, saveRuns_of_none idle, addressTaken] using taken)
  · exact refused_request tag (.fieldSet a) s calm .range
      (by simp [answer, takeFieldSet, heldField_outside a (by omega)])

end Sys2Proof.Machine

namespace Sys2Proof.Machine

/-! ## Events that change the field line alone -/

/-- Every block but the field line is as it was. -/
def State.FieldAlone (s t : State) : Prop := (s.setField t.field).Keeps t

namespace State.FieldAlone

variable {a b c : State}

theorem ofKeeps (h : a.Keeps b) : a.FieldAlone b := by
  unfold State.FieldAlone
  rw [h.field]
  exact h

theorem trans (h : a.FieldAlone b) (k : b.FieldAlone c) : a.FieldAlone c :=
  Keeps.trans (State.Keeps.setField h c.field) k

theorem setField (s : State) (x : FieldLine) : s.FieldAlone (s.setField x) := Keeps.refl _

theorem setHead (s : State) (i : Fin 8) (e : HeadEntry) : s.FieldAlone (s.setHead i e) := Keeps.refl _

theorem arbitrate (s : State) : s.FieldAlone (arbitrate s) := by
  unfold Machine.arbitrate
  split
  · split
    · exact Keeps.refl _
    · split
      · exact Keeps.refl _
      · split <;> exact Keeps.refl _
  · exact Keeps.refl _

theorem raisePostState (s : State) (awake : s.supervisor.quiet ≠ .quiet) : s.FieldAlone (raisePostState s) :=
  ofKeeps (keeps_raise _ _ _ awake)

end State.FieldAlone

/-- A request whose owner changes the field line alone. -/
theorem taken_fieldAlone {tag : Byte} {q : Request} {s s' : State} {p : List Field} (h : s.Calm)
    (takes : answer q (takenAt (requestFrame tag q) s) = (s', .reply p))
    (inHand : s'.link.inHand = some { kind := requestKind q, tag := tag })
    (alone : (takenAt (requestFrame tag q) s).FieldAlone s') :
    ∃ t, exec (requestCommand tag q) s = .next t ∧ (s.setField t.field).Keeps t ∧ t.field = s'.field
      ∧ t.Answered (requestKind q) tag p := by
  obtain ⟨t, next, keeps, answered⟩ := taken_request tag q s _ _ h _ takes inHand
    ((State.FieldAlone.ofKeeps (keeps_takenAt _ s)).trans alone)
  exact ⟨t, next, keeps.field ▸ keeps, keeps.field, answered⟩

/-! ## HEAD_SET (R24, R25) -/

/-- R24: the configuration of a HEAD_SET in range, as held. -/
def headHeldAs (a : HeadSetArgs) (k : HeadKind) (ch : Option Nat) : HeadConfig :=
  { enable := a.enable == 1, address := a.address, kind := k, channel := ch
    normal := max 1 (min 3600 a.normal), quiet := min 3600 a.quiet }

theorem heldHead_of_range (a : HeadSetArgs) (k : HeadKind) (ch : Option Nat) (enable : a.enable ≤ 1)
    (address : 1 ≤ a.address) (addressMost : a.address ≤ 126)
    (kind : (a.kind = 0 ∧ k = .stage ∧ ch = a.channel ∧ (∃ n, a.channel = some n ∧ 1 ≤ n ∧ n ≤ 4))
      ∨ (a.kind = 1 ∧ k = .post ∧ ch = none)) : heldHead a = some (headHeldAs a k ch) := by
  have kindOf : headKindOf a.kind a.channel = some (k, ch) := by
    rcases kind with ⟨zero, rfl, rfl, n, channel, least, most⟩ | ⟨one, rfl, rfl⟩
    · simp [headKindOf, zero, channel, least, most]
    · simp [headKindOf, one]
  simp [heldHead, onOff_of_le enable, kindOf, address, addressMost, clampNat, headHeldAs]

theorem heldHead_outside (a : HeadSetArgs) (outside : a.address = 0 ∨ 126 < a.address ∨ 1 < a.kind
    ∨ (a.kind = 0 ∧ ∃ n, a.channel = some n ∧ (n = 0 ∨ 4 < n))) : heldHead a = none := by
  unfold heldHead
  by_cases address : 1 ≤ a.address ∧ a.address ≤ 126
  · have kindOf : headKindOf a.kind a.channel = none := by
      rcases outside with h | h | h | ⟨zero, n, channel, h⟩
      · omega
      · omega
      · obtain ⟨m, two⟩ : ∃ m, a.kind = m + 2 := ⟨a.kind - 2, by omega⟩
        rw [two]
        unfold headKindOf
        split <;> simp_all
      · have range : ¬ (1 ≤ n ∧ n ≤ 4) := by omega
        simp [headKindOf, zero, channel, range]
    rw [kindOf]
    cases onOff a.enable <;> rfl
  · simp only [if_neg address]
    cases onOff a.enable <;> cases headKindOf a.kind a.channel <;> rfl

theorem entryBusy_iff (s : State) (i : Fin 8) : entryBusy s i = true
    ↔ (∃ x, s.field.transaction = some x ∧ x.kind = .poll i) ∨ (∃ m, s.field.management = some m ∧ m.entry = i) := by
  unfold entryBusy
  cases s.field.transaction <;> cases s.field.management <;> simp

theorem addressTaken_some (s : State) (i : Fin 8) (address : Nat) : addressTaken s (some i) address = true
    ↔ ∃ j : Fin 8, j ≠ i ∧ s.field.heads[j].config.enable = true ∧ s.field.heads[j].config.address = address := by
  simp [addressTaken, mem_places, and_assoc]

theorem channelTaken_iff (s : State) (i : Fin 8) (c : HeadConfig) : channelTaken s i c = true
    ↔ c.kind = .stage ∧ ∃ j : Fin 8, j ≠ i ∧ s.field.heads[j].config.enable = true
        ∧ s.field.heads[j].config.kind = .stage ∧ s.field.heads[j].config.channel = c.channel := by
  simp [channelTaken, mem_places, and_assoc]

theorem applyHead_fieldAlone (i : Fin 8) (c : HeadConfig) (s : State) (awake : s.supervisor.quiet ≠ .quiet) :
    s.FieldAlone (applyHead i c s) := by
  unfold applyHead
  refine State.FieldAlone.trans ?_ (State.FieldAlone.arbitrate _)
  split
  · exact (State.FieldAlone.setHead s i _).trans (State.FieldAlone.raisePostState _ awake)
  · exact State.FieldAlone.setHead s i _

/-- R25: the field line with the entry afresh, before the arbiter chooses. -/
theorem applyHead_eq_arbitrate (i : Fin 8) (c : HeadConfig) (s : State) :
    ∃ u, applyHead i c s = arbitrate u ∧ u.field = (s.setHead i (freshHead s.now c)).field ∧ u.link.inHand = s.link.inHand := by
  unfold applyHead
  refine ⟨_, rfl, ?_, ?_⟩ <;> split <;> simp [raisePostState, State.setHead]

theorem applyHead_tables (i : Fin 8) (c : HeadConfig) (s : State) :
    (applyHead i c s).field.settings = s.field.settings ∧ (applyHead i c s).field.captured = s.field.captured
      ∧ (applyHead i c s).field.heads = s.field.heads.set i (freshHead s.now c)
      ∧ (applyHead i c s).field.lastSent = s.field.lastSent := by
  obtain ⟨u, eq, field, -⟩ := applyHead_eq_arbitrate i c s
  obtain ⟨settings, captured, heads, lastSent⟩ := arbitrate_tables u
  rw [eq, settings, captured, heads, lastSent, field]
  exact ⟨rfl, rfl, rfl, rfl⟩

theorem applyHead_busy (i : Fin 8) (c : HeadConfig) (s : State) (busy : s.field.tx ≠ .free) :
    (applyHead i c s).field = (s.setHead i (freshHead s.now c)).field := by
  obtain ⟨u, eq, field, -⟩ := applyHead_eq_arbitrate i c s
  rw [eq, arbitrate_busy u (by rw [field]; exact busy), field]

/-- R25: HEAD_SET is refused DUPLICATE. -/
def headDuplicate (s : State) (i : Fin 8) (c : HeadConfig) : Prop :=
  c.enable = true ∧ (c.address = s.field.settings.ownAddress ∨ addressTaken s (some i) c.address = true
    ∨ channelTaken s i c = true)

theorem headDuplicate_iff (s : State) (i : Fin 8) (a : HeadSetArgs) (k : HeadKind) (ch : Option Nat) :
    headDuplicate s i (headHeldAs a k ch) ↔ a.enable = 1
      ∧ (a.address = s.field.settings.ownAddress
        ∨ (∃ j : Fin 8, j ≠ i ∧ s.field.heads[j].config.enable = true
          ∧ (s.field.heads[j].config.address = a.address
            ∨ (k = .stage ∧ s.field.heads[j].config.kind = .stage ∧ s.field.heads[j].config.channel = ch)))) := by
  simp only [headDuplicate, addressTaken_some, channelTaken_iff, headHeldAs, beq_iff_eq]
  grind

theorem takeHeadSet_eq (a : HeadSetArgs) (s : State) (i : Fin 8) (c : HeadConfig) (entry : a.entry = i.val + 1)
    (held : heldHead a = some c) :
    takeHeadSet a s = open Classical in
      if s.saveRuns = true ∨ entryBusy s i = true then (s, .refuse .busy)
      else if headDuplicate s i c then (s, .refuse .duplicate)
      else (applyHead i c s, .reply (headConfigFields c)) := by
  have at_ : place a.entry 8 = some i := (place_eq_some _ _ _).2 entry
  simp only [takeHeadSet, at_, held, headDuplicate, Bool.or_eq_true, Bool.and_eq_true, beq_iff_eq]
  grind

theorem takeHeadSet_range (a : HeadSetArgs) (s : State) (outside : a.entry = 0 ∨ 8 < a.entry ∨ heldHead a = none) :
    takeHeadSet a s = (s, .refuse .range) := by
  unfold takeHeadSet
  rcases outside with h | h | h
  · rw [place_none (by omega)]
  · rw [place_none (by omega)]
  · rw [h]
    cases place a.entry 8 <;> rfl

@[simp] theorem applyHead_inHand (i : Fin 8) (c : HeadConfig) (s : State) :
    (applyHead i c s).link.inHand = s.link.inHand := by
  obtain ⟨u, eq, -, inHand⟩ := applyHead_eq_arbitrate i c s
  rw [eq, arbitrate_link, inHand]

/-- Settles O18: the refusals in their order, and the entry that a taken HEAD_SET leaves. -/
theorem headSet : Obligations.HeadSet := by
  unfold Obligations.HeadSet
  intro s tag a calm
  refine ⟨fun i k ch entry enable address addressMost kind => ?_, fun outside => ?_⟩
  · have held := heldHead_of_range a k ch enable address addressMost kind
    have takes := takeHeadSet_eq a (takenAt (requestFrame tag (.headSet a)) s) i _ entry held
    have busyIff := entryBusy_iff (takenAt (requestFrame tag (.headSet a)) s) i
    have duplicateIff := headDuplicate_iff (takenAt (requestFrame tag (.headSet a)) s) i a k ch
    simp only [takenAt_field, takenAt_saveRuns] at busyIff duplicateIff takes
    have notBusy (idle : s.supervisor.saving = none) (noPoll : ∀ x, s.field.transaction = some x → x.kind ≠ .poll i)
        (noManagement : ∀ m, s.field.management = some m → m.entry ≠ i) :
        ¬ (s.saveRuns = true ∨ entryBusy (takenAt (requestFrame tag (.headSet a)) s) i = true) := by
      rw [busyIff]
      rintro (saving | ⟨x, flight, poll⟩ | ⟨m, names, same⟩)
      · simp [saveRuns_of_none idle] at saving
      · exact noPoll x flight poll
      · exact noManagement m names same
    refine ⟨fun idle noPoll noManagement free => ?_, fun busy => ?_, fun idle noPoll noManagement on taken => ?_⟩
    · rw [if_neg, if_neg] at takes
      rotate_left
      · rw [duplicateIff]
        rintro ⟨on, same | ⟨j, other, enabled, same | ⟨stage, stage', same⟩⟩⟩
        · exact (free on).1 same
        · exact ((free on).2 j other enabled).1 same
        · exact ((free on).2 j other enabled).2 stage stage' same
      · exact notBusy idle noPoll noManagement
      have awake : (takenAt (requestFrame tag (.headSet a)) s).supervisor.quiet ≠ .quiet := by
        rw [takenAt_supervisor, calm.2.2.1]
        decide
      obtain ⟨t, next, keeps, field, answered⟩ := taken_fieldAlone (q := .headSet a) calm takes (by simp [requestFrame])
        (applyHead_fieldAlone i _ _ awake)
      obtain ⟨settings, captured, heads, lastSent⟩ :=
        applyHead_tables i (headHeldAs a k ch) (takenAt (requestFrame tag (.headSet a)) s)
      rw [← field] at settings captured heads lastSent
      have entry : t.field.heads[i] = freshHead s.now (headHeldAs a k ch) := by
        simp [heads]
      refine ⟨t, next, keeps, ?_, ?_, ?_, ?_, ?_, ?_, ?_⟩
      · rw [entry]
        simp [freshHead, headHeldAs]
      · intro j other
        have apart : i.val ≠ j.val := fun same => other (Fin.ext same).symm
        simp [heads, apart]
      · simpa using settings
      · simpa using captured
      · simpa using lastSent
      · intro busy
        rw [field, applyHead_busy i _ _ (by simpa using busy)]
        simp [State.setHead]
      · rw [entry]
        exact answered
    · rw [if_pos (by
        rw [busyIff]
        exact busy.imp_left saveRuns_of_ne_none)] at takes
      exact refused_request tag (.headSet a) s calm .busy takes
    · rw [if_neg, if_pos (duplicateIff.2 ⟨on, taken⟩)] at takes
      rotate_left
      · exact notBusy idle noPoll noManagement
      exact refused_request tag (.headSet a) s calm .duplicate takes
  · refine refused_request tag (.headSet a) s calm .range (takeHeadSet_range a _ ?_)
    rcases outside with h | h | h
    · exact .inl h
    · exact .inr (.inl h)
    · exact .inr (.inr (heldHead_outside a h))

/-! ## HEAD_PARAM (R36, R37) -/

theorem arbitrate_management {s : State} {m : Management} (free : s.field.tx = .free) (noWarn : s.field.warn ≠ .standing)
    (waits : s.field.management = some m) (idle : m.inFlight = false) :
    arbitrate s = chooseTransaction .management (paramFrame s m)
      (s.setField { s.field with management := some { m with inFlight := true } }) := by
  have chosen : s.field.management.filter (fun m => !m.inFlight) = some m := by
    rw [waits, Option.filter_some, if_pos (by simp [idle])]
  simp only [arbitrate, free, if_neg noWarn, chosen]

/-- R36: the management transaction of a HEAD_PARAM that is accepted. -/
def paramHeldAs (a : HeadParamArgs) (i : Fin 8) : Management :=
  { entry := i, op := if a.operation = 0 then .get else .set, parameter := a.parameter
    value := if a.operation = 0 then none else a.value, inFlight := false }

/-- The answer of HEAD_PARAM to operands in range, in the order of its checks (log 16). -/
theorem takeHeadParam_eq (a : HeadParamArgs) (s : State) (i : Fin 8) (entry : a.entry = i.val + 1)
    (operation : a.operation ≤ 1) (parameter : a.parameter ≤ 255) :
    takeHeadParam a s =
      if a.operation = 1 ∧ a.value = none then (s, .refuse .length)
      else if s.field.management ≠ none then (s, .refuse .busy)
      else if s.field.heads[i].config.enable = false then (s, .refuse .state)
      else (acceptParam (paramHeldAs a i) s, .reply []) := by
  have at_ : place a.entry 8 = some i := (place_eq_some _ _ _).2 entry
  obtain zero | one : a.operation = 0 ∨ a.operation = 1 := by omega
  · simp [takeHeadParam, at_, zero, paramOpOf, Nat.not_lt.2 parameter, paramHeldAs, heldValue, Option.isSome_iff_ne_none]
  · simp [takeHeadParam, at_, one, paramOpOf, Nat.not_lt.2 parameter, paramHeldAs, heldValue, Option.isSome_iff_ne_none]

theorem paramFrame_heldAs (a : HeadParamArgs) (i : Fin 8) (operation : a.operation ≤ 1) (s : State) :
    paramFrame s (paramHeldAs a i) =
      { destination := s.field.heads[i].config.address, source := s.field.settings.ownAddress
        kind := if a.operation = 0 then 0x12 else 0x13
        payload := BitVec.ofNat 8 a.parameter
          :: if a.operation = 0 then [] else numberOctets 4 (a.value.getD 0) } := by
  obtain zero | one : a.operation = 0 ∨ a.operation = 1 := by omega
  · simp [paramFrame, paramHeldAs, zero, kindParamGet]
  · simp [paramFrame, paramHeldAs, one, kindParamSet]

theorem acceptParam_fieldAlone (m : Management) (s : State) : s.FieldAlone (acceptParam m s) :=
  (State.FieldAlone.setField s _).trans (State.FieldAlone.arbitrate _)

/-- Settles O19: the transaction that waits or goes out, and the refusals in their order. -/
theorem headParam : Obligations.HeadParam := by
  unfold Obligations.HeadParam
  intro s tag a i calm entry operation parameter
  have takes := takeHeadParam_eq a (takenAt (requestFrame tag (.headParam a)) s) i entry operation parameter
  simp only [takenAt_field] at takes
  refine ⟨fun none_ enabled given => ?_, fun one absent => ?_, fun given held => ?_, fun given none_ disabled => ?_⟩
  · rw [if_neg (by tauto), if_neg (by simpa using none_), if_neg (by simpa using enabled)] at takes
    obtain ⟨t, next, keeps, field, answered⟩ := taken_fieldAlone (q := .headParam a) calm takes
      (by simp [acceptParam, requestFrame]) (acceptParam_fieldAlone _ _)
    refine ⟨fun busy => ⟨t, next, keeps, ?_, answered⟩, fun free noWarn => ⟨t, next, keeps, ?_⟩⟩
    · rw [field, acceptParam, arbitrate_busy _ (by simpa using busy)]
      simp [paramHeldAs]
    · rw [acceptParam, arbitrate_management (m := paramHeldAs a i) (by simpa using free) (by simpa using noWarn)
        (by simp) rfl] at field
      simp only [chooseTransaction, State.setField_field, takenAt_field] at field
      refine ⟨by rw [field]; rfl, by rw [field], by rw [field]; simp; rfl, ?_, by rw [field], by rw [field], by rw [field],
        answered⟩
      rw [field, paramFrame_heldAs a i operation]
      simp
  · rw [if_pos ⟨one, absent⟩] at takes
    exact refused_request tag (.headParam a) s calm .length takes
  · rw [if_neg (by tauto), if_pos held] at takes
    exact refused_request tag (.headParam a) s calm .busy takes
  · rw [if_neg (by tauto), if_neg (by simpa using none_), if_pos disabled] at takes
    exact refused_request tag (.headParam a) s calm .state takes

end Sys2Proof.Machine

namespace Sys2Proof.Machine

theorem runActive_iff (s : State) : runActive s = true ↔ s.run.state = .active := by
  simp [runActive]

theorem runActive_of_ne {s : State} (h : s.run.state ≠ .active) : runActive s = false := by
  rw [← Bool.not_eq_true, runActive_iff]
  exact h

/-! ## CARRIAGE_SET (R107, R108) -/

theorem homingOrRetracting_iff (m : Motion) : homingOrRetracting m = true ↔ m = .homing ∨ m = .retracting := by
  cases m <;> simp [homingOrRetracting]

theorem takeCarriageSet_eq (a : CarriageSetArgs) (s : State) (idle : s.supervisor.saving = none)
    (noRun : s.run.state ≠ .active) (noHoming : s.cable.motion ≠ .homing) (noRetract : s.cable.motion ≠ .retracting) :
    takeCarriageSet a s = (s.setCable (carriageSetTo (clampedCarriage a) s.cable),
      .reply (carriageSetReply (s.setCable (carriageSetTo (clampedCarriage a) s.cable)))) := by
  have still : homingOrRetracting s.cable.motion = false := by
    rw [← Bool.not_eq_true, homingOrRetracting_iff]
    exact not_or.2 ⟨noHoming, noRetract⟩
  simp [takeCarriageSet, saveRuns_of_none idle, runActive_of_ne noRun, still]

theorem carriageSetReply_congr {s t : State} (same : t.cable = s.cable) : carriageSetReply t = carriageSetReply s := by
  unfold carriageSetReply
  rw [same]

theorem carriageSetTo_payoutKnown (x : CarriageSettings) (c : Cableway) :
    (carriageSetTo x c).payoutKnown = true
      ↔ c.payoutKnown = true ∨ (c.settings.reelScale = none ∧ c.switches.reelTop = true) := by
  simp [carriageSetTo]

/-- Settles O27: the settings clamped, and what a changed scale loses. -/
theorem carriageSet : Obligations.CarriageSet := by
  unfold Obligations.CarriageSet
  intro s tag a calm
  refine ⟨fun idle noRun noHoming noRetract => ?_, fun idle moving => ?_, fun busy => ?_⟩
  · obtain ⟨t, next, keeps, cable, answered⟩ := taken_cable (q := .carriageSet a) (tag := tag) calm
      (takeCarriageSet_eq a _ (by simpa using idle) (by simpa using noRun) (by simpa using noHoming)
        (by simpa using noRetract))
    rw [takenAt_cable] at cable
    refine ⟨t, clampedCarriage a, next, keeps, rfl, ?_, ?_, ?_, ?_, ?_, fun traverse reel => ?_, fun changed => ?_, ?_, ?_⟩
    iterate 5 rw [cable]; rfl
    · have same : (clampedCarriage a).traverseScale = s.cable.settings.traverseScale
          ∧ (clampedCarriage a).reelScale = s.cable.settings.reelScale := ⟨traverse, reel⟩
      rw [cable]
      exact ⟨if_pos same, if_pos same⟩
    · have other : ¬ ((clampedCarriage a).traverseScale = s.cable.settings.traverseScale
          ∧ (clampedCarriage a).reelScale = s.cable.settings.reelScale) := by tauto
      rw [cable]
      exact ⟨if_neg other, if_neg other⟩
    · rw [cable, carriageSetTo_payoutKnown]
    · rw [carriageSetReply_congr (t := t) (s := s.setCable (carriageSetTo (clampedCarriage a) s.cable)) cable]
      simpa [carriageSetReply, requestKind] using answered
  · refine refused_request tag (.carriageSet a) s calm .state ?_
    have moves : (runActive s || homingOrRetracting s.cable.motion) = true := by
      rw [Bool.or_eq_true, runActive_iff, homingOrRetracting_iff]
      exact moving
    simp only [answer, takeCarriageSet, takenAt_saveRuns, takenAt_runActive, takenAt_cable, saveRuns_of_none idle, moves] <;> rfl
  · exact refused_request tag (.carriageSet a) s calm .busy
      (by simp [answer, takeCarriageSet, saveRuns_of_ne_none busy])

/-! ## CARRIAGE_HOME (R111) -/

theorem unconfigured_iff (c : Cableway) : unconfigured c = true ↔ c.settings.traverseScale = none
    ∨ c.settings.reelScale = none ∨ c.settings.span = none ∨ c.settings.maxDepth = none := by
  simp [unconfigured, or_assoc]

theorem setDrive_of_ne {s : State} {d : Option Drive} (h : s.cable.drive ≠ d) :
    setDrive d s = s.setCable { s.cable with drive := d, stall := d.map fun _ => stallExpiryNow s } := if_neg h

theorem setDrive_of_eq {s : State} {d : Option Drive} (h : s.cable.drive = d) : setDrive d s = s := if_pos h

/-- R109, R111: where the controller stands when homing begins without an output driven. -/
def homingFrom (now : Nat) (c : Cableway) : Cableway :=
  if c.switches.reelTop = false then
    { c with motion := .homing, positionKnown := false, drive := some .reelUp
             stall := some (now + c.settings.stallTime * 1000) }
  else if c.switches.homeLimit = true then { c with motion := .parked, positionKnown := true, traverseCount := 0 }
  else
    { c with motion := .homing, positionKnown := false, drive := some .traverseIn
             stall := some (now + c.settings.stallTime * 1000) }

theorem beginHoming_eq (s : State) (still : s.cable.drive = none) :
    beginHoming s = s.setCable (homingFrom s.now s.cable) := by
  unfold beginHoming pursue homingFrom
  cases top : s.cable.switches.reelTop <;> cases home : s.cable.switches.homeLimit <;>
    simp [top, home, setDrive, still, reachHome, stallExpiryNow, State.setCable, State.now]

/-- R111: the answer of CARRIAGE_HOME, in the order of its checks. -/
theorem takeCarriageHome_taken (s : State) (noRun : s.run.state ≠ .active) (configured : unconfigured s.cable = false)
    (noOverload : s.cable.switches.overload = false) (still : s.cable.drive = none)
    (taken : s.cable.motion = .unreferenced ∨ s.cable.motion = .parked ∨ s.cable.motion = .faulted) :
    takeCarriageHome s = (s.setCable (homingFrom s.now s.cable),
      .reply [.code (motionCode (homingFrom s.now s.cable).motion)]) := by
  have begun := beginHoming_eq s still
  rcases taken with h | h | h <;>
    simp [takeCarriageHome, runActive_of_ne noRun, configured, noOverload, h, begun]

theorem takeCarriageHome_unfit (s : State)
    (unfit : s.run.state = .active ∨ unconfigured s.cable = true ∨ s.cable.switches.overload = true) :
    takeCarriageHome s = (s, .refuse .state) := by
  unfold takeCarriageHome
  rw [← runActive_iff] at unfit
  split_ifs with active open_ overload
  · rfl
  · rfl
  · rfl
  · tauto

theorem takeCarriageHome_moving (s : State) (noRun : s.run.state ≠ .active) (configured : unconfigured s.cable = false)
    (noOverload : s.cable.switches.overload = false) :
    (s.cable.motion = .homing ∨ s.cable.motion = .retracting → takeCarriageHome s = (s, .refuse .busy))
    ∧ (s.cable.motion ∉ [.unreferenced, .parked, .faulted, .homing, .retracting] →
      takeCarriageHome s = (s, .refuse .state)) := by
  simp only [takeCarriageHome, runActive_of_ne noRun, configured, noOverload]
  cases s.cable.motion <;> simp

/-- Settles O28: homing from each place, and the refusals of the states that do not take it. -/
theorem carriageHome : Obligations.CarriageHome := by
  unfold Obligations.CarriageHome
  refine ⟨fun s tag calm noRun => ⟨fun traverse reel span depth noOverload still taken => ?_, fun unfit => ?_⟩,
    fun s tag calm => ⟨fun active => ?_, fun noRun traverse reel span depth noOverload => ?_⟩⟩
  · have configured : unconfigured s.cable = false := by
      rw [← Bool.not_eq_true, unconfigured_iff]
      tauto
    obtain ⟨t, next, keeps, cable, answered⟩ := taken_cable (q := .carriageHome) (tag := tag) calm
      (takeCarriageHome_taken _ (by simpa using noRun) (by simpa using configured) (by simpa using noOverload)
        (by simpa using still) (by simpa using taken))
    rw [takenAt_cable, takenAt_now] at cable answered
    refine ⟨fun top => ⟨t, next, keeps, ?_, ?_⟩, fun top home => ⟨t, next, keeps, ?_, ?_⟩,
      fun top home => ⟨t, next, keeps, ?_, ?_⟩⟩
    iterate 3
      · simp [homingFrom, *]
      · simpa [homingFrom, motionCode, requestKind, *] using answered
  · refine refused_request tag .carriageHome s calm .state (takeCarriageHome_unfit _ (.inr ?_))
    rw [unconfigured_iff, takenAt_cable]
    tauto
  · exact refused_request tag .carriageHome s calm .state (takeCarriageHome_unfit _ (.inl (by simpa using active)))
  · have configured : unconfigured s.cable = false := by
      rw [← Bool.not_eq_true, unconfigured_iff]
      tauto
    obtain ⟨busy, state⟩ := takeCarriageHome_moving (takenAt (requestFrame tag .carriageHome) s) (by simpa using noRun)
      (by simpa using configured) (by simpa using noOverload)
    exact ⟨fun moving => refused_request tag .carriageHome s calm .busy (busy (by simpa using moving)),
      fun other => refused_request tag .carriageHome s calm .state (state (by simpa using other))⟩

/-! ## PLAN_CLEAR, PLAN_PUT and METER_SET (R125 to R127) -/

theorem busy_iff (s : State) :
    (runActive s || s.saveRuns) = true ↔ s.run.state = .active ∨ s.supervisor.saving ≠ none := by
  rw [Bool.or_eq_true, runActive_iff, State.saveRuns, Option.isSome_iff_ne_none]

theorem takePlanClear_eq (exposure limit : Nat) (s : State) (free : ¬ (s.run.state = .active ∨ s.supervisor.saving ≠ none)) :
    takePlanClear exposure limit s
      = (s.setGauging { s.gauging with plan :=
            { entries := [], defaultExposure := max 20 (min 180 exposure), changeLimit := min 1000 limit } },
        .reply [.num 1 (max 20 (min 180 exposure) : Nat), .num 2 (min 1000 limit : Nat)]) := by
  rw [← busy_iff] at free
  simp only [takePlanClear, if_neg free, setPlan, headerFields, clampNat, Nat.zero_max]

/-- R125: an entry as held, its clamps written out. -/
theorem heldEntry_eq (a : PlanPutArgs) (m : Method) : heldEntry a m =
    { distance := a.distance, method := m, depth := a.depth.map fun d => min 30000 d
      coefficient := if m = .surface then some (max 500 (min 1000 (a.coefficient.getD 850))) else none
      exposure := a.exposure.map fun x => max 20 (min 180 x) } := by
  have depth : (clampNat 0 30000) = fun d => min 30000 d := by
    funext d
    simp [clampNat]
  have exposure : clampNat 20 180 = fun x => max 20 (min 180 x) := rfl
  cases m <;> simp [heldEntry, depth, exposure, clampNat]

theorem methodOf_none {n : Nat} (h : 4 < n) : methodOf n = none := by
  obtain ⟨k, rfl⟩ : ∃ k, n = k + 5 := ⟨n - 5, by omega⟩
  rfl

theorem takePlanPut_range (a : PlanPutArgs) (s : State)
    (outside : a.index = 0 ∨ 40 < a.index ∨ 300000 < a.distance ∨ 4 < a.method) :
    takePlanPut a s = (s, .refuse .range) := by
  unfold takePlanPut
  rcases found : methodOf a.method with _ | m
  · rfl
  · have known : ¬ 4 < a.method := fun h => by simp [methodOf_none h] at found
    exact if_pos (by simp only [Config.planSize]; tauto)

/-- R125: the answer of PLAN_PUT to operands in range, in the order of its checks. -/
theorem takePlanPut_eq (a : PlanPutArgs) (m : Method) (s : State) (found : methodOf a.method = some m)
    (least : 1 ≤ a.index) (most : a.index ≤ 40) (near : a.distance ≤ 300000) :
    takePlanPut a s =
      if m = .surface ∧ a.depth = none then (s, .refuse .plan)
      else if s.gauging.plan.entries.length + 1 < a.index then (s, .refuse .notFound)
      else if (runActive s || s.saveRuns) = true then (s, .refuse .busy)
      else if inOrder s.gauging.plan.entries a.index a.distance = false then (s, .refuse .order)
      else (s.setGauging { s.gauging with
              plan := { s.gauging.plan with entries := putEntry s.gauging.plan.entries a.index (heldEntry a m) } },
        .reply ([.num 1 a.index] ++ entryFields (heldEntry a m)
          ++ [.num 1 (putEntry s.gauging.plan.entries a.index (heldEntry a m)).length])) := by
  have inRange : ¬ (a.index = 0 ∨ Config.planSize < a.index ∨ 300000 < a.distance) := by
    simp only [Config.planSize]
    omega
  simp only [takePlanPut, found, if_neg inRange, Bool.not_eq_true', setPlan]

theorem inOrder_iff (entries : List PlanEntry) (index distance : Nat) : inOrder entries index distance = true
    ↔ (∀ e ∈ entries.take (index - 1), e.distance < distance) ∧ ∀ e ∈ entries.drop index, distance < e.distance := by
  simp [inOrder]

theorem boundsRise_iff (gs : List Segment) : boundsRise gs = true ↔ (gs.map (·.lower)).IsChain (· < ·) := by
  induction gs with
  | nil => simp [boundsRise]
  | cons g rest ih =>
    rcases rest with _ | ⟨h, rest⟩
    · simp [boundsRise]
    · rw [boundsRise, Bool.and_eq_true, ih]
      simp

/-- R127: the rating that a METER_SET in range and order leaves. -/
def ratingHeldAs (a : MeterSetArgs) : Rating :=
  { ratio := a.ratio, startRate := min 200 a.startRate
    segments := a.segments.map fun g =>
      { lower := g.lower, intercept := max (-100) (min 500 g.intercept), pitch := max 50000 (min 1000000 g.pitch) } }

theorem takeMeterSet_range (a : MeterSetArgs) (s : State) (outside : (a.ratio ≠ 1 ∧ a.ratio ≠ 2 ∧ a.ratio ≠ 5)
    ∨ a.segments.length = 0 ∨ 3 < a.segments.length ∨ (∃ g ∈ a.segments, 100000 < g.lower)) :
    takeMeterSet a s = (s, .refuse .range) := if_pos (by simpa using outside)

/-- R127: the answer of METER_SET to operands in range, in the order of its checks. -/
theorem takeMeterSet_eq (a : MeterSetArgs) (s : State) (g : Segment) (rest : List Segment)
    (ratio : a.ratio = 1 ∨ a.ratio = 2 ∨ a.ratio = 5) (segments : a.segments = g :: rest) (few : a.segments.length ≤ 3)
    (low : ∀ g ∈ a.segments, g.lower ≤ 100000) :
    takeMeterSet a s = open Classical in
      if g.lower ≠ 0 ∨ ¬ (a.segments.map (·.lower)).IsChain (· < ·) then (s, .refuse .order)
      else if (runActive s || s.saveRuns) = true then (s, .refuse .busy)
      else (s.setGauging { s.gauging with rating := some (ratingHeldAs a) },
        .reply ([.num 1 (ratingHeldAs a).ratio, .num 1 (ratingHeldAs a).startRate]
          ++ listFields (ratingHeldAs a).segments fun g => [.num 3 g.lower, .num 2 g.intercept, .num 3 g.pitch])) := by
  have inRange : ¬ ((a.ratio ≠ 1 ∧ a.ratio ≠ 2 ∧ a.ratio ≠ 5) ∨ a.segments.length = 0 ∨ 3 < a.segments.length
      ∨ (a.segments.any fun g => decide (100000 < g.lower)) = true) := by
    rintro (h | h | h | h)
    · omega
    · simp [segments] at h
    · omega
    · obtain ⟨x, mem, high⟩ := List.any_eq_true.1 h
      exact absurd (low x mem) (Nat.not_le.2 (by simpa using high))
  have first : (a.segments.head?.map (·.lower)).getD 0 = g.lower := by simp [segments]
  simp only [takeMeterSet, if_neg inRange, first, ← Bool.not_eq_true, boundsRise_iff]
  congr 2

/-- Settles O29: the checks of the three requests in their order, and what each changes. -/
theorem planAndMeter : Obligations.PlanAndMeter := by
  unfold Obligations.PlanAndMeter
  refine ⟨⟨fun s tag exposure limit calm => ⟨fun noRun idle => ?_, fun busy => ?_⟩, fun s tag a calm =>
    ⟨fun outside => ?_, fun m found least most near => ?_⟩⟩, fun s tag a calm => ⟨fun outside => ?_,
      fun ratio few low g rest segments => ?_⟩⟩
  · obtain ⟨t, next, keeps, gauging, answered⟩ := taken_gauging (q := .planClear exposure limit) (tag := tag) calm
      (takePlanClear_eq exposure limit _ (by simpa using ⟨noRun, idle⟩))
    rw [takenAt_gauging] at gauging
    exact ⟨t, next, keeps, gauging, answered⟩
  · refine refused_request tag (.planClear exposure limit) s calm .busy ?_
    rw [← busy_iff] at busy
    simp only [answer, takePlanClear, takenAt_runActive, takenAt_saveRuns, if_pos busy]
  · exact refused_request tag (.planPut a) s calm .range (takePlanPut_range a _ outside)
  · have takes := takePlanPut_eq a m (takenAt (requestFrame tag (.planPut a)) s) found least most near
    simp only [takenAt_gauging, takenAt_runActive, takenAt_saveRuns] at takes
    refine ⟨fun surface absent => ?_, fun given beyond => ?_, fun given within => ⟨fun busy => ?_, fun noRun idle =>
      ⟨fun disorder => ?_, fun before after => ?_⟩⟩⟩
    · rw [if_pos ⟨surface, absent⟩] at takes
      exact refused_request tag (.planPut a) s calm .plan takes
    · rw [if_neg (by tauto), if_pos beyond] at takes
      exact refused_request tag (.planPut a) s calm .notFound takes
    · rw [if_neg (by tauto), if_neg (by omega), if_pos ((busy_iff s).2 busy)] at takes
      exact refused_request tag (.planPut a) s calm .busy takes
    · rw [if_neg (by tauto), if_neg (by omega), if_neg (by rw [busy_iff]; tauto), if_pos] at takes
      · exact refused_request tag (.planPut a) s calm .order takes
      · rw [← Bool.not_eq_true, inOrder_iff]
        rintro ⟨before, after⟩
        rcases disorder with ⟨e, mem, h⟩ | ⟨e, mem, h⟩
        · exact absurd (before e mem) (by omega)
        · exact absurd (after e mem) (by omega)
    · rw [if_neg (by tauto), if_neg (by omega), if_neg (by rw [busy_iff]; tauto), if_neg] at takes
      · obtain ⟨t, next, keeps, gauging, answered⟩ := taken_gauging (q := .planPut a) (tag := tag) calm takes
        refine ⟨t, _, next, keeps, rfl, ?_, ?_⟩
        · rw [gauging, ← heldEntry_eq] <;> rfl
        · rw [gauging, ← heldEntry_eq]
          simpa [entryFields, requestKind] using answered
      · rw [Bool.not_eq_false, inOrder_iff]
        exact ⟨before, after⟩
  · exact refused_request tag (.meterSet a) s calm .range (takeMeterSet_range a _ outside)
  · have takes := takeMeterSet_eq a (takenAt (requestFrame tag (.meterSet a)) s) g rest ratio segments few low
    simp only [takenAt_gauging, takenAt_runActive, takenAt_saveRuns] at takes
    refine ⟨fun first rise => ⟨fun noRun idle => ?_, fun busy => ?_⟩, fun disorder => ?_⟩
    · rw [if_neg (by tauto), if_neg (by rw [busy_iff]; tauto)] at takes
      obtain ⟨t, next, keeps, gauging, answered⟩ := taken_gauging (q := .meterSet a) (tag := tag) calm takes
      exact ⟨t, _, next, keeps, rfl, gauging, answered⟩
    · rw [if_neg (by tauto), if_pos ((busy_iff s).2 busy)] at takes
      exact refused_request tag (.meterSet a) s calm .busy takes
    · rw [if_pos disorder] at takes
      exact refused_request tag (.meterSet a) s calm .order takes

end Sys2Proof.Machine

namespace Sys2Proof.Machine

/-! ## The host receiver (R159, R161) -/

/-- R161: a frame that the host link itself refuses. -/
theorem refused_frame (f : HostFrame) (r : Reason) (s : State) (h : s.Calm) (content : f.content = .error r) :
    s.Keeps (frameArrives f s) ∧ (frameArrives f s).RefusedFor f.kind f.tag (reasonCode r) := by
  rw [frameArrives_calm f s h]
  have judged : judgeFrame f (takenAt f s) = (takenAt f s, .refuse r) := by simp [judgeFrame, content]
  rw [judged]
  exact ⟨keeps_placeReply _ _ _ (keeps_takenAt f s), by simp [State.RefusedFor, replyFrame]⟩

theorem hostOctetsArrive_frame {octets : List Byte} {f : HostFrame} (s : State) (spells : hostFrameOf octets = some f) :
    hostOctetsArrive octets s = frameArrives f (s.setLink { s.link with assembling := none }) := by
  simp [hostOctetsArrive, spells]

theorem hostOctetsArrive_none {octets : List Byte} (s : State) (spells : hostFrameOf octets = none) :
    hostOctetsArrive octets s = s.setLink { s.link with assembling := none } := by
  simp [hostOctetsArrive, spells]

theorem hostGapDue_iff (s : State) :
    hostGapDue s = true ↔ s.link.assembling.isSome = true ∧ s.link.lastOctet + 50 < s.now := by
  rw [hostGapDue, Bool.and_eq_true, decide_eq_true_iff]
  exact Iff.rfl

theorem hostGapFalls_of_due {s : State} {held : List Byte} (assembling : s.link.assembling = some held)
    (gap : s.link.lastOctet + 50 < s.now) : hostGapFalls s = s.setLink { s.link with assembling := none } :=
  if_pos ((hostGapDue_iff s).2 ⟨by simp [assembling], gap⟩)

theorem hostGapFalls_of_early {s : State} (early : s.now ≤ s.link.lastOctet + 50) : hostGapFalls s = s :=
  if_neg (by rw [hostGapDue_iff]; omega)

theorem hostGapFalls_of_hunting {s : State} (hunting : s.link.assembling = none) : hostGapFalls s = s :=
  if_neg (by rw [hostGapDue_iff]; simp [hunting])

theorem hostTooLong_iff (len : Byte) (rest : List Byte) : hostTooLong (len :: rest) = true ↔ 200 < len.toNat :=
  decide_eq_true_iff

/-- R159: a further character of the frame being assembled, by the LEN in front. -/
theorem assembleOctet_held {s : State} {held rest : List Byte} {b len : Byte} (assembling : s.link.assembling = some held)
    (octets : held ++ [b] = len :: rest) :
    assembleOctet b s =
      if 200 < len.toNat then s.setLink { s.link with assembling := none }
      else if rest.length = len.toNat + 4 then hostOctetsArrive (len :: rest) s
      else s.setLink { s.link with assembling := some (len :: rest), lastOctet := s.now } := by
  simp [assembleOctet, assembling, octets, hostTooLong_iff, hostComplete]

/-- Settles O9: frames, gaps and characters, each as its case of the receiver. -/
theorem hostReceiver : Obligations.HostReceiver := by
  unfold Obligations.HostReceiver
  refine ⟨fun octets s spells => ?_, fun octets f r s spells content calm => ?_, fun octets tag s spells calm => ?_,
    fun s held assembling => ⟨fun gap => ?_, fun early => ?_⟩, fun s b => rfl, fun s b hunting => ?_,
    fun s held b len rest assembling early octets => ?_⟩
  · exact congrArg Host.Outcome.next (hostOctetsArrive_none s spells)
  · obtain ⟨keeps, refused⟩ := refused_frame f r (s.setLink { s.link with assembling := none }) calm content
    exact ⟨_, congrArg Host.Outcome.next (hostOctetsArrive_frame s spells), keeps, refused⟩
  · obtain ⟨t, next, keeps, answered⟩ := (plainReads (s.setLink { s.link with assembling := none }) tag calm).2.2.1
    exact ⟨t, (congrArg Host.Outcome.next (hostOctetsArrive_frame s spells)).trans next, keeps, answered⟩
  · exact congrArg Host.Outcome.next (hostGapFalls_of_due assembling gap)
  · exact congrArg Host.Outcome.next (hostGapFalls_of_early early)
  · refine congrArg Host.Outcome.next (?_ : assembleOctet b (hostGapFalls s) = _)
    rw [hostGapFalls_of_hunting hunting]
    simp [assembleOctet, hunting]
  · have next : exec (.hostCharacterReceived b true) s = .next (assembleOctet b (hostGapFalls s)) := rfl
    rw [hostGapFalls_of_early early, assembleOctet_held assembling octets] at next
    refine ⟨fun long => ?_, fun short few => ?_, fun short all => ?_⟩
    · rw [next, if_pos long]
    · rw [next, if_neg (by omega), if_neg (by omega)]
    · rw [next, if_neg (by omega), if_pos all] <;> rfl

/-! ## SAVE (R170, R171) -/

theorem raise_notices_occupied (src : NoticeSource) (c : List Field) (s : State) (low : 3 < sourceNumber src)
    (occupied : s.link.notice ≠ none) :
    (raise src c s).notices = { s.notices with
      slots := s.notices.slots.set (sourcePlace src) (some (raisedSlot src (slotOf s src) c)) } := by
  rw [raise_occupied src c s low occupied] <;> rfl

theorem keeps_raise_low (src : NoticeSource) (c : List Field) (s : State) (low : 3 < sourceNumber src) :
    s.Keeps (raise src c s) := by
  rw [raise_low src c s low]
  exact keeps_fillSlot src c s

theorem writeEnds_eq {s : State} {x : Saving} (holds : Bool) (runs : s.supervisor.saving = some x) :
    writeEnds holds s = raise .saveDone (saveDoneContent s holds x.start)
      (s.setSupervisor (storeWritten holds x s.supervisor)) := by
  simp [writeEnds, runs]

@[simp] theorem takenAt_warningSettings (f : HostFrame) (s : State) :
    (takenAt f s).warning.settings = s.warning.settings := by
  rw [takenAt_warning]
  split <;> rfl

@[simp] theorem takenAt_monitorSettings (f : HostFrame) (s : State) :
    (takenAt f s).warning.monitorSettings = s.warning.monitorSettings := by
  rw [takenAt_warning]
  split <;> rfl

theorem gatherStored_takenAt (f : HostFrame) (s : State) : gatherStored (takenAt f s) = gatherStored s := by
  simp [gatherStored]

theorem takeSave_eq (s : State) (idle : s.supervisor.saving = none) :
    takeSave s = (s.setSupervisor
      { s.supervisor with storeValid := false, saving := some { copy := gatherStored s, start := s.now } }, .reply []) := by
  simp [takeSave, saveRuns_of_none idle, beginSave]

/-- Settles O35: the copy that SAVE takes, and what the end of the write makes of it. -/
theorem save : Obligations.Save := by
  unfold Obligations.Save
  refine ⟨fun s tag calm idle => ?_, fun s tag calm busy => ?_, fun s x holds runs => ?_, fun s holds idle => ?_⟩
  · have takes := takeSave_eq (takenAt (requestFrame tag .save) s) (by simpa using idle)
    rw [takenAt_supervisor, takenAt_now, gatherStored_takenAt] at takes
    obtain ⟨t, next, keeps, supervisor, answered⟩ := taken_supervisor (q := .save) calm takes
    have saving := congrArg Supervisor.saving supervisor
    refine ⟨t, next, keeps, by rw [saving, supervisor], ⟨gatherStored s, saving, ?_⟩, answered⟩
    simp [gatherStored]
  · exact refused_request tag .save s calm .busy (by simp [answer, takeSave, saveRuns_of_ne_none busy])
  · have keeps := keeps_raise_low .saveDone (saveDoneContent s holds x.start)
      (s.setSupervisor (storeWritten holds x s.supervisor)) (by decide)
    refine ⟨_, congrArg Host.Outcome.next (writeEnds_eq holds runs), ?_, ?_, fun occupied => ⟨_,
      raise_notices_occupied _ _ _ (by decide) occupied, ?_, fun empty => ?_⟩⟩
    · rw [keeps.supervisor]
      exact keeps
    · rw [keeps.supervisor] <;> rfl
    · rw [raisedSlot_eq _ _ _ (by decide)] <;> rfl
    · rw [slotOf, State.setSupervisor_notices, empty] <;> rfl
  · exact congrArg Host.Outcome.next (by simp [writeEnds, idle])

end Sys2Proof.Machine

namespace Sys2Proof.Machine

/-! ## The choice of the dispatcher (R151, R152) -/

theorem noticeSources_rise : noticeSources.Pairwise fun a b => sourceNumber a < sourceNumber b := by decide

theorem mem_noticeSources (src : NoticeSource) : src ∈ noticeSources := by cases src <;> decide

theorem sourceNumber_injective {a b : NoticeSource} (h : sourceNumber a = sourceNumber b) : a = b := by
  have distinct : ∀ a ∈ noticeSources, ∀ b ∈ noticeSources, sourceNumber a = sourceNumber b → a = b := by decide
  exact distinct a (mem_noticeSources a) b (mem_noticeSources b) h

/-- Of two sources the first goes before the second: a higher level, or the same and no higher number (R152). -/
def goesBefore (level : NoticeSource → Nat) (a b : NoticeSource) : Prop :=
  level b < level a ∨ (level b = level a ∧ sourceNumber a ≤ sourceNumber b)

/-- R152: the choice over a list of sources in the order of their numbers, one of them already in hand. -/
theorem foldl_choice (level : NoticeSource → Nat) (xs : List NoticeSource) (b : NoticeSource)
    (rise : (b :: xs).Pairwise fun a b => sourceNumber a < sourceNumber b) :
    ∃ r ∈ b :: xs, (xs.foldl (fun best src =>
        match best with
        | none => some src
        | some c => if level c < level src then some src else some c) (some b)) = some r
      ∧ ∀ k ∈ b :: xs, goesBefore level r k := by
  induction xs generalizing b with
  | nil => exact ⟨b, by simp, rfl, by simp [goesBefore]⟩
  | cons x xs ih =>
    rw [List.pairwise_cons] at rise
    obtain ⟨first, rest⟩ := rise
    by_cases higher : level b < level x
    · obtain ⟨r, mem, eq, all⟩ := ih x rest
      refine ⟨r, List.mem_cons_of_mem _ mem, by simpa [higher] using eq, ?_⟩
      rw [List.forall_mem_cons]
      refine ⟨?_, all⟩
      rcases all x (by simp) with h | h
      · exact .inl (by omega)
      · exact .inl (by omega)
    · obtain ⟨r, mem, eq, all⟩ := ih b (List.pairwise_cons.2 ⟨fun k mem => first k (by simp [mem]), rest.of_cons⟩)
      have shared : ∀ k ∈ b :: x :: xs, k = x ∨ k ∈ b :: xs := by
        intro k mem
        simp only [List.mem_cons] at mem ⊢
        tauto
      refine ⟨r, ?_, by simpa [higher] using eq, fun k mem => ?_⟩
      · rcases List.mem_cons.1 mem with rfl | mem
        · simp
        · simp [mem]
      · rcases shared k mem with rfl | mem
        · have behind := first k (by simp)
          rcases all b (by simp) with h | h
          · exact .inl (by omega)
          · unfold goesBefore
            omega
        · exact all k mem

/-- R152: among the eligible sources the choice is the one that goes before every other. -/
theorem bestSource_spec (s : State) :
    (bestSource s = none ∧ ∀ j, eligible s j = false)
      ∨ ∃ r, bestSource s = some r ∧ eligible s r = true
        ∧ ∀ k, eligible s k = true → goesBefore (fun j => (sourceSetting s j).level) r k := by
  have mem_iff (j : NoticeSource) : j ∈ noticeSources.filter (eligible s) ↔ eligible s j = true := by
    simp [mem_noticeSources]
  have rise := noticeSources_rise.sublist (List.filter_sublist (p := eligible s))
  unfold bestSource
  rcases found : noticeSources.filter (eligible s) with _ | ⟨b, xs⟩
  · left
    refine ⟨rfl, fun j => ?_⟩
    have := mem_iff j
    rw [found] at this
    simpa using this
  · right
    rw [found] at rise mem_iff
    obtain ⟨r, mem, eq, all⟩ := foldl_choice (fun j => (sourceSetting s j).level) xs b rise
    exact ⟨r, eq, (mem_iff r).1 mem, fun k eligible => all k ((mem_iff k).2 eligible)⟩

theorem bestSource_eq_none {s : State} (h : ∀ j, eligible s j = false) : bestSource s = none := by
  rcases bestSource_spec s with ⟨none_, -⟩ | ⟨r, -, ok, -⟩
  · exact none_
  · simp [h r] at ok

theorem bestSource_eq_some {s : State} {j : NoticeSource} (ok : eligible s j = true)
    (all : ∀ k, eligible s k = true → goesBefore (fun j => (sourceSetting s j).level) j k) : bestSource s = some j := by
  rcases bestSource_spec s with ⟨-, none_⟩ | ⟨r, eq, ok', all'⟩
  · simp [none_ j] at ok
  · have one := all r ok'
    have two := all' j ok
    rw [eq, sourceNumber_injective (a := r) (b := j)]
    unfold goesBefore at one two
    omega

theorem serviceLevel_lt_iff (s : State) (n : Nat) :
    serviceLevel s < n ↔ 0 < n ∧ ∀ l ∈ s.notices.inService, l < n := by
  have fold : ∀ (xs : List Nat) (a : Nat), xs.foldl max a < n ↔ a < n ∧ ∀ l ∈ xs, l < n := by
    intro xs
    induction xs with
    | nil => simp
    | cons x xs ih =>
      intro a
      rw [List.foldl_cons, ih, List.forall_mem_cons, max_lt_iff, and_assoc]
  exact fold _ 0

/-- R152: the five conditions. -/
theorem eligible_iff (s : State) (j : NoticeSource) : eligible s j = true
    ↔ s.notices.slots[sourcePlace j] ≠ none ∧ s.warning.autonomous = false ∧ 0 < (sourceSetting s j).level
      ∧ (∀ l ∈ s.notices.inService, l < (sourceSetting s j).level) ∧ (sourceSetting s j).enable = true
      ∧ (s.notices.settings.master = true ∨ (sourceSetting s j).level = 5)
      ∧ (s.notices.hold = none ∨ (sourceSetting s j).level = 5) := by
  simp only [eligible, slotOf, Bool.and_eq_true, Bool.or_eq_true, decide_eq_true_eq, serviceLevel_lt_iff,
    Bool.not_eq_true', beq_iff_eq, Option.isSome_iff_ne_none, Option.isNone_iff_eq_none]
  tauto

theorem bestSource_congr {s t : State} (notices : t.notices = s.notices)
    (autonomous : t.warning.autonomous = s.warning.autonomous) : bestSource t = bestSource s := by
  have setting : sourceSetting t = sourceSetting s := by
    funext j
    simp only [sourceSetting, notices]
  have same : eligible t = eligible s := by
    funext j
    rw [Bool.eq_iff_iff, eligible_iff, eligible_iff, setting, notices, autonomous]
  simp only [bestSource, same, setting]

/-- R148: the level of a source: 5 of the first three, else as set. -/
theorem sourceSetting_level (s : State) (j : NoticeSource) : (sourceSetting s j).level
    = if sourceNumber j ≤ 3 then 5 else s.notices.settings.sources[sourcePlace j].level := by
  cases j <;> rfl

theorem sourceSetting_enable (s : State) (j : NoticeSource) : (sourceSetting s j).enable = true
    ↔ sourceNumber j ≤ 3 ∨ s.notices.settings.sources[sourcePlace j].enable = true := by
  cases j <;> simp [sourceSetting, sourceNumber, sourcePlace, numberOf]

theorem linkReady_iff (s : State) :
    linkReady s = true ↔ s.link.notice = none ∧ s.link.waiting = none ∧ s.link.unready = false := by
  simp [linkReady, and_assoc]

theorem dispatch_of_unready {s : State} (h : linkReady s = false) : dispatch s = s := by
  simp [dispatch, h]

theorem dispatch_of_none {s : State} (h : bestSource s = none) : dispatch s = s := by
  unfold dispatch
  split
  · rw [h]
  · rfl

/-- R153, R163: the choice on a free line: the slot empties, its level joins the set, and the frame goes out. -/
theorem dispatch_of_some {s : State} {j : NoticeSource} {x : Slot} (ready : linkReady s = true)
    (best : bestSource s = some j) (slot : s.notices.slots[sourcePlace j] = some x) (line : s.link.line = none)
    (reply : s.link.reply = none) :
    dispatch s = (s.setNotices
        { s.notices with
          slots := s.notices.slots.set (sourcePlace j) none
          inService := s.notices.inService ++ [(sourceSetting s j).level] }).setLink
      { s.link with
        notice := some { kind := 0xC0 + sourceNumber j, tag := 0, payload := .num 1 x.merged :: x.content }
        line := some .notice } := by
  unfold dispatch
  rw [if_pos ready, best]
  simp [handOver, slotOf, slot, startLine, line, reply, noticeFrame] <;> rfl

theorem fillSlot_of_occupied (src : NoticeSource) (c : List Field) (s : State) (occupied : s.link.notice ≠ none) :
    fillSlot src c s = s.setNotices
      { s.notices with slots := s.notices.slots.set (sourcePlace src) (some (raisedSlot src (slotOf s src) c)) } := by
  refine dispatch_of_unready ?_
  rw [← Bool.not_eq_true, linkReady_iff]
  exact fun h => occupied h.1

theorem raise_of_awake (src : NoticeSource) (c : List Field) (s : State) (awake : s.supervisor.quiet ≠ .quiet) :
    raise src c s = fillSlot src c s := by
  unfold raise
  dsimp only
  split
  · exact wake_of_awake _ _ (by simpa using awake)
  · rfl

theorem replacedContent_of_ne {src : NoticeSource} (other : src ≠ .warning) (held newer : List Field) :
    replacedContent src held newer = newer := by
  cases src with
  | warning => exact absurd rfl other
  | _ => rfl

theorem sourcePlace_injective {a b : NoticeSource} (h : sourcePlace a = sourcePlace b) : a = b :=
  sourceNumber_injective (congrArg numberOf h)

theorem sourceSetting_congr {s t : State} (settings : t.notices.settings = s.notices.settings) (j : NoticeSource) :
    sourceSetting t j = sourceSetting s j := by
  simp only [sourceSetting, settings]

theorem emptied_slots {slots : Vector (Option Slot) 15} (i : Fin 15) (x : Slot)
    (allEmpty : ∀ i : Fin 15, slots[i] = none) : (slots.set i (some x)).set i none = slots := by
  ext1 k at_
  have empty : slots[k] = none := allEmpty ⟨k, at_⟩
  rw [Vector.set_set, Vector.getElem_set, empty, ite_self]

/-- Settles O34: the slot of a raised notice, and the choice among the eligible ones. -/
theorem noticeRaised : Obligations.NoticeRaised := by
  unfold Obligations.NoticeRaised
  refine ⟨fun s src content awake => ⟨fun occupied => ⟨fun empty => ?_, fun x full => ?_, ?_⟩, ?_⟩, ?_⟩
  · rw [raise_of_awake _ _ _ awake, fillSlot_of_occupied _ _ _ occupied, slotOf, empty] <;> rfl
  · rw [raise_of_awake _ _ _ awake, fillSlot_of_occupied _ _ _ occupied, slotOf, full]
    refine ⟨_, rfl, rfl, fun other => replacedContent_of_ne other _ _, ?_⟩
    rintro old new a b rfl held newer
    rw [newer]
    simp [raisedSlot, held, replacedContent]
  · rw [raise_of_awake _ _ _ awake, fillSlot_of_occupied _ _ _ occupied] <;> rfl
  · intro noNotice noWaiting ready free noReply notAutonomous noHold noService master enable level allEmpty
    have empty : s.notices.slots[sourcePlace src] = none := allEmpty _
    rw [raise_of_awake _ _ _ awake, fillSlot]
    generalize placed : s.setNotices _ = v
    have slot : v.notices.slots[sourcePlace src] = some { content := content, merged := 0 } := by
      simp [← placed, slotOf, empty, raisedSlot]
    have others (k : NoticeSource) (other : k ≠ src) : v.notices.slots[sourcePlace k] = none := by
      have apart : (sourcePlace src).val ≠ (sourcePlace k).val :=
        fun same => other (sourcePlace_injective (Fin.ext same)).symm
      simpa [← placed, apart] using allEmpty (sourcePlace k)
    have setting : sourceSetting v src = sourceSetting s src := by
      rw [← placed]
      exact sourceSetting_congr rfl src
    have ready : linkReady v = true := by
      rw [linkReady_iff, ← placed]
      exact ⟨noNotice, noWaiting, ready⟩
    have ok : eligible v src = true := by
      rw [eligible_iff, slot, setting]
      simp [← placed, notAutonomous, noService, enable, master, noHold, Nat.lt_of_succ_le level]
    have best : bestSource v = some src := by
      refine bestSource_eq_some ok fun k eligible => ?_
      by_cases other : k = src
      · exact .inr (by simp [other])
      · rw [eligible_iff] at eligible
        exact absurd (others k other) eligible.1
    have free : v.link.line = none ∧ v.link.reply = none := by
      rw [← placed]
      exact ⟨free, noReply⟩
    rw [dispatch_of_some ready best slot free.1 free.2, setting, ← placed]
    simp [emptied_slots _ _ allEmpty, noService]
  · intro s u c level ok noReply noWaiting ready event levelEq okEq
    have heard : u.link.notice = none ∧ u.link.line = none ∧ u.link.reply = none ∧ u.link.waiting = none
        ∧ u.link.unready = false ∧ u.notices.slots = s.notices.slots ∧ u.notices.inService = s.notices.inService
        ∧ u.notices.settings = s.notices.settings ∧ u.warning = s.warning ∧ exec c s = .next (dispatch u) := by
      rcases event with ⟨rfl, line, rfl⟩ | ⟨rfl, line, notice, ⟨e, held, expired⟩, rfl⟩
      · refine ⟨rfl, rfl, noReply, noWaiting, ready, rfl, rfl, rfl, rfl, ?_⟩
        refine congrArg Host.Outcome.next (?_ : hostSent s = _)
        simp [hostSent, line, lineFree, startLine, noReply] <;> rfl
      · refine ⟨notice, line, noReply, noWaiting, ready, rfl, rfl, rfl, rfl, ?_⟩
        have due : holdDue s = true := (reached_iff _ _).2 ⟨e, held, expired⟩
        exact congrArg Host.Outcome.next (if_pos due)
    obtain ⟨notice, line, reply, waiting, heard, slots, inService, settings, warning, next⟩ := heard
    have levels : level = fun j => (sourceSetting u j).level := by
      funext j
      rw [levelEq, sourceSetting_level, settings]
    have oks (j : NoticeSource) : ok j ↔ eligible u j = true := by
      rw [okEq, eligible_iff, sourceSetting_enable, levels, slots, inService, settings, warning]
    have ready : linkReady u = true := (linkReady_iff u).2 ⟨notice, waiting, heard⟩
    refine ⟨fun j x okj slot first => ?_, fun none_ => ?_⟩
    · rw [levels] at first ⊢
      rw [next, dispatch_of_some ready
        (bestSource_eq_some ((oks j).1 okj) fun k okk => first k ((oks k).2 okk)) (by rw [slots, slot]) line reply]
    · rw [next, dispatch_of_none (bestSource_eq_none fun j => by rw [← Bool.not_eq_true, ← oks]; exact none_ j)]

/-! ## The requests of the dispatcher (R149, R154 to R156) -/

theorem State.Keeps.setNotices {a b : State} (h : a.Keeps b) (x : Dispatcher) : (a.setNotices x).Keeps (b.setNotices x) := by
  obtain ⟨time, field, channels, stage, warning, cable, gauging, supervisor, -, -, rest⟩ := h
  exact ⟨time, field, channels, stage, warning, cable, gauging, supervisor, rfl, rfl, rest⟩

/-- The notices of the later state, in the earlier one, stand as they are in it. -/
theorem State.Keeps.ownNotices {a b : State} {x : Dispatcher} (h : (a.setNotices x).Keeps b) :
    (a.setNotices b.notices).Keeps b := by
  obtain ⟨time, field, channels, stage, warning, cable, gauging, supervisor, -, -, rest⟩ := h
  exact ⟨time, field, channels, stage, warning, cable, gauging, supervisor, rfl, rfl, rest⟩

/-- R153: the set after a choice: as it was, or with the level of the notice handed over behind it. -/
theorem dispatch_inService (s : State) : (dispatch s).notices.inService = s.notices.inService
    ∨ ∃ l, (dispatch s).notices.inService = s.notices.inService ++ [l] := by
  unfold dispatch
  split
  · split
    · exact .inl rfl
    · unfold handOver
      split
      · exact .inl rfl
      · exact .inr ⟨_, congrArg Dispatcher.inService (startLine_notices _)⟩
  · exact .inl rfl

/-- A request of the dispatcher that is taken: only its settings, its hold and its level set are new. -/
theorem taken_notices (tag : Byte) (q : Request) (s : State) (calm : s.Calm) (x : Dispatcher) (p : List Field)
    (takes : answer q (takenAt (requestFrame tag q) s) = ((takenAt (requestFrame tag q) s).setNotices x, .reply p)) :
    ∃ t, exec (requestCommand tag q) s = .next t ∧ (s.setNotices x).Keeps t
      ∧ (t.notices.inService = x.inService ∨ ∃ l, t.notices.inService = x.inService ++ [l])
      ∧ t.Answered (requestKind q) tag p := by
  obtain ⟨t, next, placed, answered⟩ := answered_request tag q s _ calm p takes (by simp [requestFrame])
  refine ⟨t, next, placed ▸ keeps_placeReply _ _ _ ((keeps_takenAt _ _).setNotices x), ?_, answered⟩
  have chosen := dispatch_inService
    (startLine (((takenAt (requestFrame tag q) s).setNotices x).setLink
      { ((takenAt (requestFrame tag q) s).setNotices x).link with
        reply := some (replyFrame (requestFrame tag q) (.reply p)), unready := false }))
  rw [placed, placeReply]
  simpa using chosen

theorem sourcePlaces : noticeSources.map sourcePlace = places 15 := by decide

/-- R149: one source in the reply, from its place in the tables. -/
theorem sourceShown (s : State) (j : NoticeSource) :
    [.flag (sourceSetting s j).enable, .num 1 (sourceSetting s j).level, .flag (slotOf s j).isSome]
        ++ optNum 1 ((slotOf s j).map (·.merged))
      = (if (sourcePlace j).val < 3 then [Field.flag true, .num 1 5]
          else [.flag s.notices.settings.sources[sourcePlace j].enable,
            .num 1 s.notices.settings.sources[sourcePlace j].level])
        ++ (match s.notices.slots[sourcePlace j] with
          | none => [.flag false, .absent]
          | some x => [.flag true, .present, .num 1 x.merged]) := by
  have setting : [Field.flag (sourceSetting s j).enable, .num 1 (sourceSetting s j).level]
      = if (sourcePlace j).val < 3 then [Field.flag true, .num 1 5]
          else [.flag s.notices.settings.sources[sourcePlace j].enable,
            .num 1 s.notices.settings.sources[sourcePlace j].level] := by
    cases j <;> rfl
  rw [← setting, slotOf]
  cases s.notices.slots[sourcePlace j] <;> rfl

/-- R149: the reply of NOTICE_SET, source by source. -/
theorem noticeSetReply_eq (s : State) : noticeSetReply s
    = [.flag s.notices.settings.master]
      ++ ((places 15).map fun j => (if j.val < 3 then [Field.flag true, .num 1 5]
            else [.flag s.notices.settings.sources[j].enable, .num 1 s.notices.settings.sources[j].level])
            ++ (match s.notices.slots[j] with
              | none => [.flag false, .absent]
              | some x => [.flag true, .present, .num 1 x.merged])).flatten
      ++ [.count s.notices.inService.length] ++ s.notices.inService.map (fun l => .num 1 l)
      ++ (match s.notices.hold with
        | none => [.absent]
        | some e => [.present, .num 2 ((e - s.now) / 10 : Nat), .num 6 e]) := by
  have held : optFields s.notices.hold (fun e => [Field.num 2 ((holdRemaining s).getD 0), timeField e])
      = (match s.notices.hold with
        | none => [.absent]
        | some e => [.present, .num 2 ((e - s.now) / 10 : Nat), .num 6 e]) := by
    unfold holdRemaining
    cases s.notices.hold <;> rfl
  unfold noticeSetReply listFields
  simp only [sourceShown, held, ← sourcePlaces, List.map_map, Function.comp_def, List.map_eq_flatMap (f := fun l : Nat => Field.num 1 l)]
  simp only [List.flatMap_def, List.append_assoc, List.cons_append, List.nil_append]

theorem noticeSetReply_congr {s t : State} (notices : t.notices = s.notices) (now : t.now = s.now) :
    noticeSetReply t = noticeSetReply s := by
  rw [noticeSetReply_eq, noticeSetReply_eq, notices, now]

/-- R149: the item of a source in range. -/
theorem noticeItem_at (i : Fin 15) {x : NoticeItem} (source : x.source = i.val + 1) (low : 4 ≤ x.source)
    (enable : x.enable ≤ 1) :
    noticeItem x = some (i, { enable := x.enable == 1, level := max 1 (min 4 x.level) }) := by
  have found : place x.source 15 = some i := (place_eq_some _ _ i).2 source
  simp only [noticeItem, found, onOff_of_le enable, clampNat, if_pos (show 3 < x.source from low)]

theorem noticeItem_none {x : NoticeItem} (out : x.source < 4 ∨ 15 < x.source) : noticeItem x = none := by
  unfold noticeItem
  split
  case h_1 i e found enable =>
    have := (place_eq_some _ _ i).1 found
    exact if_neg (by omega)
  · rfl

/-- The settings that NOTICE_SET leaves, its item found in range. -/
def State.noticesUnder (s : State) (master : Nat) (found : Option (Fin 15 × SourceSetting)) : Dispatcher :=
  { s.notices with settings :=
      { master := master == 1
        sources := match found with
          | some (i, setting) => s.notices.settings.sources.set i setting
          | none => s.notices.settings.sources } }

theorem takeNoticeSet_taken {master : Nat} (item : Option NoticeItem) (found : Option (Fin 15 × SourceSetting)) (s : State)
    (masterLe : master ≤ 1) (inRange : item.map noticeItem = found.map some) (idle : s.saveRuns = false) :
    takeNoticeSet master item s = (s.setNotices (s.noticesUnder master found),
      .reply (noticeSetReply (s.setNotices (s.noticesUnder master found)))) := by
  unfold takeNoticeSet
  rw [onOff_of_le masterLe, inRange]
  cases found <;> simp [idle, State.noticesUnder]

theorem takeNoticeSet_busy {master : Nat} (item : Option NoticeItem) (s : State) (masterLe : master ≤ 1)
    (inRange : ∀ x, item = some x → noticeItem x ≠ none) (saves : s.saveRuns = true) :
    takeNoticeSet master item s = (s, .refuse .busy) := by
  unfold takeNoticeSet
  rw [onOff_of_le masterLe]
  rcases item with _ | x
  · simp [saves]
  · have := inRange x rfl
    rcases found : noticeItem x with _ | f
    · exact absurd found this
    · simp [saves, found]

/-- R149: a NOTICE_SET in range, with no SAVE running. -/
theorem taken_noticeSet {s : State} {tag : Byte} {master : Nat} (calm : s.Calm) (masterLe : master ≤ 1)
    (idle : s.supervisor.saving = none) (item : Option NoticeItem) (found : Option (Fin 15 × SourceSetting))
    (inRange : item.map noticeItem = found.map some) :
    ∃ t, exec (.noticeSet tag master item) s = .next t ∧ (s.setNotices t.notices).Keeps t
      ∧ t.notices.settings = (s.noticesUnder master found).settings ∧ t.notices.hold = s.notices.hold
      ∧ t.Answered 0x38 tag (noticeSetReply (s.setNotices (s.noticesUnder master found))) := by
  have takes : answer (.noticeSet master item) (takenAt (requestFrame tag (.noticeSet master item)) s)
      = ((takenAt (requestFrame tag (.noticeSet master item)) s).setNotices (s.noticesUnder master found),
          .reply (noticeSetReply (s.setNotices (s.noticesUnder master found)))) := by
    refine (takeNoticeSet_taken item found _ masterLe inRange (by simpa using saveRuns_of_none idle)).trans ?_
    have held : (takenAt (requestFrame tag (.noticeSet master item)) s).noticesUnder master found
        = s.noticesUnder master found := by simp [State.noticesUnder]
    rw [held]
    refine congrArg (fun p => (_, Answer.reply p)) (noticeSetReply_congr rfl ?_)
    exact takenAt_now (requestFrame tag (.noticeSet master item)) s
  obtain ⟨t, next, keeps, -, answered⟩ := taken_notices tag _ s calm _ _ takes
  exact ⟨t, next, keeps.ownNotices, keeps.noticeSettings, keeps.hold, answered⟩

@[simp] theorem serviceLevel_takenAt (f : HostFrame) (s : State) : serviceLevel (takenAt f s) = serviceLevel s := by
  simp [serviceLevel]

/-- R155: HOLD over a state whose run time is `now`. -/
theorem takeHold_eq (units : Nat) (u s : State) (notices : u.notices = s.notices) (now : u.now = s.now) :
    takeHold units u
      = (u.setNotices { s.notices with hold := if units = 0 then none else some (s.now + 10 * units) },
        .reply (optNum 2 (s.notices.hold.map fun e => (e - s.now) / 10)
          ++ (if units = 0 then [.absent, .absent]
              else [.present, .num 2 units, .present, .num 6 (s.now + 10 * units : Nat)]))) := by
  have same : (u.setNotices { s.notices with hold := if units = 0 then none else some (s.now + units * 10) }).now
      = s.now := now
  unfold takeHold
  simp only [holdRemaining, notices, now, same, Nat.mul_comm 10 units]
  by_cases none_ : units = 0
  · simp [none_, optNum, optTime, optField]
  · simp [none_, optNum, optTime, optField, timeField]

/-- Settles O33: the requests of the dispatcher, and the expiry of a hold. -/
theorem noticeRequests : Obligations.NoticeRequests := by
  unfold Obligations.NoticeRequests
  refine ⟨fun s tag master calm masterLe idle => ⟨?_, fun i x source low enable => ?_⟩, ?_, ?_, ?_, ?_, ?_, ?_⟩
  · obtain ⟨t, next, keeps, settings, hold, answered⟩ := taken_noticeSet (tag := tag) calm masterLe idle none none rfl
    exact ⟨t, next, keeps, settings, hold, by rw [noticeSetReply_eq] at answered; exact answered⟩
  · obtain ⟨t, next, keeps, settings, hold, answered⟩ := taken_noticeSet (tag := tag) calm masterLe idle (some x)
      (some (i, _)) (congrArg some (noticeItem_at i source low enable))
    refine ⟨t, next, keeps, settings, hold, ?_⟩
    rw [noticeSetReply_eq] at answered
    have shown (j : Fin 15) :
        (if j.val < 3 then [Field.flag true, .num 1 5]
          else if j = i then [.flag (x.enable == 1), .num 1 (max 1 (min 4 x.level) : Nat)]
          else [.flag s.notices.settings.sources[j].enable, .num 1 s.notices.settings.sources[j].level])
        = if j.val < 3 then [Field.flag true, .num 1 5]
          else [.flag (s.notices.settings.sources.set i
                { enable := x.enable == 1, level := max 1 (min 4 x.level) })[j].enable,
              .num 1 (s.notices.settings.sources.set i
                { enable := x.enable == 1, level := max 1 (min 4 x.level) })[j].level] := by
      by_cases same : j = i
      · simp [same]
      · have apart : i.val ≠ j.val := fun h => same (Fin.ext h.symm)
        simp [same, apart]
    simp only [shown]
    exact answered
  · intro s tag master item calm masterLe saves inRange
    refine refused_request tag (.noticeSet master item) s calm .busy ?_
    refine takeNoticeSet_busy item _ masterLe (fun x eq => ?_) (by simpa using saveRuns_of_ne_none saves)
    obtain ⟨low, high, enable⟩ := inRange x eq
    rw [noticeItem_at ⟨x.source - 1, by omega⟩ (by simp; omega) low enable]
    simp
  · intro s tag master x calm masterLe out
    refine refused_request tag (.noticeSet master (some x)) s calm .range ?_
    simp [answer, takeNoticeSet, onOff_of_le masterLe, noticeItem_none out]
  · intro s tag top calm mem greatest
    have best : serviceLevel s = top := by
      refine Nat.le_antisymm (Nat.lt_succ_iff.1 ((serviceLevel_lt_iff s _).2
        ⟨by omega, fun l l_mem => Nat.lt_succ_of_le (greatest l l_mem)⟩)) (Nat.le_of_not_lt fun below => ?_)
      exact Nat.lt_irrefl _ (((serviceLevel_lt_iff s top).1 below).2 top mem)
    have stands : s.notices.inService ≠ [] := List.ne_nil_of_mem mem
    obtain ⟨t, next, keeps, inService, answered⟩ := taken_notices tag .noticeDone s calm
      { s.notices with inService := s.notices.inService.erase top }
      (.num 1 top :: listFields (s.notices.inService.erase top) fun l => [.num 1 l])
      (by simp only [answer, takeNoticeDone, takenAt_notices, if_neg stands, serviceLevel_takenAt, best])
    refine ⟨t, next, ?_, inService, answered⟩
    simpa [State.Keeps] using keeps
  · intro s tag calm empty
    refine refused_request tag .noticeDone s calm .state ?_
    simp [answer, takeNoticeDone, empty]
  · intro s tag units calm
    obtain ⟨t, next, keeps, -, answered⟩ := taken_notices tag (.hold units) s calm
      _ _ (takeHold_eq units (takenAt (requestFrame tag (.hold units)) s) s (takenAt_notices _ s) (takenAt_now _ s))
    exact ⟨t, next, keeps.ownNotices, keeps.noticeSettings, keeps.hold, answered⟩
  · intro s e held due
    have expired : holdDue s = true := (reached_iff _ _).2 ⟨e, held, due⟩
    have next : exec .holdExpiry s = .next (dispatch (s.setNotices { s.notices with hold := none })) :=
      congrArg Host.Outcome.next (if_pos expired)
    refine ⟨_, next, ?_, dispatch_notices_hold _, dispatch_notices_settings _, fun still => ?_⟩
    · simp [State.Keeps, sameBut]
    · rcases still with occupied | autonomous
      · refine dispatch_of_unready ?_
        rw [← Bool.not_eq_true, linkReady_iff]
        exact fun ready => occupied ready.1
      · refine dispatch_of_none (bestSource_eq_none fun j => ?_)
        rw [← Bool.not_eq_true, eligible_iff]
        exact fun ok => absurd ok.2.1 (by simp [autonomous])

end Sys2Proof.Machine

namespace Sys2Proof.Machine

/-! ## Velocities (R134, R135) -/

/-- R127, R134: the last segment whose lower bound is not above the rate is the one with the greatest such bound. -/
theorem segmentFor_eq {segments : List Segment} {r : Nat} {g : Segment} (rise : (segments.map (·.lower)).IsChain (· < ·))
    (mem : g ∈ segments) (low : g.lower ≤ r) (greatest : ∀ h ∈ segments, h.lower ≤ r → h.lower ≤ g.lower) :
    segmentFor segments r = g := by
  have pairs : (segments.filter fun h => decide (h.lower ≤ r)).Pairwise fun a b => a.lower < b.lower :=
    (List.pairwise_map.1 (List.isChain_iff_pairwise.1 rise)).sublist List.filter_sublist
  have inside : g ∈ segments.filter fun h => decide (h.lower ≤ r) := List.mem_filter.2 ⟨mem, by simpa using low⟩
  have last := List.dropLast_append_getLast (List.ne_nil_of_mem inside)
  generalize getLast_eq : (segments.filter fun h => decide (h.lower ≤ r)).getLast (List.ne_nil_of_mem inside) = z at last
  have z_mem : z ∈ segments.filter fun h => decide (h.lower ≤ r) := getLast_eq ▸ List.getLast_mem _
  obtain ⟨z_in, z_low⟩ := List.mem_filter.1 z_mem
  have top : z.lower ≤ g.lower := greatest z z_in (by simpa using z_low)
  have same : g = z := by
    rw [← last, List.mem_append, List.mem_singleton] at inside
    rcases inside with before | same
    · rw [← last, List.pairwise_append] at pairs
      have below := pairs.2.2 g before z (by simp)
      omega
    · exact same
  rw [segmentFor, List.getLast?_eq_some_getLast (List.ne_nil_of_mem z_mem), getLast_eq, same]
  rfl

theorem pointVelocity_at {x : Rating} {r : Nat} (start : x.startRate ≤ r) : pointVelocity x r
    = ((clampInt 0 9999 (ratedVelocity x.segments r)).toNat, false,
        decide (clampInt 0 9999 (ratedVelocity x.segments r) ≠ ratedVelocity x.segments r)) :=
  if_neg (Nat.not_lt.2 start)

theorem pointVelocity_le (x : Rating) (r : Nat) : (pointVelocity x r).1 ≤ 9999 := by
  unfold pointVelocity
  split
  · exact Nat.zero_le _
  · have := (clampInt_range (low := 0) (high := 9999) (by omega) (ratedVelocity x.segments r)).2
    exact Int.toNat_le.2 this

/-- R134: the record of an exposure with a time, under the rating held. -/
theorem pointRecord_timed {s : State} {x : Rating} (rating : s.gauging.rating = some x) (n time : Nat) (short stalled : Bool) :
    (pointRecord s n (some time) short stalled).rate = some (revolutionRate x.ratio n time)
      ∧ ((pointRecord s n (some time) short stalled).velocity, (pointRecord s n (some time) short stalled).flags.belowStart,
          (pointRecord s n (some time) short stalled).flags.clampedV) = pointVelocity x (revolutionRate x.ratio n time) := by
  have held : ratingHeld s = x := by simp [ratingHeld, rating]
  constructor
  · simp only [pointRecord, held, Option.map_some]
  · simp only [pointRecord, held, Option.map_some]

/-- R134: the velocity at a fraction is that of any of its points, when they agree on it. -/
theorem velocityAt_eq {points : List PointRecord} {f : Fraction} {v : Nat} (stands : ∃ p ∈ points, p.fraction = f)
    (all : ∀ p ∈ points, p.fraction = f → p.velocity = v) : velocityAt points f = v := by
  obtain ⟨p, mem, at_⟩ := stands
  rcases found : points.find? fun p => p.fraction == f with _ | q
  · exact absurd (List.find?_eq_none.1 found p mem) (by simp [at_])
  · have q_at := List.find?_some found
    rw [velocityAt, found]
    exact all q (List.mem_of_find?_eq_some found) (by simpa using q_at)

/-- Settles O51: the velocity of a point, and the mean velocity of a vertical. -/
theorem velocity : Obligations.Velocity := by
  unfold Obligations.Velocity
  refine ⟨⟨fun ratio contacts time pos => divHalfUp_error _ pos, fun x r below => if_pos below, ?_, pointVelocity_le,
    fun s x n time short stalled rating => ⟨_, rfl, pointRecord_timed rating n time short stalled⟩⟩, ?_⟩
  · intro x r g start rise mem low greatest
    have rated : ratedVelocity x.segments r = g.intercept + (divHalfUp (g.pitch * r) 1000000 : Nat) := by
      rw [ratedVelocity, segmentFor_eq rise mem low greatest]
    obtain ⟨lower, upper⟩ := divHalfUp_error (g.pitch * r) (b := 1000000) (by decide)
    refine ⟨_, _, lower, upper, rfl, fun negative => ?_, fun least most => ?_, fun above => ?_⟩
    · have clamped : clampInt 0 9999 (ratedVelocity x.segments r) = 0 := by
        unfold clampInt
        omega
      rw [pointVelocity_at start, clamped, rated]
      simp only [ne_eq, Int.toNat_zero, Prod.mk.injEq, true_and, decide_eq_true_eq]
      omega
    · rw [pointVelocity_at start, rated, clampInt_of_range ⟨least, most⟩]
      exact ⟨Int.toNat_of_nonneg least, by simp⟩
    · have clamped : clampInt 0 9999 (ratedVelocity x.segments r) = 9999 := by
        unfold clampInt
        omega
      rw [pointVelocity_at start, clamped, rated]
      simp only [ne_eq, Prod.mk.injEq, true_and, decide_eq_true_eq]
      exact ⟨rfl, by omega⟩
  · intro e points v measured
    have at_ (f : Fraction) (mem : f ∈ fractions e.method) : velocityAt points f = v f := by
      obtain ⟨stands, all⟩ := measured f (by revert mem; cases e.method <;> exact id)
      exact velocityAt_eq stands all
    refine ⟨fun method => ?_, fun method => ?_, fun method => ?_, fun method => ?_, fun method k given => ?_⟩
    · simp only [meanVelocity, method]
    · rw [method] at at_
      simp only [meanVelocity, method, at_ .six (by decide)]
    · rw [method] at at_
      simp only [meanVelocity, method, at_ .two (by decide), at_ .eight (by decide)]
      have := divHalfUp_error (v .two + v .eight) (b := 2) (by decide)
      omega
    · rw [method] at at_
      simp only [meanVelocity, method, at_ .two (by decide), at_ .six (by decide), at_ .eight (by decide)]
      have := divHalfUp_error (v .two + 2 * v .six + v .eight) (b := 4) (by decide)
      omega
    · rw [method] at at_
      simp only [meanVelocity, method, given, Option.getD_some, at_ .surface (by decide)]
      have := divHalfUp_error (k * v .surface) (b := 1000) (by decide)
      omega

/-- Settles O52: the meter depth of a point. -/
theorem meterDepth_holds : Obligations.MeterDepth := by
  unfold Obligations.MeterDepth
  refine ⟨fun depth offset => rfl, fun f depth offset n fraction => ?_⟩
  have taken : meterDepth f depth offset
      = if depth - offset < divHalfUp (depth * n) 10 then (depth - offset, true) else (divHalfUp (depth * n) 10, false) := by
    rcases fraction with ⟨rfl, rfl⟩ | ⟨rfl, rfl⟩ | ⟨rfl, rfl⟩ <;> rfl
  have error := divHalfUp_error (depth * n) (b := 10) (by decide)
  rw [taken]
  exact ⟨divHalfUp (depth * n) 10, by omega, by omega, fun within => if_neg (by omega), fun above => if_pos above⟩

end Sys2Proof.Machine

namespace Sys2Proof.Machine

/-! ## One walk over the run and its carriage (R112 to R140), by what it may touch -/

/-- A property that the run and the carriage keep: they touch the carriage, the run record and the marks of the time base,
and they raise MOTION_FAULT, RUN_PROGRESS and RUN_END. -/
structure RunLeaves (P : State → Prop) : Prop where
  cable : ∀ {s} x, P s → P (s.setCable x)
  run : ∀ {s} x, P s → P (s.setRun x)
  time : ∀ {s} x, P s → P (s.setTime x)
  told : ∀ {s} src c, P s → src = .motionFault ∨ src = .runProgress ∨ src = .runEnd → P (raise src c s)

namespace RunLeaves

variable {P : State → Prop} {s t : State}

theorem setDrive (k : RunLeaves P) (h : P s) (d : Option Drive) : P (setDrive d s) := by
  unfold Machine.setDrive
  split
  · exact h
  · exact k.cable _ h

theorem storeVertical (k : RunLeaves P) (h : P s) (r : Option SkipReason) : P (storeVertical r s) :=
  k.told .runProgress _ (k.run _ h) (by simp)

theorem completeRun (k : RunLeaves P) (h : P s) (o : ReturnOutcome) : P (completeRun o s) :=
  k.told .runEnd _ (k.run _ h) (by simp)

theorem endAbortedReturn (k : RunLeaves P) (h : P s) (o : ReturnOutcome) : P (endAbortedReturn o s) :=
  k.told .runEnd _ (k.run _ h) (by simp)

theorem abandonExposure (k : RunLeaves P) (h : P s) : P (abandonExposure s) := by
  unfold Machine.abandonExposure
  split
  · exact h
  · exact k.time _ (k.run _ h)

theorem abortCore (k : RunLeaves P) (h : P s) (r : AbortReason) : P (abortCore r s) := by
  unfold Machine.abortCore
  dsimp only
  have abandoned := fun x => k.abandonExposure (k.run x h)
  refine k.run _ ?_
  split
  · exact abandoned _
  · exact abandoned _
  · exact k.storeVertical (abandoned _) _

theorem sequencerFault (k : RunLeaves P) (h : P s) : P (sequencerFault s) := by
  unfold Machine.sequencerFault
  split
  · exact k.endAbortedReturn (k.abortCore h _) _
  · exact k.completeRun h _
  · split
    · exact k.endAbortedReturn h _
    · exact h
  · exact h

theorem takeFault (k : RunLeaves P) (h : P s) (c : FaultCause) : P (takeFault c s) :=
  k.told .motionFault _ (k.sequencerFault (k.cable _ h)) (by simp)

/-! ### What the sequencer takes -/

theorem setVertical (k : RunLeaves P) (h : P s) (v : InVertical) : P (setVertical v s) := k.run _ h

theorem placeNext (k : RunLeaves P) (h : P s) : P (placeNext s).1 := by
  unfold Machine.placeNext
  dsimp only
  split <;> exact k.run _ (k.run _ h)

theorem markSkipped (k : RunLeaves P) (h : P s) (r : SkipReason) : P (markSkipped r s).1 := k.run _ (k.run _ h)

theorem judgeDepth (k : RunLeaves P) (h : P s) : P (judgeDepth s).1 := by
  unfold Machine.judgeDepth
  split
  · exact k.markSkipped h _
  · exact k.placeNext (k.run _ h)

theorem goOn (k : RunLeaves P) (h : P s) : P (goOn s).1 := by
  unfold Machine.goOn
  dsimp only
  split
  · exact k.run _ h
  · exact k.run _ (k.run _ h)

theorem takeArrived (k : RunLeaves P) (h : P s) (p : Int) : P (takeArrived p s).1 := by
  unfold Machine.takeArrived
  dsimp only
  split
  · exact k.goOn (k.storeVertical (k.run _ h) _)
  · split
    · exact k.goOn (k.storeVertical (k.run _ h) _)
    · exact k.run _ (k.run _ h)

theorem takePointReady (k : RunLeaves P) (h : P s) (d : Int) (b : Bool) : P (takePointReady d b s).1 :=
  k.time _ (k.run _ (k.run _ h))

theorem sequencerTakes (k : RunLeaves P) (h : P s) (c : Completion) : P (sequencerTakes c s).1 := by
  unfold Machine.sequencerTakes
  split
  case h_1 => exact k.takeArrived h _
  case h_2 => exact k.judgeDepth (k.setVertical h _)
  case h_3 => exact k.judgeDepth (k.setVertical h _)
  case h_4 => exact k.markSkipped (k.setVertical h _) _
  case h_5 => exact k.takePointReady h _ _
  case h_6 => exact k.goOn (k.storeVertical h _)
  case h_7 => exact k.completeRun h _
  case h_8 =>
    split
    · exact k.endAbortedReturn h _
    · exact h
  case h_9 => exact h

theorem endExposure (k : RunLeaves P) (h : P s) (r : PointRecord) : P (endExposure r s).1 :=
  k.placeNext (k.run _ (k.time _ (k.run _ h)))

theorem contactTaken (k : RunLeaves P) (h : P s) (e : Exposure) : P (contactTaken e s).1 := by
  unfold Machine.contactTaken
  dsimp only
  split
  · exact h
  · split
    · exact k.run _ h
    · split
      · exact k.endExposure h _
      · exact k.run _ h

theorem lateLimitEnds (k : RunLeaves P) (h : P s) : P (lateLimitEnds s).1 := by
  unfold Machine.lateLimitEnds
  split
  · split_ifs
    · exact k.endExposure h _
    · exact k.endExposure h _
    · exact h
  · exact h

theorem startWaitEnds (k : RunLeaves P) (h : P s) : P (startWaitEnds s).1 := by
  unfold Machine.startWaitEnds
  split
  · exact k.endExposure h _
  · exact h

/-! ### What the controller takes -/

theorem reachHome (k : RunLeaves P) (h : P s) : P (reachHome s) := k.cable _ (k.setDrive h _)

theorem arrive (k : RunLeaves P) (h : P s) : P (arrive s).1 := k.cable _ (k.setDrive h _)

theorem driveToTarget (k : RunLeaves P) (h : P s) (n : Nat) : P (driveToTarget n s).1 := by
  unfold Machine.driveToTarget
  split
  · exact k.arrive h
  · split_ifs
    · exact k.arrive (k.cable _ h)
    · exact k.takeFault (k.setDrive h _) _
    · exact k.setDrive h _
    · exact k.takeFault (k.setDrive h _) _
    · exact k.setDrive h _

theorem pursue (k : RunLeaves P) (h : P s) : P (pursue s).1 := by
  unfold Machine.pursue
  split
  case h_1 =>
    split_ifs
    · exact k.setDrive h _
    · exact k.reachHome h
    · exact k.setDrive h _
  case h_2 =>
    split_ifs
    · exact k.setDrive h _
    · exact k.reachHome h
    · exact k.setDrive h _
  case h_3 =>
    split_ifs
    · exact k.setDrive h _
    · exact k.driveToTarget h _
  case h_4 => exact h

theorem judgeDepthLimit (k : RunLeaves P) (h : P s) : P (judgeDepthLimit s) := by
  unfold Machine.judgeDepthLimit
  split
  · exact k.takeFault h _
  · exact h

theorem enterSeek (k : RunLeaves P) (h : P s) : P (enterSeek s) := by
  unfold Machine.enterSeek
  split
  · exact k.cable _ (k.setDrive h _)
  · exact k.judgeDepthLimit (k.setDrive (k.cable _ h) _)

theorem surfaceFound (k : RunLeaves P) (h : P s) (m : SoundMode) : P (surfaceFound m s).1 := by
  cases m with
  | full => exact k.enterSeek (k.cable _ h)
  | surface => exact k.setDrive (k.cable _ h) _

theorem takeSound (k : RunLeaves P) (h : P s) (m : SoundMode) : P (takeSound m s).1 := by
  have begun : P (beginSound m s) := k.setDrive (k.cable _ h) _
  unfold Machine.takeSound
  dsimp only
  split_ifs
  · exact k.surfaceFound begun _
  · exact k.takeFault begun _
  · exact begun

theorem enterAtPoint (k : RunLeaves P) (h : P s) (b : Bool) : P (enterAtPoint b s) := k.cable _ (k.setDrive h _)

theorem takeToPoint (k : RunLeaves P) (h : P s) (n : Int) : P (takeToPoint n s) := by
  have moved : P (Machine.setMotion (.toPoint n) (s.setCable { s.cable with hold := none, settle := none })) :=
    k.cable _ (k.cable _ h)
  unfold Machine.takeToPoint
  dsimp only
  split
  · exact k.setDrive moved _
  · split_ifs
    · exact k.enterAtPoint moved _
    · exact k.enterAtPoint moved _
    · exact k.judgeDepthLimit (k.setDrive moved _)
    · exact k.setDrive moved _

theorem endRaise (k : RunLeaves P) (h : P s) : P (endRaise s).1 := k.cable _ (k.setDrive h _)

theorem stillCarriage (k : RunLeaves P) (h : P s) : P (stillCarriage s) := k.cable _ (k.setDrive h _)

theorem beginRaise (k : RunLeaves P) (h : P s) : P (beginRaise s).1 := by
  unfold Machine.beginRaise
  dsimp only
  split
  · exact k.endRaise (k.cable _ (k.stillCarriage h))
  · exact k.setDrive (k.cable _ (k.stillCarriage h)) _

theorem beginRetract (k : RunLeaves P) (h : P s) : P (beginRetract s).1 := k.pursue (k.cable _ (k.stillCarriage h))

theorem cablewayTakes (k : RunLeaves P) (h : P s) (o : Order) : P (cablewayTakes o s).1 := by
  have travels (n : Nat) :
      P (if withinTolerance s.cable n then Machine.arrive s else Machine.pursue (setMotion (.travelling n) s)).1 := by
    split
    · exact k.arrive h
    · exact k.pursue (k.cable _ h)
  have places_ (n : Int) (c : Prop) [Decidable c] : P (if c then (Machine.takeToPoint n s, none) else (s, none)
      : State × Option Completion).1 := by
    split
    · exact k.takeToPoint h n
    · exact h
  unfold Machine.cablewayTakes
  split
  case h_1 => exact travels _
  case h_2 => exact travels _
  case h_3 => exact k.takeSound h _
  case h_4 => exact places_ _ _
  case h_5 => exact places_ _ _
  case h_6 => exact k.takeToPoint h _
  case h_7 | h_8 | h_9 | h_10 => exact k.beginRaise h
  case h_17 => exact k.beginRetract h
  all_goals exact h

theorem settleOrders (k : RunLeaves P) (n : Nat) (c : Option Completion) (h : P s) : P (settleOrders n c s) := by
  induction n generalizing c s with
  | zero => exact h
  | succ n ih =>
    cases c with
    | none => exact h
    | some c =>
      have taken := k.sequencerTakes h c
      unfold Machine.settleOrders
      split
      case h_1 next =>
        rw [next] at taken
        exact taken
      case h_2 next =>
        rw [next] at taken
        exact ih _ (k.cablewayTakes taken _)

theorem handCompletion (k : RunLeaves P) {p : State × Option Completion} (h : P p.1) : P (handCompletion p) :=
  k.settleOrders _ _ h

theorem handOrder (k : RunLeaves P) {p : State × Option Order} (h : P p.1) : P (handOrder p) := by
  unfold Machine.handOrder
  split
  · exact h
  · exact k.handCompletion (k.cablewayTakes h _)

theorem abortRun (k : RunLeaves P) (h : P s) (r : AbortReason) : P (abortRun r s) :=
  k.handOrder (p := (_, some .retract)) (k.run _ (k.abortCore h r))

theorem judgeWithdraw (k : RunLeaves P) (h : P s) : P (judgeWithdraw s) := by
  unfold Machine.judgeWithdraw
  split
  · exact k.abortRun h _
  · exact h

theorem judgeAutonomy (k : RunLeaves P) (h : P s) : P (judgeAutonomy s) := by
  unfold Machine.judgeAutonomy
  split
  · exact k.abortRun h _
  · exact h

theorem startRun (k : RunLeaves P) (h : P s) : P (startRun s) := by
  have begun : P (beginRun s) := k.handOrder (k.run _ h)
  unfold Machine.startRun
  split
  · exact k.judgeAutonomy begun
  · exact begun

theorem skipVertical (k : RunLeaves P) (h : P s) : P (skipVertical s) := by
  unfold Machine.skipVertical
  split
  · exact k.run _ h
  · exact k.handOrder (k.markSkipped (k.abandonExposure h) _)

end RunLeaves

end Sys2Proof.Machine

namespace Sys2Proof.Machine

/-! ## What a part of an event raises, where nothing can be handed over (R150, R152) -/

/-- R150, R152: while the host link is not ready, the notices of the listed sources alone are raised from `s` to `t`:
the link stands, and of the dispatcher only their slots change. -/
def RaisesOnly (sources : List NoticeSource) (s t : State) : Prop :=
  linkReady s = false → t.link = s.link ∧ t.notices = { s.notices with slots := t.notices.slots }
    ∧ ∀ src, src ∉ sources → t.notices.slots[sourcePlace src] = s.notices.slots[sourcePlace src]

/-- The sources that the run and the carriage raise. -/
def runSources : List NoticeSource := [.motionFault, .runProgress, .runEnd]

/-- The sources that a level change raises (R91, R92, R139, R173). -/
def levelSources : List NoticeSource := .warning :: .quietWake :: runSources

/-- The sources that a vote or an append raises: a level change and STAGE_QUALITY (R69, R77, R88). -/
def voteSources : List NoticeSource := .stageQuality :: levelSources

theorem linkReady_of_occupied {s : State} (occupied : s.link.notice ≠ none) : linkReady s = false := by
  rw [← Bool.not_eq_true, linkReady_iff]
  exact fun ready => occupied ready.1

namespace RaisesOnly

variable {l l' : List NoticeSource} {s t u : State}

theorem refl (l : List NoticeSource) (s : State) : RaisesOnly l s s := fun _ => ⟨rfl, rfl, fun _ _ => rfl⟩

theorem trans (h : RaisesOnly l s t) (k : RaisesOnly l t u) : RaisesOnly l s u := by
  intro unready
  obtain ⟨link, notices, slots⟩ := h unready
  obtain ⟨link', notices', slots'⟩ := k (by simpa [linkReady, link] using unready)
  refine ⟨link'.trans link, ?_, fun src out => (slots' src out).trans (slots src out)⟩
  rw [notices', notices]

theorem mono (h : RaisesOnly l s t) (sub : l ⊆ l') : RaisesOnly l' s t := by
  intro unready
  obtain ⟨link, notices, slots⟩ := h unready
  exact ⟨link, notices, fun src out => slots src fun mem => out (sub mem)⟩

theorem ofSame (link : t.link = s.link) (notices : t.notices = s.notices) : RaisesOnly l s t :=
  fun _ => ⟨link, by rw [notices], fun _ _ => by rw [notices]⟩

/-- A change of the other blocks goes before. -/
theorem after (h : RaisesOnly l t u) (link : t.link = s.link := by rfl) (notices : t.notices = s.notices := by rfl) :
    RaisesOnly l s u := trans (ofSame link notices) h

theorem fillSlot {src : NoticeSource} (mem : src ∈ l) (c : List Field) (s : State) : RaisesOnly l s (fillSlot src c s) := by
  intro unready
  have filled : Machine.fillSlot src c s = s.setNotices
      { s.notices with slots := s.notices.slots.set (sourcePlace src) (some (raisedSlot src (slotOf s src) c)) } :=
    dispatch_of_unready unready
  rw [filled]
  refine ⟨rfl, rfl, fun src' out => ?_⟩
  have apart : (sourcePlace src).val ≠ (sourcePlace src').val := by
    intro same
    rw [sourcePlace_injective (Fin.ext same)] at mem
    exact out mem
  simp [apart]

theorem wake (mem : .quietWake ∈ l) (r : WakeReason) (s : State) : RaisesOnly l s (wake r s) := by
  unfold Machine.wake
  split
  · exact after (t := s.setSupervisor { s.supervisor with quiet := .woken, wakeOutput := true })
      ((fillSlot mem _ _).trans (ofSame (monitorWoken_link _) (monitorWoken_notices _)))
  · exact refl l s

theorem raise {src : NoticeSource} (mem : src ∈ l) (wakes : sourceNumber src ≤ 3 → .quietWake ∈ l) (c : List Field)
    (s : State) : RaisesOnly l s (raise src c s) := by
  unfold Machine.raise
  dsimp only
  split
  case isTrue low => exact (fillSlot mem _ _).trans (wake (wakes low.1) _ _)
  case isFalse => exact fillSlot mem _ _

theorem runLeaves (sub : runSources ⊆ l) (s : State) : RunLeaves (RaisesOnly l s) where
  cable x h := h.trans (ofSame rfl rfl)
  run x h := h.trans (ofSame rfl rfl)
  time x h := h.trans (ofSame rfl rfl)
  told src c h runs := by
    refine h.trans (raise (sub ?_) (fun low => ?_) c _)
    · rcases runs with rfl | rfl | rfl <;> simp [runSources]
    · rcases runs with rfl | rfl | rfl <;> exact absurd low (by decide)

/-! ### A level change (R91) -/

theorem requestWarn (l : List NoticeSource) (s : State) : RaisesOnly l s (requestWarn s) :=
  ofSame (requestWarn_link s) (requestWarn_notices s)

theorem silenceSiren (l : List NoticeSource) (s : State) : RaisesOnly l s (silenceSiren s) := by
  unfold Machine.silenceSiren
  split
  · exact after (requestWarn l (setSiren .off s))
  · exact ofSame rfl rfl

theorem judgeSiren (l : List NoticeSource) (old new : Nat) (s : State) : RaisesOnly l s (judgeSiren old new s) := by
  unfold Machine.judgeSiren
  split
  · exact silenceSiren l s
  · split
    · split
      · exact ofSame rfl rfl
      · exact after (requestWarn l (s.setWarning _))
    · exact refl l s

theorem raiseSpell (l : List NoticeSource) (n : Nat) (s : State) : RaisesOnly l s (raiseSpell n s) := by
  unfold Machine.raiseSpell
  split
  · exact ofSame rfl rfl
  · exact refl l s

theorem changeLevel (sub : levelSources ⊆ l) {ask : State → State} (asks : ∀ x, RaisesOnly l x (ask x)) (c : LevelCause)
    (n : Nat) (s : State) : RaisesOnly l s (changeLevel ask c n s) := by
  have told : RaisesOnly l s (Machine.raiseSpell n (Machine.judgeSiren s.warning.level n (placeLevel c n s))) :=
    after ((judgeSiren l _ _ (placeLevel c n s)).trans (raiseSpell l _ _))
  have withdraws : RunLeaves (RaisesOnly l s) := runLeaves (fun src mem => sub (by simp [levelSources, mem])) s
  refine trans (withdraws.judgeWithdraw ((trans ?_ (asks _)).trans (requestWarn l _))) (wake (sub (by decide)) _ _)
  exact told.trans (raise (sub (by decide)) (fun _ => sub (by decide)) _ _)

theorem recompute (sub : levelSources ⊆ l) {ask : State → State} (asks : ∀ x, RaisesOnly l x (ask x))
    (before : Vector Rule 8) (forced : Option LevelCause) (s : State) : RaisesOnly l s (recompute ask before forced s) := by
  unfold Machine.recompute
  dsimp only
  split
  · exact refl l s
  · exact changeLevel sub asks _ _ _

/-! ### Hand-overs, appends and votes (R69, R77, R85) -/

theorem raiseStageQuality (mem : .stageQuality ∈ l) (c : QualityCause) (s : State) :
    RaisesOnly l s (raiseStageQuality c s) := raise mem (fun low => absurd low (by decide)) _ _

theorem reportBlind (mem : .stageQuality ∈ l) (changed : Bool) (s : State) : RaisesOnly l s (reportBlind changed s) := by
  unfold Machine.reportBlind
  split
  · exact raiseStageQuality mem _ s
  · exact refl l s

theorem handInput (sub : voteSources ⊆ l) {ask : State → State} (asks : ∀ x, RaisesOnly l x (ask x)) (kind : RuleKind)
    (input : Option Int) (s : State) : RaisesOnly l s (handInput ask kind input s) := by
  have level : levelSources ⊆ l := fun src mem => sub (by simp [voteSources, mem])
  refine trans ?_ (reportBlind (sub (by decide)) _ _)
  exact after (recompute level asks _ _ (s.setWarning _))

theorem handRate (sub : voteSources ⊆ l) {ask : State → State} (asks : ∀ x, RaisesOnly l x (ask x)) (rate : Option Int)
    (s : State) : RaisesOnly l s (handRate ask rate s) := by
  cases rate with
  | some v => exact (handInput sub asks _ _ s).trans (wake (sub (by decide)) _ _)
  | none => exact handInput sub asks _ _ s

theorem handStage (sub : voteSources ⊆ l) {ask : State → State} (asks : ∀ x, RaisesOnly l x (ask x)) (stage : Option Int)
    (s : State) : RaisesOnly l s (handStage ask stage s) := by
  cases stage with
  | some v => exact (handInput sub asks _ _ s).trans (wake (sub (by decide)) _ _)
  | none => exact handInput sub asks _ _ s

theorem queueAppend (l : List NoticeSource) (k : Append) (s : State) : RaisesOnly l s (queueAppend k s) := ofSame rfl rfl

theorem append (sub : voteSources ⊆ l) (k : Append) (s : State) : RaisesOnly l s (append k s) :=
  after (handRate sub (fun x => queueAppend l .event x) _ (joinRing k s))

theorem requestAppend (sub : voteSources ⊆ l) (k : Append) (s : State) : RaisesOnly l s (requestAppend k s) := by
  unfold Machine.requestAppend
  split
  · exact append sub k s
  · exact queueAppend l k s

theorem askEvent (sub : voteSources ⊆ l) (s : State) : RaisesOnly l s (askEvent s) := requestAppend sub .event s

theorem handVote (sub : voteSources ⊆ l) (before : StageUnit) (s : State) : RaisesOnly l s (handVote before s) := by
  have updated : RaisesOnly l s
      (if s.stage.stage = before.stage then s else Machine.handStage Machine.askEvent s.stage.stage s) := by
    split
    · exact refl l s
    · exact handStage sub (askEvent sub) _ s
  unfold Machine.handVote
  dsimp only
  split
  · exact updated.trans (raiseStageQuality (sub (by decide)) _ _)
  · exact updated

theorem runVote (sub : voteSources ⊆ l) (s : State) : RaisesOnly l s (runVote s) :=
  after (handVote sub s.stage (s.setStage (voted (ranksOf s) s.stage)))

theorem handChannel (sub : voteSources ⊆ l) (i : Fin 4) (s : State) : RaisesOnly l s (handChannel i s) :=
  after (runVote sub (s.setStage _))

/-! ### What it says of a slot -/

/-- A source that is not raised is untold. -/
theorem untold {src : NoticeSource} (h : RaisesOnly l s t) (out : src ∉ l) : s.Untold t src :=
  fun occupied => (h (linkReady_of_occupied occupied)).2.2 src out

theorem occupied (h : RaisesOnly l s t) (occupied : s.link.notice ≠ none) : t.link.notice ≠ none := by
  rw [(h (linkReady_of_occupied occupied)).1]
  exact occupied

end RaisesOnly

end Sys2Proof.Machine

namespace Sys2Proof.Machine

/-! ## A level change around its event record (R91) -/

/-- R91, steps 1 to 4: the level, the siren, the spell and the notice, before the event record is asked for. -/
def levelTold (cause : LevelCause) (new : Nat) (s : State) : State :=
  raise .warning
    (warningContent s.warning.level new cause (raiseSpell new (judgeSiren s.warning.level new (placeLevel cause new s))))
    (raiseSpell new (judgeSiren s.warning.level new (placeLevel cause new s)))

/-- R91, steps 6 to 9: the WARN request, the run and the supervisor, after the event record. -/
def levelSettled (new : Nat) (s : State) : State := wake (.levelChange new) (judgeWithdraw (requestWarn s))

theorem changeLevel_eq (ask : State → State) (cause : LevelCause) (new : Nat) (s : State) :
    changeLevel ask cause new s = levelSettled new (ask (levelTold cause new s)) := rfl

namespace sameBut

variable {a b : WarningUnit}

theorem rules (h : sameBut a b) : b.rules = a.rules := (congrArg WarningUnit.rules h).symm
theorem floor (h : sameBut a b) : b.floor = a.floor := (congrArg WarningUnit.floor h).symm
theorem level (h : sameBut a b) : b.level = a.level := (congrArg WarningUnit.level h).symm
theorem stageInput (h : sameBut a b) : b.stageInput = a.stageInput := (congrArg WarningUnit.stageInput h).symm
theorem rateInput (h : sameBut a b) : b.rateInput = a.rateInput := (congrArg WarningUnit.rateInput h).symm
theorem settings (h : sameBut a b) : b.settings = a.settings := (congrArg WarningUnit.settings h).symm
theorem autonomous (h : sameBut a b) : b.autonomous = a.autonomous := (congrArg WarningUnit.autonomous h).symm
theorem siren (h : sameBut a b) : b.siren = a.siren := (congrArg WarningUnit.siren h).symm
theorem spell (h : sameBut a b) : b.spell = a.spell := (congrArg WarningUnit.spell h).symm
theorem lastChange (h : sameBut a b) : b.lastChange = a.lastChange := (congrArg WarningUnit.lastChange h).symm
theorem beaconA (h : sameBut a b) : b.beaconA = a.beaconA := (congrArg WarningUnit.beaconA h).symm
theorem beaconB (h : sameBut a b) : b.beaconB = a.beaconB := (congrArg WarningUnit.beaconB h).symm

end sameBut

/-! ### The siren judged (R94) -/

/-- R94: a level change starts the siren. -/
def sirenStarts (old new : Nat) (w : WarningUnit) : Bool :=
  decide (old < new) && decide (w.settings.sirenLevel ≤ new)
    && (match w.siren with
      | .sounding _ => false
      | _ => true)

/-- R94: a level change stops the siren. -/
def sirenStops (new : Nat) (w : WarningUnit) : Bool :=
  decide (new < w.settings.sirenLevel)
    && (match w.siren with
      | .sounding _ => true
      | _ => false)

/-- R94, R100: the warning unit after its siren has been judged against a level change. -/
def judgedWarning (old new : Nat) (now : Nat) (w : WarningUnit) : WarningUnit :=
  { w with
    siren := if new < w.settings.sirenLevel then .off
      else if old < new then .sounding (now + w.settings.sirenRun * 1000) else w.siren
    spell := if sirenStarts old new w && w.autonomous then
        w.spell.map fun p => { p with sirenStarts := countUp 255 p.sirenStarts }
      else w.spell }

theorem judgeSiren_eq (old new : Nat) (s : State) : judgeSiren old new s
    = if sirenStarts old new s.warning || sirenStops new s.warning
      then requestWarn (s.setWarning (judgedWarning old new s.now s.warning))
      else s.setWarning (judgedWarning old new s.now s.warning) := by
  unfold judgeSiren silenceSiren
  by_cases low : new < s.warning.settings.sirenLevel
  · have above : ¬ s.warning.settings.sirenLevel ≤ new := Nat.not_le.2 low
    cases siren : s.warning.siren <;>
      simp [low, above, sirenStarts, sirenStops, judgedWarning, siren, stopSiren, setSiren]
  · have above : s.warning.settings.sirenLevel ≤ new := Nat.not_lt.1 low
    by_cases rise : old < new
    · cases siren : s.warning.siren <;>
        simp [low, above, rise, sirenStarts, sirenStops, judgedWarning, siren, startSiren, setSiren, sirenRunEnd]
    · simp [low, rise, sirenStarts, sirenStops, judgedWarning]
      rfl

/-- R91, steps 1 to 4: the warning unit once the level stands and the siren and the spell have followed it. -/
def levelledWarning (cause : LevelCause) (new : Nat) (s : State) : WarningUnit :=
  let judged := judgedWarning s.warning.level new s.now (placeLevel cause new s).warning
  { judged with
    spell := if s.warning.autonomous then judged.spell.map fun p => { p with highest := max p.highest new }
      else judged.spell }

/-- R39: a WARN request touches the field line alone. -/
theorem requestWarn_eq (s : State) : requestWarn s = s.setField (requestWarn s).field := by
  unfold requestWarn arbitrate
  split
  · rfl
  · rfl

/-- R28, R39: on a FREE transmitter the WARN is chosen at once. -/
theorem requestWarn_free {s : State} (free : s.field.tx = .free) : (requestWarn s).field
    = { s.field with
        warn := .none, tx := .waitingIdle, deferral := some (s.now + 1500)
        transaction := some
          { kind := .warn s.warning.level, attempts := 0, backoffBits := s.field.settings.backoffBits
            singleAttempt := s.field.settings.singleAttempt, frame := warnFrame s } } := by
  have chosen : requestWarn s = chooseTransaction (.warn s.warning.level) (warnFrame s)
      (s.setField { s.field with warn := .none }) := by
    simp only [requestWarn, arbitrate, State.setField_field, free, if_true]
    rfl
  rw [chosen]
  rfl

/-- R39: otherwise the request stands. -/
theorem requestWarn_busy {s : State} (busy : s.field.tx ≠ .free) :
    (requestWarn s).field = { s.field with warn := .standing } := by
  have still : requestWarn s = s.setField { s.field with warn := .standing } := arbitrate_busy (s.setField _) busy
  rw [still]
  rfl

/-- R91, steps 3 and 4: the field line after the siren has been judged. -/
def levelledField (cause : LevelCause) (new : Nat) (s : State) : FieldLine :=
  if sirenStarts s.warning.level new s.warning || sirenStops new s.warning then
    (requestWarn (s.setWarning (judgedWarning s.warning.level new s.now (placeLevel cause new s).warning))).field
  else s.field

/-- R91, steps 1 to 4, before WARNING is raised. -/
theorem levelled_eq (cause : LevelCause) (new : Nat) (s : State) :
    raiseSpell new (judgeSiren s.warning.level new (placeLevel cause new s))
      = (s.setField (levelledField cause new s)).setWarning (levelledWarning cause new s) := by
  have spelled (x : State) : raiseSpell new x = x.setWarning { x.warning with
      spell := if x.warning.autonomous then x.warning.spell.map fun p => { p with highest := max p.highest new }
        else x.warning.spell } := by
    unfold raiseSpell
    split <;> rfl
  rw [judgeSiren_eq, spelled]
  have starts : sirenStarts s.warning.level new (placeLevel cause new s).warning
      = sirenStarts s.warning.level new s.warning := rfl
  have stops : sirenStops new (placeLevel cause new s).warning = sirenStops new s.warning := rfl
  rw [starts, stops]
  unfold levelledField
  split
  · rw [requestWarn_eq]
    rfl
  · rfl

theorem levelTold_eq (cause : LevelCause) (new : Nat) (s : State) : levelTold cause new s
    = raise .warning
        (warningContent s.warning.level new cause
          ((s.setField (levelledField cause new s)).setWarning (levelledWarning cause new s)))
        ((s.setField (levelledField cause new s)).setWarning (levelledWarning cause new s)) := by
  rw [levelTold, levelled_eq]

section
variable (cause : LevelCause) (new : Nat) (s : State)

@[simp] theorem levelTold_time : (levelTold cause new s).time = s.time := by simp [levelTold_eq]
@[simp] theorem levelTold_now : (levelTold cause new s).now = s.now := by simp [State.now]
@[simp] theorem levelTold_channels : (levelTold cause new s).channels = s.channels := by simp [levelTold_eq]
@[simp] theorem levelTold_stage : (levelTold cause new s).stage = s.stage := by simp [levelTold_eq]
@[simp] theorem levelTold_cable : (levelTold cause new s).cable = s.cable := by simp [levelTold_eq]
@[simp] theorem levelTold_gauging : (levelTold cause new s).gauging = s.gauging := by simp [levelTold_eq]

theorem levelTold_warning : sameBut (levelledWarning cause new s) (levelTold cause new s).warning := by
  rw [levelTold_eq]
  exact raise_warning .warning _ ((s.setField (levelledField cause new s)).setWarning (levelledWarning cause new s))

@[simp] theorem levelTold_rules : (levelTold cause new s).warning.rules = s.warning.rules :=
  (levelTold_warning cause new s).rules

@[simp] theorem levelTold_floor : (levelTold cause new s).warning.floor = s.warning.floor :=
  (levelTold_warning cause new s).floor

theorem levelTold_raises : RaisesOnly levelSources s (levelTold cause new s) := by
  rw [levelTold_eq]
  exact (RaisesOnly.raise (src := .warning) (by decide) (fun _ => by decide) _ _).after

@[simp] theorem levelSettled_channels : (levelSettled new s).channels = s.channels := by
  rw [levelSettled, wake_channels, (RunOnly.judgeWithdraw _).channels, requestWarn_channels]

@[simp] theorem levelSettled_stage : (levelSettled new s).stage = s.stage := by
  rw [levelSettled, wake_stage, (RunOnly.judgeWithdraw _).stage, requestWarn_stage]

@[simp] theorem levelSettled_field : (levelSettled new s).field = (requestWarn s).field := by
  rw [levelSettled, wake_field, (RunOnly.judgeWithdraw _).field]

theorem levelSettled_time :
    (levelSettled new s).time = { s.time with exposureSpan := (levelSettled new s).time.exposureSpan } := by
  have run := (RunOnly.judgeWithdraw (requestWarn s)).time
  rw [requestWarn_time] at run
  rw [levelSettled, wake_time]
  exact run

theorem levelSettled_now : (levelSettled new s).now = s.now := by
  rw [State.now, levelSettled_time]
  rfl

theorem levelSettled_warning : sameBut s.warning (levelSettled new s).warning := by
  have run := (RunOnly.judgeWithdraw (requestWarn s)).warning
  rw [requestWarn_warning] at run
  have woken := wake_warning (.levelChange new) (judgeWithdraw (requestWarn s))
  rw [run] at woken
  exact woken

theorem levelSettled_raises : RaisesOnly levelSources s (levelSettled new s) :=
  ((RaisesOnly.runLeaves (by decide) s).judgeWithdraw (RaisesOnly.requestWarn _ s)).trans
    (RaisesOnly.wake (by decide) _ _)

end

/-! ### What only the event record can change (R89, R91) -/

/-- R91: a property that the steps around the event record keep stands over the level computed, when asking for the
record keeps it. -/
theorem recompute_keeps {ask : State → State} {P : State → Prop} (told : ∀ c n x, P x → P (levelTold c n x))
    (settled : ∀ n x, P x → P (levelSettled n x)) (asks : ∀ x, P x → P (ask x)) (before : Vector Rule 8)
    (forced : Option LevelCause) {s : State} (stands : P s) : P (recompute ask before forced s) := by
  unfold recompute
  dsimp only
  split
  · exact stands
  · rw [changeLevel_eq]
    exact settled _ _ (asks _ (told _ _ _ stands))

/-- A rule stands over the level computed, when asking for the event record leaves it. -/
theorem recompute_rule {ask : State → State} {i : Fin 8} {r : Rule}
    (asks : ∀ x : State, x.warning.rules[i] = r → (ask x).warning.rules[i] = r) (before : Vector Rule 8)
    (forced : Option LevelCause) {s : State} (stands : s.warning.rules[i] = r) :
    (recompute ask before forced s).warning.rules[i] = r :=
  recompute_keeps (P := fun x => x.warning.rules[i] = r) (fun c n x h => by rw [levelTold_rules, h])
    (fun n x h => by rw [(levelSettled_warning n x).rules, h]) asks before forced stands

end Sys2Proof.Machine

namespace Sys2Proof.Machine

/-! ## STAGE_QUALITY for a BLIND flag (R70, R88) -/

/-- R88: from `s` to `t`, which has the same quality, STAGE_QUALITY is raised with cause BLIND when a BLIND flag has
changed, and only then. -/
def State.BlindTold (s t : State) : Prop :=
  s.link.notice ≠ none →
    ((∃ i : Fin 8, t.warning.rules[i].blind ≠ s.warning.rules[i].blind) →
      ∃ x, t.notices.slots[sourcePlace .stageQuality] = some x ∧ x.content = t.qualitySnapshot false)
    ∧ ((∀ i : Fin 8, t.warning.rules[i].blind = s.warning.rules[i].blind) →
      t.notices.slots[sourcePlace .stageQuality] = s.notices.slots[sourcePlace .stageQuality])

theorem stageQualityContent_eq (c : QualityCause) (s : State) :
    stageQualityContent c s = s.qualitySnapshot (c == .quality) := by
  cases c <;> rfl

theorem qualitySnapshot_congr {s t : State} (stage : t.stage = s.stage) (rules : t.warning.rules = s.warning.rules)
    (now : t.now = s.now) (stationTime : t.time.stationTime = s.time.stationTime) (changed : Bool) :
    t.qualitySnapshot changed = s.qualitySnapshot changed := by
  simp only [State.qualitySnapshot, stage, rules, now, stationTime]

theorem levelSources_quiet : NoticeSource.stageQuality ∉ levelSources := by decide

namespace State.BlindTold

variable {s t u : State}

theorem before (h : t.BlindTold u) (raises : RaisesOnly levelSources s t)
    (blind : ∀ i : Fin 8, t.warning.rules[i].blind = s.warning.rules[i].blind) : s.BlindTold u := by
  intro occupied
  obtain ⟨told, untold⟩ := h (raises.occupied occupied)
  simp only [blind] at told untold
  exact ⟨told, fun same => (untold same).trans (raises.untold levelSources_quiet occupied)⟩

theorem after (h : s.BlindTold t) (raises : RaisesOnly levelSources t u) (keeps : s.link.notice ≠ none → t.link.notice ≠ none)
    (stage : u.stage = t.stage) (rules : u.warning.rules = t.warning.rules) (now : u.now = t.now)
    (stationTime : u.time.stationTime = t.time.stationTime) : s.BlindTold u := by
  intro occupied
  obtain ⟨told, untold⟩ := h occupied
  have slot := raises.untold levelSources_quiet (keeps occupied)
  rw [rules, slot, qualitySnapshot_congr stage rules now stationTime]
  exact ⟨told, untold⟩

theorem ofSame (slots : t.notices = s.notices) (rules : t.warning.rules = s.warning.rules) : s.BlindTold t := by
  intro _
  rw [rules, slots]
  exact ⟨fun ⟨i, differs⟩ => absurd rfl differs, fun _ => rfl⟩

/-- R91: a level change tells what its event record tells. -/
theorem changeLevel {ask : State → State} (asks : ∀ x : State, x.BlindTold (ask x))
    (raises : ∀ x, RaisesOnly voteSources x (ask x)) (cause : LevelCause) (new : Nat) (s : State) :
    s.BlindTold (changeLevel ask cause new s) := by
  rw [changeLevel_eq]
  have told := levelTold_raises cause new s
  have time := levelSettled_time new (ask (levelTold cause new s))
  refine ((asks _).before told (by simp)).after (levelSettled_raises _ _) (fun occupied => ?_) (levelSettled_stage _ _)
    (levelSettled_warning _ _).rules (levelSettled_now _ _) (by rw [time])
  exact (raises _).occupied (told.occupied occupied)

theorem recompute {ask : State → State} (asks : ∀ x : State, x.BlindTold (ask x))
    (raises : ∀ x, RaisesOnly voteSources x (ask x)) (before : Vector Rule 8) (forced : Option LevelCause) (s : State) :
    s.BlindTold (recompute ask before forced s) := by
  unfold Machine.recompute
  dsimp only
  split
  · exact ofSame rfl rfl
  · exact changeLevel asks raises _ _ s

end State.BlindTold

theorem blindDiffers_iff (a b : Vector Rule 8) : blindDiffers a b = true ↔ ∃ i : Fin 8, a[i].blind ≠ b[i].blind := by
  simp [blindDiffers, mem_places]

theorem blindDiffers_eq_false {a b : Vector Rule 8} (h : blindDiffers a b = false) (i : Fin 8) : b[i].blind = a[i].blind := by
  by_contra differs
  rw [(blindDiffers_iff a b).2 ⟨i, fun same => differs same.symm⟩] at h
  exact Bool.noConfusion h

/-- R88: what a STAGE_QUALITY with cause BLIND tells. -/
theorem reportBlind_told {s : State} (occupied : s.link.notice ≠ none) : ∃ x,
    (reportBlind true s).notices.slots[sourcePlace .stageQuality] = some x
      ∧ x.content = (reportBlind true s).qualitySnapshot false := by
  refine ⟨_, told_raise .stageQuality (stageQualityContent .blind s) s (by decide) occupied, ?_⟩
  have same := raise_warning .stageQuality (stageQualityContent .blind s) s
  show stageQualityContent .blind _ = _
  rw [stageQualityContent_eq]
  exact (qualitySnapshot_congr (raise_stage ..) same.rules (raise_now ..)
    (congrArg TimeBase.stationTime (raise_time ..)) false).symm

/-- R85, R88: rules change with the level computed and BLIND reported, where the level computed leaves the BLIND flags that
change. -/
theorem rulesChanged_blindTold {ask : State → State} (asks : ∀ x : State, x.BlindTold (ask x))
    (raises : ∀ x, RaisesOnly voteSources x (ask x)) (before : Vector Rule 8) (forced : Option LevelCause) (w : WarningUnit)
    (s : State)
    (stand : ∀ i : Fin 8, w.rules[i].blind ≠ s.warning.rules[i].blind →
      (recompute ask before forced (s.setWarning w)).warning.rules[i].blind = w.rules[i].blind) :
    s.BlindTold (reportBlind (blindDiffers s.warning.rules w.rules) (recompute ask before forced (s.setWarning w))) := by
  have raised : RaisesOnly voteSources s (recompute ask before forced (s.setWarning w)) :=
    (RaisesOnly.recompute (by decide) raises before forced (s.setWarning w)).after
  cases differs : blindDiffers s.warning.rules w.rules with
  | true =>
    obtain ⟨i, changed⟩ := (blindDiffers_iff _ _).1 differs
    have rule := stand i (Ne.symm changed)
    have same := raise_warning .stageQuality
      (stageQualityContent .blind (recompute ask before forced (s.setWarning w))) (recompute ask before forced (s.setWarning w))
    intro occupied
    refine ⟨fun _ => reportBlind_told (raised.occupied occupied), fun none_ => ?_⟩
    have stays := none_ i
    have rules : (reportBlind true (recompute ask before forced (s.setWarning w))).warning.rules
        = (recompute ask before forced (s.setWarning w)).warning.rules := same.rules
    rw [rules, rule] at stays
    exact absurd stays.symm changed
  | false =>
    exact (State.BlindTold.recompute asks raises before forced (s.setWarning w)).before (.ofSame rfl rfl)
      fun i => blindDiffers_eq_false differs i

/-- R85, R88: the event record of the level change leaves the rules whose BLIND flag changes. -/
theorem rulesJudged_blindTold {ask : State → State} (asks : ∀ x : State, x.BlindTold (ask x))
    (raises : ∀ x, RaisesOnly voteSources x (ask x)) (before : Vector Rule 8) (forced : Option LevelCause) (w : WarningUnit)
    (s : State)
    (stand : ∀ i : Fin 8, w.rules[i].blind ≠ s.warning.rules[i].blind →
      ∀ x : State, x.warning.rules[i] = w.rules[i] → (ask x).warning.rules[i] = w.rules[i]) :
    s.BlindTold (reportBlind (blindDiffers s.warning.rules w.rules) (recompute ask before forced (s.setWarning w))) :=
  rulesChanged_blindTold asks raises before forced w s fun i changed =>
    congrArg Rule.blind (recompute_rule (stand i changed) before forced rfl)

/-! ## What the event record of a level change can do to the rules (R73, R77, R85) -/

/-- R77, R85: from `s` to `t` either no record was appended and the rules stand, or one was and the enabled RATE rules have
been handed its rate. -/
def RateHanded (s t : State) : Prop :=
  (t.stage.nextSequence = s.stage.nextSequence ∧ t.warning.rules = s.warning.rules ∧ t.stage.rate = s.stage.rate
      ∧ t.stage.ring = s.stage.ring ∧ t.warning.rateInput = s.warning.rateInput)
    ∨ (t.stage.nextSequence = (s.stage.nextSequence + 1) % Config.sequences
      ∧ t.warning.rules = handRules .rate s.now t.stage.rate s.warning.rules ∧ t.warning.rateInput = t.stage.rate)

theorem next_ne (n : Nat) : (n + 1) % Config.sequences ≠ n := by
  unfold Config.sequences
  omega

/-- The rules and the inputs of the warning unit. -/
def State.judges (s : State) : Vector Rule 8 × Option Int × Option Int :=
  (s.warning.rules, s.warning.stageInput, s.warning.rateInput)

theorem judges_of_sameBut {s t : State} (h : sameBut s.warning t.warning) : t.judges = s.judges := by
  simp only [State.judges, h.rules, h.stageInput, h.rateInput]

theorem levelTold_judges (c : LevelCause) (n : Nat) (s : State) : (levelTold c n s).judges = s.judges :=
  (judges_of_sameBut (s := s.setWarning (levelledWarning c n s)) (levelTold_warning c n s)).trans rfl

theorem levelSettled_judges (n : Nat) (s : State) : (levelSettled n s).judges = s.judges :=
  judges_of_sameBut (levelSettled_warning n s)

theorem wake_judges (r : WakeReason) (s : State) : (wake r s).judges = s.judges := judges_of_sameBut (wake_warning r s)

theorem reportBlind_judges (b : Bool) (s : State) : (reportBlind b s).judges = s.judges := by
  unfold reportBlind
  split
  · exact judges_of_sameBut (raise_warning _ _ _)
  · rfl

@[simp] theorem reportBlind_stage (b : Bool) (s : State) : (reportBlind b s).stage = s.stage := by
  unfold reportBlind
  split
  · exact raise_stage ..
  · rfl

/-- R85: handing over a rate, where a level change only queues its event record: the enabled RATE rules are judged. -/
theorem handRate_queue (rate : Option Int) (s : State) :
    (handRate (queueAppend .event) rate s).judges = (handRules .rate s.now rate s.warning.rules, s.warning.stageInput, rate)
      ∧ ∃ more, (handRate (queueAppend .event) rate s).stage = { s.stage with waiting := s.stage.waiting ++ more } := by
  have handed : (handInput (queueAppend .event) .rate rate s).judges
        = (handRules .rate s.now rate s.warning.rules, s.warning.stageInput, rate)
      ∧ ∃ more, (handInput (queueAppend .event) .rate rate s).stage
        = { s.stage with waiting := s.stage.waiting ++ more } := by
    unfold handInput
    dsimp only
    rw [reportBlind_judges, reportBlind_stage]
    refine recompute_keeps
      (P := fun x => x.judges = (handRules .rate s.now rate s.warning.rules, s.warning.stageInput, rate)
        ∧ ∃ more, x.stage = { s.stage with waiting := s.stage.waiting ++ more })
      (fun c n x h => ?_) (fun n x h => ?_) (fun x h => ?_) _ _ ?_
    · rwa [levelTold_judges, levelTold_stage]
    · rwa [levelSettled_judges, levelSettled_stage]
    · obtain ⟨judges, more, stage⟩ := h
      refine ⟨judges, more ++ [.event], ?_⟩
      simp [queueAppend, stage]
    · exact ⟨rfl, [], by simp⟩
  cases rate with
  | some v =>
    rw [handRate, wake_judges, wake_stage]
    exact handed
  | none => exact handed

/-- R77: an append: the record joins the ring, its rate is handed on, and the event record of a level change by it
waits. -/
theorem append_effect (kind : Append) (s : State) :
    (append kind s).judges = (handRules .rate s.now (append kind s).stage.rate s.warning.rules, s.warning.stageInput,
        (append kind s).stage.rate)
      ∧ ∃ more, (append kind s).stage
        = { (joinRing kind s).stage with waiting := s.stage.waiting ++ more } := by
  obtain ⟨judges, more, stage⟩ := handRate_queue (joinRing kind s).stage.rate (joinRing kind s)
  have rate : (append kind s).stage.rate = (joinRing kind s).stage.rate := by
    show (handRate _ _ (joinRing kind s)).stage.rate = _
    rw [stage]
  exact ⟨by rw [rate]; exact judges, more, stage⟩

theorem requestAppend_rateHanded (kind : Append) (s : State) : RateHanded s (requestAppend kind s) := by
  unfold requestAppend
  split
  · obtain ⟨judges, more, stage⟩ := append_effect kind s
    exact .inr ⟨congrArg StageUnit.nextSequence stage, congrArg Prod.fst judges, congrArg (Prod.snd ∘ Prod.snd) judges⟩
  · exact .inl ⟨rfl, rfl, rfl, rfl, rfl⟩

namespace State.BlindTold

/-- R77, R88: the rate of a record reports what it has made BLIND, or no longer so. -/
theorem handRate_queue (rate : Option Int) (s : State) : s.BlindTold (handRate (queueAppend .event) rate s) := by
  have handed : s.BlindTold (handInput (queueAppend .event) .rate rate s) := by
    have quiet (x : State) : x.BlindTold (queueAppend .event x) := ofSame rfl rfl
    exact rulesJudged_blindTold (ask := queueAppend .event) quiet (RaisesOnly.queueAppend _ _) s.warning.rules none
      { setInput .rate rate s.warning with rules := handRules .rate s.now rate s.warning.rules } s
      fun i _ x stands => stands
  have raised : RaisesOnly voteSources s (handInput (queueAppend .event) .rate rate s) :=
    RaisesOnly.handInput (fun _ h => h) (fun x => RaisesOnly.queueAppend _ _ x) _ _ s
  cases rate with
  | some v =>
    rw [handRate]
    generalize handInput (queueAppend .event) .rate (some v) s = x at handed raised
    exact handed.after (RaisesOnly.wake (by decide) _ _) raised.occupied (wake_stage _ _) (wake_warning _ _).rules
      (congrArg TimeBase.runTime (wake_time _ _)) (congrArg TimeBase.stationTime (wake_time _ _))
  | none => exact handed

theorem requestAppend (kind : Append) (s : State) : s.BlindTold (requestAppend kind s) := by
  unfold Machine.requestAppend
  split
  · exact (handRate_queue _ (joinRing kind s)).before (RaisesOnly.ofSame rfl rfl) fun i => rfl
  · exact ofSame rfl rfl

end State.BlindTold

end Sys2Proof.Machine

namespace Sys2Proof.Machine

/-! ## A stage handed over (R69, R77, R85) -/

theorem changeLevel_rateHanded (cause : LevelCause) (new : Nat) (s : State) :
    RateHanded s (changeLevel askEvent cause new s) := by
  rw [changeLevel_eq]
  have asked := requestAppend_rateHanded .event (levelTold cause new s)
  have judges := levelSettled_judges new (askEvent (levelTold cause new s))
  have stood := levelTold_judges cause new s
  simp only [State.judges, Prod.mk.injEq] at judges stood
  obtain ⟨rules, -, rate⟩ := judges
  obtain ⟨rules', -, rate'⟩ := stood
  unfold RateHanded at *
  rw [levelSettled_stage, rules, rate]
  rw [levelTold_stage, levelTold_now, rules', rate'] at asked
  exact asked

/-- R77, R85, R89: the level computed, its event record appended, queued or not asked for. -/
theorem recompute_rateHanded (before : Vector Rule 8) (forced : Option LevelCause) (s : State) :
    RateHanded s (recompute askEvent before forced s) := by
  unfold recompute
  dsimp only
  split
  · exact .inl ⟨rfl, rfl, rfl, rfl, rfl⟩
  · exact changeLevel_rateHanded _ _ s

/-- R173: the supervisor is as it was, or has been woken. -/
def SupervisorWoken (x y : Supervisor) : Prop := y = x ∨ y = { x with quiet := .woken, wakeOutput := true }

namespace SupervisorWoken

variable {x : Supervisor} {s : State}

theorem wake (h : SupervisorWoken x s.supervisor) (r : WakeReason) : SupervisorWoken x (wake r s).supervisor := by
  unfold Machine.wake
  split
  · have filled : (fillSlot .quietWake (quietWakeContent s r)
        (s.setSupervisor { s.supervisor with quiet := .woken, wakeOutput := true })).supervisor
          = { s.supervisor with quiet := .woken, wakeOutput := true } := (RunOnly.fillSlot _ _ _).supervisor
    rw [monitorWoken_supervisor, filled]
    rcases h with same | woken
    · exact .inr (by rw [same])
    · exact .inr (by rw [woken])
  · exact h

theorem raise (h : SupervisorWoken x s.supervisor) (src : NoticeSource) (c : List Field) :
    SupervisorWoken x (raise src c s).supervisor := by
  have filled : (fillSlot src c s).supervisor = s.supervisor := (RunOnly.fillSlot _ _ _).supervisor
  unfold Machine.raise
  dsimp only
  split
  · exact wake (by rwa [filled]) _
  · rwa [filled]

theorem recompute {ask : State → State} (asks : ∀ y : State, SupervisorWoken x y.supervisor →
      SupervisorWoken x (ask y).supervisor) (before : Vector Rule 8) (forced : Option LevelCause)
    (h : SupervisorWoken x s.supervisor) : SupervisorWoken x (recompute ask before forced s).supervisor := by
  refine recompute_keeps (P := fun y => SupervisorWoken x y.supervisor) (fun c n y held => ?_) (fun n y held => ?_) asks
    before forced h
  · rw [levelTold_eq]
    exact raise (s := (y.setField (levelledField c n y)).setWarning (levelledWarning c n y)) held _ _
  · refine wake ?_ _
    rw [(RunOnly.judgeWithdraw _).supervisor, requestWarn_supervisor]
    exact held

theorem handInput {ask : State → State} (asks : ∀ y : State, SupervisorWoken x y.supervisor →
      SupervisorWoken x (ask y).supervisor) (kind : RuleKind) (input : Option Int)
    (h : SupervisorWoken x s.supervisor) : SupervisorWoken x (handInput ask kind input s).supervisor := by
  have computed (w : WarningUnit) := recompute (s := s.setWarning w) asks s.warning.rules none h
  unfold Machine.handInput reportBlind
  dsimp only
  split
  · exact raise (computed _) .stageQuality _
  · exact computed _

theorem requestAppend (h : SupervisorWoken x s.supervisor) (kind : Append) :
    SupervisorWoken x (requestAppend kind s).supervisor := by
  unfold Machine.requestAppend
  split
  · unfold append handRate
    dsimp only
    have judged (rate : Option Int) := handInput (s := joinRing kind s) (ask := queueAppend .event) (fun _ held => held) .rate rate h
    split
    · exact wake (judged _) _
    · exact judged _
  · exact h

end SupervisorWoken

/-- R69, R77, R85: what handing a stage to the warning unit does to the rules and to the station stage unit. -/
theorem handInput_stage (input : Option Int) (s : State) :
    ∃ u : State, u.stage = s.stage ∧ u.now = s.now
      ∧ u.judges = (handRules .stage s.now input s.warning.rules, input, s.warning.rateInput)
      ∧ RateHanded u (handInput askEvent .stage input s)
      ∧ LevelOnly u (handInput askEvent .stage input s) := by
  refine ⟨s.setWarning { setInput .stage input s.warning with rules := handRules .stage s.now input s.warning.rules },
    rfl, rfl, rfl, ?_, ?_⟩
  · have computed := recompute_rateHanded s.warning.rules none
      (s.setWarning { setInput .stage input s.warning with rules := handRules .stage s.now input s.warning.rules })
    unfold handInput
    dsimp only
    have judges := reportBlind_judges (blindDiffers s.warning.rules (handRules .stage s.now input s.warning.rules))
      (recompute askEvent s.warning.rules none
        (s.setWarning { setInput .stage input s.warning with rules := handRules .stage s.now input s.warning.rules }))
    simp only [State.judges, Prod.mk.injEq] at judges
    obtain ⟨rules, -, rate⟩ := judges
    unfold RateHanded at *
    rw [reportBlind_stage, rules, rate]
    exact computed
  · unfold handInput
    dsimp only
    exact (LevelOnly.recompute _ LevelOnly.askEvent _ _ _).trans (LevelOnly.reportBlind _ _)

theorem watches_iff (kind : RuleKind) (r : Rule) :
    watches kind r = true ↔ r.definition.enable = true ∧ r.definition.kind = kind := by
  simp [watches]

theorem handInput_stage_blindTold (input : Option Int) (s : State) : s.BlindTold (handInput askEvent .stage input s) := by
  refine rulesJudged_blindTold (ask := askEvent) (fun x => State.BlindTold.requestAppend .event x)
    (RaisesOnly.askEvent fun _ h => h) s.warning.rules none
    { setInput .stage input s.warning with rules := handRules .stage s.now input s.warning.rules } s fun i changed x stands => ?_
  have stage : x.warning.rules[i].definition.kind = .stage := by
    dsimp only at changed stands
    rw [LevelOnly.handRules_get] at changed stands
    rw [stands]
    split at changed
    case isTrue watched =>
      rw [if_pos watched, LevelOnly.handRule_definition]
      exact ((watches_iff _ _).1 watched).2
    case isFalse => exact absurd rfl changed
  rw [(LevelOnly.askEvent x).stageRules i stage, stands]

/-! ## A vote and what it hands on (R65, R69) -/

/-- What a vote in `x` rests on, besides the channels and the items and settings of the station stage unit, is as in `s`. -/
structure VoteBase (s x : State) : Prop where
  warning : sameBut s.warning x.warning
  supervisor : x.supervisor = s.supervisor
  now : x.now = s.now
  stage : x.stage = { s.stage with items := x.stage.items, settings := x.stage.settings }
  told : s.link.notice ≠ none → x.link.notice ≠ none
    ∧ x.notices.slots[sourcePlace .stageQuality] = s.notices.slots[sourcePlace .stageQuality]

/-- R69, R85: a stage that the vote has changed is handed on. -/
structure StageHanded (s t : State) (input : Option Int) : Prop where
  stage : t.stage = { s.stage with ring := t.stage.ring, nextSequence := t.stage.nextSequence
                                   waiting := t.stage.waiting, rate := t.stage.rate
                                   warmRestart := t.stage.warmRestart }
  stageInput : t.warning.stageInput = input
  level : t.LevelHeld
  rules : ∀ i : Fin 8, t.warning.rules[i] =
    if s.warning.rules[i].definition.enable = false then s.warning.rules[i]
    else if s.warning.rules[i].definition.kind = .stage then handRule s.now input s.warning.rules[i]
    else if t.stage.nextSequence = s.stage.nextSequence then s.warning.rules[i]
    else handRule s.now t.stage.rate s.warning.rules[i]
  woken : ∀ x, input = some x → s.supervisor.quiet = .quiet → s.supervisor.wake.stage = true →
    s.supervisor.wake.wakeStage ≤ x → t.supervisor.quiet = .woken ∧ t.supervisor.wakeOutput = true
  told : s.BlindTold t

theorem handedRule (now : Nat) (stage rate : Option Int) (rules : Vector Rule 8) (i : Fin 8) :
    (handRules .rate now rate (handRules .stage now stage rules))[i]
      = if rules[i].definition.enable = false then rules[i]
        else if rules[i].definition.kind = .stage then handRule now stage rules[i] else handRule now rate rules[i] := by
  rw [LevelOnly.handRules_get, LevelOnly.handRules_get]
  generalize rules[i] = r
  cases enable : r.definition.enable with
  | false => simp [watches, enable]
  | true => cases kind : r.definition.kind <;> simp [watches, enable, kind, LevelOnly.handRule_definition]

theorem handStage_handed (input : Option Int) (s : State) : StageHanded s (handStage askEvent input s) input := by
  obtain ⟨u, uStage, uNow, judged, rates, only⟩ := handInput_stage input s
  have told := handInput_stage_blindTold input s
  have held : (handInput askEvent .stage input s).LevelHeld := handInput_held _ askEvent_held _ _ s
  have raised : RaisesOnly voteSources s (handInput askEvent .stage input s) :=
    RaisesOnly.handInput (fun _ h => h) (RaisesOnly.askEvent fun _ h => h) _ _ s
  have woken : SupervisorWoken s.supervisor (handInput askEvent .stage input s).supervisor :=
    SupervisorWoken.handInput (fun y h => SupervisorWoken.requestAppend h .event) _ _ (.inl rfl)
  simp only [State.judges, Prod.mk.injEq] at judged
  obtain ⟨uRules, uInput, uRate⟩ := judged
  have rules (i : Fin 8) : (handInput askEvent .stage input s).warning.rules[i] =
      if s.warning.rules[i].definition.enable = false then s.warning.rules[i]
      else if s.warning.rules[i].definition.kind = .stage then handRule s.now input s.warning.rules[i]
      else if (handInput askEvent .stage input s).stage.nextSequence = s.stage.nextSequence then s.warning.rules[i]
      else handRule s.now (handInput askEvent .stage input s).stage.rate s.warning.rules[i] := by
    rcases rates with ⟨same, stand, -⟩ | ⟨next, handed, -⟩
    · rw [stand, uRules, LevelOnly.handRules_get, same, uStage]
      generalize s.warning.rules[i] = r
      cases enable : r.definition.enable with
      | false => simp [watches, enable]
      | true => cases kind : r.definition.kind <;> simp [watches, enable, kind]
    · rw [handed, uRules, uNow, handedRule, next, uStage, if_neg (next_ne _)]
  have input_ : (handInput askEvent .stage input s).warning.stageInput = input := only.stageInput.trans uInput
  have stage := only.stage
  rw [uStage] at stage
  clear only rates uInput uRules uRate uStage uNow
  cases input with
  | none =>
    exact ⟨stage, input_, held, rules, fun x none_ => (Option.some_ne_none x none_.symm).elim, told⟩
  | some v =>
    rw [handStage]
    generalize handInput askEvent .stage (some v) s = z at *
    have same := wake_warning (.stage v) z
    have zStage : (wake (.stage v) z).stage = z.stage := wake_stage _ _
    refine ⟨by rw [zStage]; exact stage, same.stageInput.trans input_, levelHeld_sameBut held same, ?_, ?_, ?_⟩
    · intro i
      rw [same.rules, zStage]
      exact rules i
    · intro x value quiet enabled reached
      obtain rfl : v = x := Option.some.inj value
      have again := SupervisorWoken.wake woken (.stage v)
      rcases again with same | woke
      · exfalso
        rcases woken with zSame | zWoke
        · have met : z.supervisor.quiet = .quiet ∧ wakeMet z.supervisor.wake (.stage v) = true := by
            rw [zSame]
            exact ⟨quiet, by simp [wakeMet, enabled, reached]⟩
          have now_ : (wake (.stage v) z).supervisor.quiet = .woken := by
            rw [wake, if_pos met, monitorWoken_supervisor, (RunOnly.fillSlot _ _ _).supervisor]
            rfl
          rw [same, quiet] at now_
          exact absurd now_ (by decide)
        · have awake : wake (.stage v) z = z := wake_of_awake _ _ (by rw [zWoke]; simp)
          rw [awake, zWoke] at same
          have := congrArg Supervisor.quiet same
          rw [quiet] at this
          exact QuietState.noConfusion this
      · rw [woke]
        exact ⟨rfl, rfl⟩
    · exact told.after (RaisesOnly.wake (by decide) _ _) raised.occupied zStage same.rules
        (congrArg TimeBase.runTime (wake_time _ _)) (congrArg TimeBase.stationTime (wake_time _ _))

/-- R69: what a vote over the unit `v` hands on before STAGE_QUALITY is judged. -/
structure StageUpdated (s t : State) (v : StageUnit) : Prop where
  stage : t.stage = { v with ring := t.stage.ring, nextSequence := t.stage.nextSequence, waiting := t.stage.waiting
                             rate := t.stage.rate, warmRestart := t.stage.warmRestart }
  stands : v.stage = s.stage.stage → sameBut s.warning t.warning ∧ t.stage.ring = s.stage.ring
    ∧ t.stage.waiting = s.stage.waiting ∧ t.supervisor = s.supervisor
  changed : v.stage ≠ s.stage.stage → t.warning.stageInput = v.stage ∧ t.LevelHeld
    ∧ (∀ i : Fin 8, t.warning.rules[i] =
        if s.warning.rules[i].definition.enable = false then s.warning.rules[i]
        else if s.warning.rules[i].definition.kind = .stage then handRule s.now v.stage s.warning.rules[i]
        else if t.stage.nextSequence = s.stage.nextSequence then s.warning.rules[i]
        else handRule s.now t.stage.rate s.warning.rules[i])
    ∧ (∀ x, v.stage = some x → s.supervisor.quiet = .quiet → s.supervisor.wake.stage = true →
        s.supervisor.wake.wakeStage ≤ x → t.supervisor.quiet = .woken ∧ t.supervisor.wakeOutput = true)

theorem StageUpdated.after {s t u : State} {v : StageUnit} (h : StageUpdated s t v) (stage : u.stage = t.stage)
    (warning : sameBut t.warning u.warning) (supervisor : u.supervisor = t.supervisor) : StageUpdated s u v := by
  refine ⟨by rw [stage]; exact h.stage, fun same => ?_, fun differs => ?_⟩
  · obtain ⟨w, ring, waiting, sup⟩ := h.stands same
    exact ⟨sameBut_trans w warning, by rw [stage, ring], by rw [stage, waiting], supervisor.trans sup⟩
  · obtain ⟨input, level, rules, woken⟩ := h.changed differs
    refine ⟨warning.stageInput.trans input, levelHeld_sameBut level warning, ?_, by rw [supervisor]; exact woken⟩
    rw [warning.rules, stage]
    exact rules

/-- R69: the stage of a vote is handed on where it has changed. -/
theorem updated_facts {s x : State} (base : VoteBase s x) {v : StageUnit}
    (kept : v = { x.stage with stage := v.stage, spread := v.spread, disagree := v.disagree, quality := v.quality
                               previousQuality := v.previousQuality, chosen := v.chosen }) :
    let t := if v.stage = x.stage.stage then x.setStage v else handStage askEvent v.stage (x.setStage v)
    StageUpdated s t v ∧ s.BlindTold t ∧ (s.link.notice ≠ none → t.link.notice ≠ none) := by
  intro t
  have stage0 : x.stage.stage = s.stage.stage := by rw [base.stage]
  have next0 : v.nextSequence = s.stage.nextSequence := by rw [kept, base.stage]
  have first : s.BlindTold (x.setStage v) := by
    intro occupied
    refine ⟨fun ⟨i, differs⟩ => absurd (congrArg (fun r => Rule.blind r) ?_) differs, fun _ => (base.told occupied).2⟩
    show x.warning.rules[i] = _
    rw [base.warning.rules]
  show StageUpdated s (ite _ _ _) v ∧ s.BlindTold (ite _ _ _) ∧ (_ → (ite _ _ _ : State).link.notice ≠ none)
  by_cases same : v.stage = x.stage.stage
  · rw [if_pos same]
    refine ⟨⟨rfl, fun _ => ⟨base.warning, ?_, ?_, base.supervisor⟩, fun differs => absurd (same.trans stage0) differs⟩,
      first, fun occupied => (base.told occupied).1⟩
    · show v.ring = _
      rw [kept, base.stage]
    · show v.waiting = _
      rw [kept, base.stage]
  · rw [if_neg same]
    obtain ⟨stage, input, level, rules, woken, told⟩ := handStage_handed v.stage (x.setStage v)
    have raised : RaisesOnly voteSources (x.setStage v) (handStage askEvent v.stage (x.setStage v)) :=
      RaisesOnly.handStage (fun _ h => h) (RaisesOnly.askEvent fun _ h => h) _ _
    refine ⟨⟨stage, fun equal => absurd (equal.trans stage0.symm) same, fun _ => ⟨input, level, ?_, ?_⟩⟩, ?_,
      fun occupied => raised.occupied (base.told occupied).1⟩
    · have now_ : (x.setStage v).now = s.now := base.now
      have rules_ : (x.setStage v).warning.rules = s.warning.rules := base.warning.rules
      have next_ : (x.setStage v).stage.nextSequence = s.stage.nextSequence := next0
      rw [now_, rules_, next_] at rules
      exact rules
    · have sup : (x.setStage v).supervisor = s.supervisor := base.supervisor
      rw [sup] at woken
      exact woken
    · intro occupied
      obtain ⟨telling, quiet⟩ := told (base.told occupied).1
      have rules_ : (x.setStage v).warning.rules = s.warning.rules := base.warning.rules
      rw [rules_] at telling quiet
      exact ⟨telling, fun none_ => (quiet none_).trans (base.told occupied).2⟩

theorem StageUpdated.voted {s t : State} {v u : StageUnit} (done : StageUpdated s t v)
    (eq : v = voted (fun i => t.channels[i].settings.rank) u) (quality : s.QualityTold t) : s.Voted t u := by
  have items : v.items = u.items := by rw [eq]; rfl
  have settings : v.settings = u.settings := by rw [eq]; rfl
  have stage := done.stage
  refine ⟨v, eq, ?_, ?_, ?_, ?_, ?_, ?_, ?_, ?_, done.stands, done.changed, quality⟩ <;> rw [stage]
  · exact items
  · exact settings

/-- R69, R70: STAGE_QUALITY, with cause QUALITY where the quality has changed, after the stage has been handed on. -/
theorem StageUpdated.quality {s u : State} {v : StageUnit} {before : Quality} (quality0 : before = s.stage.quality)
    (updated : StageUpdated s u v) (told : s.BlindTold u) (occupied : s.link.notice ≠ none → u.link.notice ≠ none) :
    let t := if v.quality != before then raiseStageQuality .quality u else u
    StageUpdated s t v ∧ s.QualityTold t := by
  intro t
  have uQuality : u.stage.quality = v.quality := by rw [updated.stage]
  show StageUpdated s (ite _ _ _) v ∧ s.QualityTold (ite _ _ _)
  rw [← uQuality]
  split
  case isTrue differs =>
    have apart : u.stage.quality ≠ s.stage.quality := by simpa [quality0] using differs
    unfold raiseStageQuality
    have same := raise_warning .stageQuality (stageQualityContent .quality u) u
    have stage : (raise .stageQuality (stageQualityContent .quality u) u).stage = u.stage := raise_stage ..
    refine ⟨updated.after stage same (RunOnly.raise u _ _ (by decide)).supervisor,
      fun notice => ⟨fun _ => ?_, fun equal => absurd ?_ apart⟩⟩
    · refine ⟨_, told_raise .stageQuality (stageQualityContent .quality u) u (by decide) (occupied notice), ?_⟩
      have flag : (u.stage.quality != s.stage.quality) = true := by simpa using apart
      rw [qualitySnapshot_congr stage same.rules (raise_now ..) (congrArg TimeBase.stationTime (raise_time ..)), stage, flag]
      exact stageQualityContent_eq .quality u
    · rw [stage] at equal
      exact equal
  case isFalse equal =>
    have equal : u.stage.quality = s.stage.quality := by simpa [quality0] using equal
    refine ⟨updated, fun notice => ⟨fun changes => ?_, fun _ blind => (told notice).2 blind⟩⟩
    have flag : (u.stage.quality != s.stage.quality) = false := by simp [equal]
    rw [flag]
    exact (told notice).1 (changes.resolve_left (by simp [equal]))

/-- R65, R69, R70: the vote and what it hands on. -/
theorem runVote_voted {s x : State} (base : VoteBase s x) : s.Voted (runVote x) x.stage := by
  have ranks : (fun i : Fin 4 => (runVote x).channels[i].settings.rank) = ranksOf x := by
    funext i
    rw [(VoteOnly.runVote x).channels]
    rfl
  obtain ⟨updated, told, occupied⟩ := updated_facts base (v := voted (ranksOf x) x.stage) rfl
  obtain ⟨done, quality⟩ := StageUpdated.quality (before := x.stage.quality) (by rw [base.stage]) updated told occupied
  exact StageUpdated.voted (t := runVote x) done (by rw [ranks]) quality

end Sys2Proof.Machine

namespace Sys2Proof.Machine

/-! ## Sorted values (R66, R67) -/

theorem sortValues_eq (values : List Int) : sortValues values = values.insertionSort (· ≤ ·) := by
  have insert_eq (x : Int) (l : List Int) : insertValue x l = l.orderedInsert (· ≤ ·) x := by
    induction l with
    | nil => rfl
    | cons y ys ih => simp only [insertValue, List.orderedInsert_cons, ih]
  induction values with
  | nil => rfl
  | cons x xs ih => rw [sortValues, ih, insert_eq, List.insertionSort_cons]

theorem sortValues_perm (values : List Int) : (sortValues values).Perm values := by
  rw [sortValues_eq]
  exact List.perm_insertionSort _ _

theorem sortValues_rise (values : List Int) : (sortValues values).Pairwise (· ≤ ·) := by
  rw [sortValues_eq]
  exact List.pairwise_insertionSort _ _

@[simp] theorem sortValues_length (values : List Int) : (sortValues values).length = values.length :=
  (sortValues_perm values).length_eq

/-- In an ascending list at most `k` values are below the one at place `k`, and more than `k` are not above it. -/
theorem counts_at {l : List Int} (rise : l.Pairwise (· ≤ ·)) {k : Nat} (at_ : k < l.length) :
    l.countP (fun y => decide (y < l[k])) ≤ k ∧ k < l.countP (fun y => decide (y ≤ l[k])) := by
  have ordered : ∀ (i j : Nat) (hi : i < l.length) (hj : j < l.length), i ≤ j → l[i] ≤ l[j] := by
    intro i j hi hj le
    rcases Nat.eq_or_lt_of_le le with rfl | lt
    · exact Int.le_refl _
    · exact List.pairwise_iff_getElem.1 rise i j hi hj lt
  constructor
  · have behind : (l.drop k).countP (fun y => decide (y < l[k])) = 0 := by
      rw [List.countP_eq_zero]
      intro y mem
      obtain ⟨i, lt, rfl⟩ := List.mem_iff_getElem.1 mem
      rw [List.length_drop] at lt
      have := ordered k (k + i) at_ (by omega) (by omega)
      simpa [List.getElem_drop] using this
    calc l.countP (fun y => decide (y < l[k]))
        = (l.take k).countP (fun y => decide (y < l[k])) + (l.drop k).countP (fun y => decide (y < l[k])) := by
          rw [← List.countP_append, List.take_append_drop]
      _ ≤ k := by
          rw [behind, Nat.add_zero]
          exact List.countP_le_length.trans (List.length_take_le k l)
  · have before : (l.take (k + 1)).countP (fun y => decide (y ≤ l[k])) = (l.take (k + 1)).length := by
      rw [List.countP_eq_length]
      intro y mem
      obtain ⟨i, lt, rfl⟩ := List.mem_iff_getElem.1 mem
      rw [List.length_take] at lt
      have := ordered i k (by omega) at_ (by omega)
      simpa [List.getElem_take] using this
    have part := (List.take_sublist (k + 1) l).countP_le (p := fun y => decide (y ≤ l[k]))
    rw [before, List.length_take] at part
    omega

/-- R66: the middle value, by counting. -/
theorem middleValue_spec {values : List Int} (stands : values ≠ []) : ∃ x, middleValue values = some x ∧ x ∈ values
    ∧ values.countP (fun y => decide (y < x)) ≤ values.length / 2
    ∧ values.length / 2 < values.countP (fun y => decide (y ≤ x)) := by
  have pos : 0 < values.length := List.length_pos_iff.2 stands
  have at_ : values.length / 2 < (sortValues values).length := by
    rw [sortValues_length]
    omega
  obtain ⟨below, upTo⟩ := counts_at (sortValues_rise values) at_
  refine ⟨(sortValues values)[values.length / 2], List.getElem?_eq_getElem at_,
    (sortValues_perm values).mem_iff.1 (List.getElem_mem at_), ?_, ?_⟩
  · rwa [(sortValues_perm values).countP_eq] at below
  · rwa [(sortValues_perm values).countP_eq] at upTo

/-- The ends of an ascending list bound every value of it. -/
theorem ends_bound {l : List Int} (rise : l.Pairwise (· ≤ ·)) (stands : l ≠ []) :
    ∃ low high, l.head? = some low ∧ l.getLast? = some high ∧ low ∈ l ∧ high ∈ l ∧ ∀ x ∈ l, low ≤ x ∧ x ≤ high := by
  refine ⟨l.head stands, l.getLast stands, List.head?_eq_some_head stands, List.getLast?_eq_some_getLast stands,
    List.head_mem stands, List.getLast_mem stands, fun x mem => ⟨?_, ?_⟩⟩
  · rw [← List.cons_head_tail stands, List.mem_cons] at mem
    rw [← List.cons_head_tail stands, List.pairwise_cons] at rise
    rcases mem with rfl | mem
    · exact Int.le_refl _
    · exact rise.1 x mem
  · rw [← List.dropLast_append_getLast stands, List.mem_append, List.mem_singleton] at mem
    rw [← List.dropLast_append_getLast stands, List.pairwise_append] at rise
    rcases mem with mem | rfl
    · exact rise.2.2 x mem _ (by simp)
    · exact Int.le_refl _

/-- R67: the spread, the largest value minus the smallest. -/
theorem spreadOf_spec {values : List Int} (stands : values ≠ []) : ∃ spread : Nat, spreadOf values = some spread
    ∧ (∀ x ∈ values, ∀ y ∈ values, x - y ≤ spread) ∧ ∃ x ∈ values, ∃ y ∈ values, x - y = spread := by
  have perm := sortValues_perm values
  have sorted_stands : sortValues values ≠ [] := fun none_ => stands (List.nil_perm.1 (none_ ▸ perm))
  obtain ⟨low, high, head, last, low_mem, high_mem, bound⟩ := ends_bound (sortValues_rise values) sorted_stands
  have rises : low ≤ high := (bound low low_mem).2
  refine ⟨(high - low).toNat, by simp [spreadOf, head, last], fun x x_mem y y_mem => ?_,
    high, perm.mem_iff.1 high_mem, low, perm.mem_iff.1 low_mem, by omega⟩
  have above := (bound x (perm.mem_iff.2 x_mem)).2
  have below := (bound y (perm.mem_iff.2 y_mem)).1
  omega

/-! ## The vote (R65 to R68) -/

theorem lowestRank_spec (ranks : Fin 4 → Nat) (l : List (Fin 4)) (stands : l ≠ []) :
    ∃ r, lowestRank ranks l = some r ∧ r ∈ l ∧ ∀ j ∈ l, ranks r ≤ ranks j := by
  induction l with
  | nil => exact absurd rfl stands
  | cons i rest ih =>
    by_cases last : rest = []
    · exact ⟨i, by simp [lowestRank, last], by simp, by simp [last]⟩
    · obtain ⟨r, found, mem, least⟩ := ih last
      by_cases lower : ranks r < ranks i
      · refine ⟨r, by simp [lowestRank, found, lower], List.mem_cons_of_mem _ mem, ?_⟩
        rw [List.forall_mem_cons]
        exact ⟨Nat.le_of_lt lower, least⟩
      · refine ⟨i, by simp [lowestRank, found, lower], by simp, ?_⟩
        rw [List.forall_mem_cons]
        exact ⟨Nat.le_refl _, fun j at_ => Nat.le_trans (Nat.not_lt.1 lower) (least j at_)⟩

theorem mem_validPlaces (u : StageUnit) (i : Fin 4) : i ∈ validPlaces u ↔ u.items[i].state = .valid := by
  simp [validPlaces, mem_places]

/-- The places counted by a Boolean are those it picks from the list. -/
theorem card_places (p : Fin 4 → Prop) [DecidablePred p] :
    (Finset.univ.filter p).card = (places 4).countP fun i => decide (p i) := by
  have nodup : (places 4).Nodup := by decide
  have same : Finset.univ.filter p = ((places 4).filter fun i => decide (p i)).toFinset := by
    ext i
    simp [mem_places]
  rw [same, List.toFinset_card_of_nodup (nodup.filter _), List.countP_eq_length_filter]

theorem validPlaces_length (u : StageUnit) :
    (validPlaces u).length = (Finset.univ.filter fun i : Fin 4 => u.items[i].state = .valid).card := by
  rw [card_places, List.countP_eq_length_filter]
  rfl

theorem card_validPlaces (u : StageUnit) (p : Int → Prop) [DecidablePred p] :
    ((Finset.univ.filter fun i : Fin 4 => u.items[i].state = .valid).filter fun i => p (u.items[i].filtered.getD 0)).card
      = (validValues u).countP fun x => decide (p x) := by
  rw [Finset.filter_filter, card_places, validValues, List.countP_map, validPlaces, List.countP_filter]
  congr 1
  funext i
  rw [Bool.eq_iff_iff]
  simp only [filteredOf, Bool.and_eq_true, beq_iff_eq, decide_eq_true_eq, Function.comp_apply, and_comm]
  exact and_congr_right fun _ => decide_eq_true_iff.symm

/-! ## What an event at a channel hands on (R60, R61, R65) -/

theorem State.Voted.after {s t t' : State} {u : StageUnit} (h : s.Voted t u) (channels : t'.channels = t.channels)
    (stage : t'.stage = { t.stage with recordExpiry := t'.stage.recordExpiry }) (warning : sameBut t.warning t'.warning)
    (supervisor : t'.supervisor = t.supervisor) (now : t'.now = t.now)
    (stationTime : t'.time.stationTime = t.time.stationTime)
    (slot : s.link.notice ≠ none →
      t'.notices.slots[sourcePlace .stageQuality] = t.notices.slots[sourcePlace .stageQuality]) : s.Voted t' u := by
  obtain ⟨v, eq, items, settings, stage_, spread, disagree, quality, previous, chosen, stands, changed, told⟩ := h
  refine ⟨v, by rw [channels]; exact eq, ?_⟩
  have snapshot (c : Bool) : t'.qualitySnapshot c = t.qualitySnapshot c := by
    unfold State.qualitySnapshot
    rw [stage, warning.rules, now, stationTime]
  rw [stage]
  refine ⟨items, settings, stage_, spread, disagree, quality, previous, chosen, fun same => ?_, fun differs => ?_, fun notice => ?_⟩
  · obtain ⟨w, ring, waiting, sup⟩ := stands same
    exact ⟨sameBut_trans w warning, ring, waiting, supervisor.trans sup⟩
  · obtain ⟨input, level, rules, woken⟩ := changed differs
    rw [warning.stageInput, warning.rules, supervisor]
    exact ⟨input, levelHeld_sameBut level warning, rules, woken⟩
  · rw [stage, warning.rules, slot notice, snapshot]
    exact told notice

theorem channelItem_eq (s : State) (j : Fin 4) : channelItem s j
    = [.num 1 (j.val + 1), .flag s.channels[j].settings.enable, .code (channelStateCode s.channels[j].state)]
      ++ optInt 3 (if s.channels[j].state = .valid then middleValue s.channels[j].window else none)
      ++ [.num 1 s.channels[j].window.length, .num 1 s.channels[j].settings.window, .num 1 s.channels[j].rejections]
      ++ (match s.channels[j].lastChange with
        | none => [.absent, .absent]
        | some x => [.present, .code (channelCauseCode x.cause), .present, .num 6 x.runTime]) := by
  unfold channelItem
  dsimp only
  generalize s.channels[j] = c
  have value : filteredValue c = if c.state = .valid then middleValue c.window else none := by
    unfold filteredValue
    cases c.state <;> rfl
  rw [value]
  cases c.lastChange <;> simp [optField, optTime, numberOf, timeField]

theorem channelStateContent_eq (i : Fin 4) (s : State) : channelStateContent i s = s.channelSnapshot i := by
  have four : places 4 = [0, 1, 2, 3] := by decide
  unfold channelStateContent State.channelSnapshot
  rw [four, funext (channelItem_eq s), List.flatMap_def]
  rfl

theorem channelSnapshot_congr {s t : State} (channels : t.channels = s.channels) (now : t.now = s.now)
    (stationTime : t.time.stationTime = s.time.stationTime) (i : Fin 4) : t.channelSnapshot i = s.channelSnapshot i := by
  simp only [State.channelSnapshot, channels, now, stationTime]

/-- What an event at a channel rests on in `x` is as in `s`. -/
structure ChannelBase (s x : State) : Prop where
  channels : x.channels = s.channels
  stage : x.stage = s.stage
  warning : sameBut s.warning x.warning
  supervisor : x.supervisor = s.supervisor
  now : x.now = s.now
  stationTime : x.time.stationTime = s.time.stationTime
  told : s.link.notice ≠ none → x.link.notice ≠ none
    ∧ x.notices.slots[sourcePlace .stageQuality] = s.notices.slots[sourcePlace .stageQuality]
    ∧ x.notices.slots[sourcePlace .channelState] = s.notices.slots[sourcePlace .channelState]

theorem ChannelBase.refl (s : State) : ChannelBase s s :=
  ⟨rfl, rfl, rfl, rfl, rfl, rfl, fun occupied => ⟨occupied, rfl, rfl⟩⟩

namespace State.ChannelHanded

variable {s t : State} {i : Fin 4}

/-- What follows the event leaves what was handed on. -/
theorem after {t' : State} (h : s.ChannelHanded t i) (base : ChannelBase t t')
    (occupied : s.link.notice ≠ none → t.link.notice ≠ none) : s.ChannelHanded t' i := by
  obtain ⟨voted, stands, told, untold⟩ := h
  unfold State.ChannelHanded
  rw [base.channels, base.stage, base.supervisor, channelSnapshot_congr base.channels base.now base.stationTime]
  refine ⟨fun changed => ?_, fun state value => ?_, fun changed notice => ?_, fun state notice => ?_⟩
  · exact (voted changed).after base.channels (by rw [base.stage]) base.warning base.supervisor base.now base.stationTime
      fun notice => (base.told (occupied notice)).2.1
  · obtain ⟨stage, warning, supervisor, quiet⟩ := stands state value
    exact ⟨stage, sameBut_trans warning base.warning, supervisor,
      fun notice => ((base.told (occupied notice)).2.1).trans (quiet notice)⟩
  · exact ((base.told (occupied notice)).2.2).trans (told changed notice)
  · exact ((base.told (occupied notice)).2.2).trans (untold state notice)

end State.ChannelHanded

/-- The sources that an event at a channel raises (R61, R69). -/
def channelSources : List NoticeSource := .channelState :: voteSources

theorem RaisesOnly.channelEvent (i : Fin 4) (f : Channel → Channel) (s : State) :
    RaisesOnly channelSources s (channelEvent i f s) := by
  have raised (x : State) : RaisesOnly channelSources x (Machine.raiseChannelState i x) :=
    RaisesOnly.raise (src := .channelState) (by decide) (fun low => absurd low (by decide)) _ x
  have handed (x : State) : RaisesOnly channelSources x (Machine.handChannel i x) :=
    RaisesOnly.handChannel (by decide) i x
  unfold Machine.channelEvent State.setChannel
  dsimp only
  split
  · split
    · exact RaisesOnly.ofSame rfl rfl
    · exact (handed (s.setChannels _)).after
  · split
    · exact (raised (s.setChannels _)).after
    · exact ((handed (s.setChannels _)).trans (raised _)).after

theorem channelEvent_channels (i : Fin 4) (f : Channel → Channel) (s : State) :
    (channelEvent i f s).channels = s.channels.set i (f s.channels[i]) := by
  obtain ⟨u, only, rfl⟩ := channelEvent_effect i f s
  exact only.channels

theorem channelEvent_channel (i : Fin 4) (f : Channel → Channel) (s : State) :
    (channelEvent i f s).channels[i] = f s.channels[i] := by
  rw [channelEvent_channels]
  exact Vector.getElem_set_self _

theorem channelEvent_channel_ne {i j : Fin 4} (other : j ≠ i) (f : Channel → Channel) (s : State) :
    (channelEvent i f s).channels[j] = s.channels[j] := by
  rw [channelEvent_channels]
  exact Vector.getElem_set_ne _ _ fun same => other (Fin.ext same.symm)

/-- R65: the vote over a channel's new item. -/
theorem handChannel_voted {s x : State} (base : ChannelBase s x) (i : Fin 4) (c : Channel) :
    s.Voted (handChannel i (x.setChannel i c)) { s.stage with
      items := s.stage.items.set i { state := c.state, filtered := filteredValue c } } := by
  have self : (x.setChannel i c).channels[i] = c := Vector.getElem_set_self _
  have vote := runVote_voted (s := s) (x := (x.setChannel i c).setStage
    { x.stage with items := x.stage.items.set i { state := c.state, filtered := filteredValue c } })
    { warning := base.warning
      supervisor := base.supervisor
      now := base.now
      stage := by rw [← base.stage]; rfl
      told := fun occupied => ⟨(base.told occupied).1, (base.told occupied).2.1⟩ }
  have run : handChannel i (x.setChannel i c) = runVote ((x.setChannel i c).setStage
      { x.stage with items := x.stage.items.set i { state := c.state, filtered := filteredValue c } }) := by
    unfold handChannel takeItem
    rw [self]
    rfl
  rw [run, ← base.stage]
  exact vote

/-- A raise of CHANNEL_STATE leaves what a vote handed on. -/
theorem State.Voted.raiseChannelState {s t : State} {u : StageUnit} (h : s.Voted t u)
    (occupied : s.link.notice ≠ none → t.link.notice ≠ none) (i : Fin 4) : s.Voted (raiseChannelState i t) u := by
  refine h.after (raise_channels ..) ?_ (raise_warning ..) (RunOnly.raise t _ _ (by decide)).supervisor (raise_now ..)
    (congrArg TimeBase.stationTime (raise_time ..)) fun notice => ?_
  · rw [Machine.raiseChannelState, raise_stage]
  · exact untold_raise _ t (by decide) (by decide) (occupied notice)

/-- R61: CHANNEL_STATE carries the channels as they stand. -/
theorem raiseChannelState_told {s t : State} (raises : RaisesOnly voteSources s t) (i : Fin 4) :
    s.Told (raiseChannelState i t) .channelState ((raiseChannelState i t).channelSnapshot i) := by
  intro notice
  rw [Machine.raiseChannelState, told_raise .channelState _ t (by decide) (raises.occupied notice),
    raises.untold (by decide) notice, channelStateContent_eq,
    channelSnapshot_congr (raise_channels ..) (raise_now ..) (congrArg TimeBase.stationTime (raise_time ..))]

/-- R60, R61: an event at a channel hands on what it has changed. -/
theorem channelEvent_handed {s x : State} (base : ChannelBase s x) (i : Fin 4) (f : Channel → Channel) :
    s.ChannelHanded (channelEvent i f x) i := by
  have self : (channelEvent i f x).channels[i] = f s.channels[i] := by rw [channelEvent_channel, base.channels]
  have placed : x.setChannel i (f x.channels[i]) = x.setChannel i (f s.channels[i]) := by rw [base.channels]
  have voted := handChannel_voted base i (f s.channels[i])
  have raises : RaisesOnly voteSources x (handChannel i (x.setChannel i (f s.channels[i]))) :=
    (RaisesOnly.handChannel (fun _ h => h) i (x.setChannel i (f s.channels[i]))).after
  have occupied : s.link.notice ≠ none → (handChannel i (x.setChannel i (f s.channels[i]))).link.notice ≠ none :=
    fun notice => raises.occupied (base.told notice).1
  have event : channelEvent i f x
      = if (f s.channels[i]).state = s.channels[i].state then
          if (f s.channels[i]).state = s.channels[i].state
              ∧ filteredValue (f s.channels[i]) = filteredValue s.channels[i]
          then x.setChannel i (f s.channels[i]) else handChannel i (x.setChannel i (f s.channels[i]))
        else raiseChannelState i
          (if (f s.channels[i]).state = s.channels[i].state
              ∧ filteredValue (f s.channels[i]) = filteredValue s.channels[i]
          then x.setChannel i (f s.channels[i]) else handChannel i (x.setChannel i (f s.channels[i]))) := by
    unfold channelEvent
    dsimp only
    rw [base.channels]
  unfold State.ChannelHanded
  rw [self]
  generalize f s.channels[i] = c at *
  by_cases state : c.state = s.channels[i].state
  · by_cases value : filteredValue c = filteredValue s.channels[i]
    · rw [event, if_pos state, if_pos ⟨state, value⟩]
      refine ⟨fun changed => absurd changed (by simp [state, value]), fun _ _ => ⟨base.stage, base.warning, base.supervisor,
        fun notice => (base.told notice).2.1⟩, fun differs => absurd state differs, fun _ notice => (base.told notice).2.2⟩
    · rw [event, if_pos state, if_neg fun same => value same.2]
      refine ⟨fun _ => voted, fun _ same => absurd same value, fun differs => absurd state differs, fun _ notice => ?_⟩
      exact (raises.untold (by decide) (base.told notice).1).trans (base.told notice).2.2
  · rw [event, if_neg state, if_neg fun same => state same.1]
    refine ⟨fun _ => voted.raiseChannelState occupied i, fun same _ => absurd same state, fun _ notice => ?_,
      fun same => absurd same state⟩
    rw [raiseChannelState_told raises i (base.told notice).1, (base.told notice).2.2]

/-- R58: a due stale timer empties the window. -/
theorem goStale_due {now : Nat} {c : Channel} {e : Nat} (expiry : c.staleExpiry = some e) (due : e ≤ now)
    (running : c.state = .filling ∨ c.state = .valid) : goStale now c
      = { c with
          state := .stale, window := [], chainLength := 0, candidate := none, staleExpiry := none
          lastChange := some { cause := .staleTime, runTime := now } } := by
  have stale : staleDue now c = true := by
    simp only [staleDue, Bool.and_eq_true, Bool.or_eq_true, beq_iff_eq]
    exact ⟨running, (reached_iff _ _).2 ⟨e, expiry, due⟩⟩
  rw [goStale, if_pos stale]
  rfl

theorem exec_staleExpiry (i : Fin 4) (s : State) :
    exec (.staleExpiry (i.val + 1)) s = .next (channelEvent i (goStale s.now) s) := by
  show Host.Outcome.next ((place (numberOf i) 4).elim s _) = _
  rw [place_numberOf]
  rfl

/-- Settles O44: the vote, and the step that runs it. -/
theorem vote : Obligations.Vote := by
  unfold Obligations.Vote
  intro ranks u
  refine ⟨fun none_ => ?_, ?_, ?_, ?_, ?_, rfl, rfl, rfl, fun same => if_pos same, fun differs => if_neg differs⟩
  · have empty : validPlaces u = [] := by
      rw [List.eq_nil_iff_forall_not_mem]
      exact fun i mem => none_ i ((mem_validPlaces u i).1 mem)
    refine ⟨?_, ?_, ?_, ?_⟩
    · cases method : u.settings.method <;>
        simp [voted, votedStage, method, empty, lowestRank, validValues, middleValue, sortValues]
    · simp [voted, validValues, empty, spreadOf, sortValues]
    · simp [voted, validValues, empty, spreadOf, sortValues, disagrees]
    · simp [voted, empty, voteQuality]
  · intro i method valid least
    have mem : i ∈ validPlaces u := (mem_validPlaces u i).2 valid
    obtain ⟨r, found, r_mem, low⟩ := lowestRank_spec ranks (validPlaces u) (List.ne_nil_of_mem mem)
    have same : r = i := by
      by_contra other
      have := least r other ((mem_validPlaces u r).1 r_mem)
      have := low i mem
      omega
    rw [same] at found
    simp [voted, votedStage, chosenPlace, method, found, filteredOf, numberOf]
  · rintro method ⟨i, valid⟩
    have stands : validValues u ≠ [] :=
      List.ne_nil_of_mem (List.mem_map_of_mem (f := filteredOf u) ((mem_validPlaces u i).2 valid))
    obtain ⟨x, found, mem, below, upTo⟩ := middleValue_spec stands
    obtain ⟨j, j_mem, value⟩ := List.mem_map.1 mem
    refine ⟨x, by simp [voted, votedStage, method, found], ⟨j, (mem_validPlaces u j).1 j_mem, value⟩, ?_⟩
    dsimp only
    rw [card_validPlaces u (· < x), card_validPlaces u (· ≤ x), ← validPlaces_length]
    rw [validValues, List.length_map] at below upTo
    exact ⟨below, upTo⟩
  · rintro ⟨i, valid⟩
    have stands : validValues u ≠ [] :=
      List.ne_nil_of_mem (List.mem_map_of_mem (f := filteredOf u) ((mem_validPlaces u i).2 valid))
    have value (i : Fin 4) (valid : u.items[i].state = .valid) : u.items[i].filtered.getD 0 ∈ validValues u :=
      List.mem_map_of_mem (f := filteredOf u) ((mem_validPlaces u i).2 valid)
    have place_ (x : Int) (mem : x ∈ validValues u) : ∃ i : Fin 4, u.items[i].state = .valid ∧ u.items[i].filtered.getD 0 = x := by
      obtain ⟨j, j_mem, eq⟩ := List.mem_map.1 mem
      exact ⟨j, (mem_validPlaces u j).1 j_mem, eq⟩
    obtain ⟨spread, found, most, x, x_mem, y, y_mem, attained⟩ := spreadOf_spec stands
    obtain ⟨a, a_valid, rfl⟩ := place_ x x_mem
    obtain ⟨b, b_valid, rfl⟩ := place_ y y_mem
    have count : (validPlaces u).length ≠ 0 := by
      have := (mem_validPlaces u i).2 valid
      exact fun zero => List.ne_nil_of_mem this (List.length_eq_zero_iff.1 zero)
    refine ⟨spread, found, fun i j iv jv => most _ (value i iv) _ (value j jv), ⟨a, b, a_valid, b_valid, attained⟩, ?_, ?_⟩
    · simp [voted, found, disagrees]
    · dsimp only
      rw [← validPlaces_length]
      have quality : (voted ranks u).quality = voteQuality (validPlaces u).length u.settings.required (voted ranks u).disagree := rfl
      rw [quality, voteQuality, if_neg count]
      refine ⟨fun enough agree => if_pos ⟨enough, agree⟩, fun short => if_neg fun good => ?_⟩
      rcases short with few | disagree
      · omega
      · rw [disagree] at good
        exact Bool.noConfusion good.2
  · intro s i e expiry due running
    have stale := goStale_due (now := s.now) expiry due running
    have handed := (channelEvent_handed (ChannelBase.refl s) i (goStale s.now)).1
    have self := channelEvent_channel i (goStale s.now) s
    refine ⟨_, exec_staleExpiry i s, ?_⟩
    rw [self, stale] at handed
    refine handed (.inl ?_)
    show ChannelState.stale ≠ _
    rcases running with state | state <;> (rw [state]; decide)

end Sys2Proof.Machine

namespace Sys2Proof.Machine

/-! ## A request that runs the vote (R47, R79) -/

/-- R161, R163: while a notice is on its way, placing the reply hands none over. -/
theorem placeReply_notices (f : HostFrame) {p : State × Answer} (occupied : p.1.link.notice ≠ none) :
    (placeReply f p).notices = p.1.notices ∧ (placeReply f p).link.notice = p.1.link.notice := by
  have started (x : State) : (startLine x).link.notice = x.link.notice := by
    unfold startLine
    split
    · rfl
    · split_ifs <;> rfl
  unfold placeReply
  rw [dispatch_of_unready (linkReady_of_occupied (by rwa [started]))]
  exact ⟨startLine_notices _, started _⟩

/-- The arrival of a request's frame leaves what an event at a channel rests on. -/
theorem ChannelBase.takenAt (f : HostFrame) (s : State) : ChannelBase s (takenAt f s) where
  channels := takenAt_channels f s
  stage := takenAt_stage f s
  warning := takenAt_same f s
  supervisor := takenAt_supervisor f s
  now := takenAt_now f s
  stationTime := by rw [takenAt_time]
  told occupied := by simpa using occupied

/-- And so does placing its reply. -/
theorem ChannelBase.placeReply (f : HostFrame) (p : State × Answer) : ChannelBase p.1 (placeReply f p) := by
  have keeps := keeps_placeReply f p p.1 (Keeps.refl p.1)
  refine ⟨keeps.channels, keeps.stage, keeps.warning, keeps.supervisor, by rw [State.now, keeps.time]; rfl,
    by rw [keeps.time], fun occupied => ?_⟩
  obtain ⟨notices, notice⟩ := placeReply_notices f occupied
  rw [notices, notice]
  exact ⟨occupied, rfl, rfl⟩

theorem State.Voted.afterReply {s t : State} {u : StageUnit} (h : s.Voted t u)
    (occupied : s.link.notice ≠ none → t.link.notice ≠ none) (f : HostFrame) (a : Answer) : s.Voted (placeReply f (t, a)) u := by
  have base := ChannelBase.placeReply f (t, a)
  exact h.after base.channels (by rw [base.stage]) base.warning base.supervisor base.now base.stationTime
    fun notice => (base.told (occupied notice)).2.1

/-! ## CHANNEL_SET (R45 to R47) -/

/-- R46: a CHANNEL_SET in range: answered in the order of its checks. -/
theorem takeChannelSet_eq {a : ChannelSetArgs} {i : Fin 4} (channel : a.channel = i.val + 1) (enable : a.enable ≤ 1)
    (sense : a.sense ≤ 1) (least : 1 ≤ a.rank) (most : a.rank ≤ 4) (s : State) (held : ChannelSettings)
    (held_eq : held = heldChannel a (a.enable == 1) (if a.sense = 0 then .direct else .inverted)) :
    takeChannelSet a s = if held.maximum ≤ held.minimum then (s, .refuse .range)
      else if s.saveRuns then (s, .refuse .busy)
      else if (a.enable == 1) && rankTaken s i a.rank then (s, .refuse .duplicate)
      else (applyChannel i held s, .reply (.num 1 a.channel :: channelSettingFields held)) := by
  have at_ : place a.channel 4 = some i := (place_eq_some _ _ i).2 channel
  have named : senseOf a.sense = some (if a.sense = 0 then .direct else .inverted) := by
    obtain h | h : a.sense = 0 ∨ a.sense = 1 := by omega
    · rw [h]; rfl
    · rw [h]; rfl
  have rank : ¬ (a.rank = 0 ∨ 4 < a.rank) := by omega
  unfold takeChannelSet
  rw [at_, onOff_of_le enable, named]
  dsimp only
  rw [← held_eq, channel]
  simp only [← or_assoc, rank, false_or]
  rfl

theorem rankTaken_iff (s : State) (i : Fin 4) (rank : Nat) : rankTaken s i rank = true
    ↔ ∃ j : Fin 4, j ≠ i ∧ s.channels[j].settings.enable = true ∧ s.channels[j].settings.rank = rank := by
  simp [rankTaken, mem_places, and_assoc]

/-- R45: the window setting as held. -/
theorem heldWindow_eq (n : Nat) :
    heldWindow n = if n = 0 then 1 else if 15 ≤ n then 15 else if n % 2 = 0 then n + 1 else n := by
  unfold heldWindow
  split_ifs <;> omega

/-- R47: what a taken CHANNEL_SET leaves. -/
theorem applyChannel_effect {s x : State} (base : ChannelBase s x) (i : Fin 4) (held : ChannelSettings) :
    ∃ c : Channel, c = freshChannel s.now held (change (settingsCause s.channels[i].settings.enable held.enable) s.now)
      ∧ (applyChannel i held x).channels = s.channels.set i c
      ∧ s.Voted (applyChannel i held x) { s.stage with
          items := s.stage.items.set i { state := c.state, filtered := filteredValue c } }
      ∧ s.Told (applyChannel i held x) .channelState ((applyChannel i held x).channelSnapshot i)
      ∧ RaisesOnly channelSources x (applyChannel i held x)
      ∧ ∃ u : State, VoteOnly u (applyChannel i held x) ∧ u.field = x.field ∧ u.time = x.time
        ∧ u.supervisor = x.supervisor ∧ u.link = x.link := by
  refine ⟨_, rfl, ?_⟩
  have applied : applyChannel i held x = raiseChannelState i (handChannel i (x.setChannel i
      (freshChannel s.now held (change (settingsCause s.channels[i].settings.enable held.enable) s.now)))) := by
    rw [applyChannel, base.now, base.channels]
  rw [applied]
  clear applied
  generalize freshChannel _ _ _ = c
  have raises : RaisesOnly voteSources x (handChannel i (x.setChannel i c)) :=
    (RaisesOnly.handChannel (fun _ h => h) i (x.setChannel i c)).after
  have occupied : s.link.notice ≠ none → (handChannel i (x.setChannel i c)).link.notice ≠ none :=
    fun notice => raises.occupied (base.told notice).1
  have raised : RaisesOnly channelSources (handChannel i (x.setChannel i c)) (raiseChannelState i (handChannel i (x.setChannel i c))) :=
    RaisesOnly.raise (src := .channelState) (by decide) (fun low => absurd low (by decide)) _ _
  have only : VoteOnly ((x.setChannel i c).setStage _) (handChannel i (x.setChannel i c)) := takeItem_votes i _ _
  have channels : (handChannel i (x.setChannel i c)).channels = s.channels.set i c := by
    rw [only.channels, ← base.channels]
    rfl
  refine ⟨?_, (handChannel_voted base i c).raiseChannelState occupied i, fun notice => ?_, (raises.mono (by decide)).trans raised,
    _, only.trans (VoteOnly.ofLevelOnly (LevelOnly.raise _ _ _)), rfl, rfl, rfl, rfl⟩
  · rw [raiseChannelState, raise_channels, channels]
  · rw [raiseChannelState_told raises i (base.told notice).1, (base.told notice).2.2]

/-- R45, R47: the channel afresh, under the settings of the request as held. -/
theorem freshChannel_held (a : ChannelSetArgs) (enable : a.enable ≤ 1) (now : Nat) (before : Bool) :
    freshChannel now (heldChannel a (a.enable == 1) (if a.sense = 0 then .direct else .inverted))
        (change (settingsCause before (a.enable == 1)) now)
      = { settings :=
            { enable := a.enable == 1, gain := max 950000 (min 1050000 a.gain)
              offset := max (-99999) (min 99999 a.offset), sense := if a.sense = 0 then .direct else .inverted
              minimum := max (-999999) (min 999999 a.minimum)
              maximum := max (-999999) (min 999999 a.maximum), stepLimit := min 5000 a.stepLimit
              window := if a.window = 0 then 1 else if 15 ≤ a.window then 15
                else if a.window % 2 = 0 then a.window + 1 else a.window
              staleTime := max 10 (min 3600 a.staleTime), rank := a.rank }
          state := if a.enable = 1 then .filling else .off, window := [], rejections := 0
          chainLength := 0, candidate := none
          staleExpiry := if a.enable = 1 then some (now + max 10 (min 3600 a.staleTime) * 1000) else none
          lastReading := none
          lastChange := some
            { cause := if a.enable = 1 ∧ before = false then .enabled
                else if a.enable = 0 ∧ before = true then .disabled else .settings
              runTime := now }
          counters := { accepted := 0, range := 0, step := 0, reAnchors := 0, headFaults := 0 } } := by
  obtain on | off : a.enable = 1 ∨ a.enable = 0 := by omega
  · cases before <;>
      simp [freshChannel, heldChannel, on, heldWindow_eq, change, settingsCause, clampNat, clampInt]
  · cases before <;>
      simp [freshChannel, heldChannel, off, heldWindow_eq, change, settingsCause, clampNat, clampInt]

theorem freshChannel_item (now : Nat) (x : ChannelSettings) (last : Option ChannelChange) :
    (freshChannel now x last).state = (if x.enable then .filling else .off) ∧ filteredValue (freshChannel now x last) = none := by
  cases on : x.enable <;> simp [freshChannel, filteredValue, on]

/-- Settles O20: CHANNEL_SET where it is taken, and its refusals. -/
theorem channelSet : Obligations.ChannelSet := by
  unfold Obligations.ChannelSet
  intro s tag a i calm channel enable sense least most
  generalize held_eq : heldChannel a (a.enable == 1) (if a.sense = 0 then .direct else .inverted) = held
  have takes (x : State) := takeChannelSet_eq channel enable sense least most x held held_eq.symm
  have bounds : held.minimum = max (-999999) (min 999999 a.minimum) ∧ held.maximum = max (-999999) (min 999999 a.maximum) := by
    rw [← held_eq]
    exact ⟨rfl, rfl⟩
  have refused (r : Reason) (answer_ : takeChannelSet a (takenAt (requestFrame tag (.channelSet a)) s)
      = (takenAt (requestFrame tag (.channelSet a)) s, .refuse r)) :=
    refused_request tag (.channelSet a) s calm r answer_
  have saves := takenAt_saveRuns (requestFrame tag (.channelSet a)) s
  have ranks : rankTaken (takenAt (requestFrame tag (.channelSet a)) s) i a.rank = rankTaken s i a.rank := by
    simp [rankTaken]
  refine ⟨fun range => ?_, fun empty => refused .range ?_⟩
  · have inRange : ¬ held.maximum ≤ held.minimum := by
      rw [bounds.1, bounds.2]
      exact Int.not_le.2 range
    simp only [if_neg inRange] at takes
    refine ⟨fun idle free => ?_, fun saving => refused .busy ?_, fun idle on taken => refused .duplicate ?_⟩
    · have alone : rankTaken s i a.rank = true → (a.enable == 1) = false := by
        intro shared
        obtain ⟨j, other, on, same⟩ := (rankTaken_iff s i a.rank).1 shared
        have off : a.enable ≠ 1 := fun one => free one j other on same
        simpa using off
      have answer_ : takeChannelSet a (takenAt (requestFrame tag (.channelSet a)) s)
          = (applyChannel i held (takenAt (requestFrame tag (.channelSet a)) s),
              .reply (.num 1 a.channel :: channelSettingFields held)) := by
        rw [takes, saves, saveRuns_of_none idle, ranks, if_neg Bool.false_ne_true, if_neg]
        rw [Bool.and_eq_true, not_and]
        exact fun on shared => Bool.false_ne_true ((alone shared).symm.trans on)
      obtain ⟨c, fresh, channels, voted, told, raises, u, only, uField, uTime, uSupervisor, uLink⟩ :=
        applyChannel_effect (ChannelBase.takenAt (requestFrame tag (.channelSet a)) s) i held
      obtain ⟨t, next, placed, answered⟩ := answered_request tag (.channelSet a) s _ calm _ answer_
        (by rw [only.link, uLink]; simp [requestFrame])
      have occupied : s.link.notice ≠ none → (applyChannel i held (takenAt (requestFrame tag (.channelSet a)) s)).link.notice ≠ none :=
        fun notice => raises.occupied (by simpa using notice)
      have base := ChannelBase.placeReply (requestFrame tag (.channelSet a))
        (applyChannel i held (takenAt (requestFrame tag (.channelSet a)) s),
          .reply (.num 1 a.channel :: channelSettingFields held))
      have kept := keeps_placeReply (requestFrame tag (.channelSet a))
        (applyChannel i held (takenAt (requestFrame tag (.channelSet a)) s),
          .reply (.num 1 a.channel :: channelSettingFields held)) _ (Keeps.refl _)
      rw [← placed] at base kept
      have shown : t.channels = s.channels.set i c := base.channels.trans channels
      have self : t.channels[i] = c := by
        rw [shown]
        exact Vector.getElem_set_self _
      have settings : c.settings = held := by rw [fresh]; rfl
      refine ⟨t, next, ?_, fun j other => ?_, ?_, fun notice => ?_, ?_, ?_, ?_, ?_⟩
      · rw [self, fresh, ← held_eq]
        exact freshChannel_held a enable s.now _
      · rw [shown]
        exact Vector.getElem_set_ne _ _ fun same => other (Fin.ext same.symm)
      · rw [placed]
        have voted := voted.afterReply occupied (requestFrame tag (.channelSet a))
          (.reply (.num 1 a.channel :: channelSettingFields held))
        obtain ⟨state, value⟩ := freshChannel_item s.now held
          (change (settingsCause s.channels[i].settings.enable held.enable) s.now)
        have on : held.enable = (a.enable == 1) := by rw [← held_eq]; rfl
        rw [fresh, state, value, on] at voted
        simpa only [beq_iff_eq] using voted
      · rw [(base.told (occupied notice)).2.2, told notice, channelSnapshot_congr base.channels base.now base.stationTime]
      · rw [kept.supervisor, only.supervisor (by rw [uSupervisor, takenAt_supervisor, calm.2.2.1]; decide), uSupervisor,
          takenAt_supervisor]
      · rw [kept.field, only.field, uField, takenAt_field]
      · rw [kept.time, only.time, uTime, takenAt_time]
      · rw [self, settings]
        exact answered
    · rw [takes, saves, if_pos (saveRuns_of_ne_none saving)]
    · have shared : rankTaken s i a.rank = true := (rankTaken_iff s i a.rank).2 taken
      rw [takes, saves, saveRuns_of_none idle, ranks, shared, on]
      rfl
  · rw [takes, if_pos (by rw [bounds.1, bounds.2]; exact empty)]

/-! ## STAGE_SET (R72, R76, R79) -/

theorem heldStage_eq (a : StageSetArgs) (m : VoteMethod) : heldStage a m
    = { method := m, agreement := min 2000 a.agreement, required := max 1 (min 4 a.required)
        normalInterval := max 10 (min 900 a.normalInterval), quietInterval := max 60 (min 3600 a.quietInterval)
        rateWindow := max 300 (min 3600 (a.rateWindow - a.rateWindow % 60)) } := by
  have minutes : a.rateWindow / 60 * 60 = a.rateWindow - a.rateWindow % 60 := by omega
  simp [heldStage, clampNat, minutes]

theorem takeStageSet_eq {a : StageSetArgs} (method : a.method ≤ 1) (s : State) (held : StageSettings)
    (held_eq : held = heldStage a (if a.method = 0 then .ranked else .middle)) :
    takeStageSet a s = if s.saveRuns then (s, .refuse .busy)
      else (applyStage held s, .reply (stageSettingFields held)) := by
  have named : voteMethodOf a.method = some (if a.method = 0 then .ranked else .middle) := by
    obtain h | h : a.method = 0 ∨ a.method = 1 := by omega
    · rw [h]; rfl
    · rw [h]; rfl
  unfold takeStageSet
  rw [named, held_eq]

/-- R79: what a taken STAGE_SET leaves: the vote under its settings, and the record timer brought forward. -/
theorem applyStage_effect {s x : State} (base : ChannelBase s x) (awake : s.supervisor.quiet = .normal)
    (held : StageSettings) :
    (applyStage held x).stage.settings = held
      ∧ (applyStage held x).stage.recordExpiry = min s.stage.recordExpiry (s.now + held.normalInterval * 1000)
      ∧ s.Voted (applyStage held x) { s.stage with settings := held }
      ∧ RaisesOnly voteSources x (applyStage held x)
      ∧ (applyStage held x).channels = s.channels ∧ (applyStage held x).supervisor = s.supervisor
      ∧ (applyStage held x).now = s.now ∧ (applyStage held x).field.heads = x.field.heads
      ∧ (applyStage held x).link.inHand = x.link.inHand := by
  have vote := runVote_voted (s := s) (x := x.setStage { x.stage with settings := held })
    { warning := base.warning
      supervisor := base.supervisor
      now := base.now
      stage := by rw [← base.stage]; rfl
      told := fun occupied => ⟨(base.told occupied).1, (base.told occupied).2.1⟩ }
  have only := VoteOnly.runVote (x.setStage { x.stage with settings := held })
  have raises : RaisesOnly voteSources x (runVote (x.setStage { x.stage with settings := held })) :=
    (RaisesOnly.runVote (fun _ h => h) (x.setStage { x.stage with settings := held })).after
  unfold applyStage
  dsimp only
  generalize runVote (x.setStage { x.stage with settings := held }) = z at *
  have supervisor : z.supervisor = s.supervisor :=
    (only.supervisor (by show x.supervisor.quiet ≠ _; rw [base.supervisor, awake]; decide)).trans base.supervisor
  have time : z.now = s.now := (congrArg TimeBase.runTime only.time).trans base.now
  have interval : recordInterval z = held.normalInterval * 1000 := by
    rw [recordInterval, State.quietInForce, supervisor, awake, only.stageSettings]
    rfl
  rw [interval]
  refine ⟨only.stageSettings, ?_, ?_, ?_, only.channels.trans base.channels, supervisor, time, ?_, ?_⟩
  · show min z.stage.recordExpiry (z.now + _) = _
    rw [only.recordExpiry, time, ← base.stage]
    rfl
  · rw [← base.stage]
    exact vote.after rfl rfl (sameBut_refl _) rfl rfl rfl fun _ => rfl
  · exact raises.trans (RaisesOnly.ofSame rfl rfl)
  · show z.field.heads = _
    rw [only.field]
    rfl
  · show z.link.inHand = _
    rw [only.link]
    rfl

/-- Settles O21: STAGE_SET where it is taken, and its refusals. -/
theorem stageSet : Obligations.StageSet := by
  unfold Obligations.StageSet
  intro s tag a calm
  have saves := takenAt_saveRuns (requestFrame tag (.stageSet a)) s
  refine ⟨fun method idle => ?_, fun method saving => ?_, fun above => ?_⟩
  · generalize held_eq : heldStage a (if a.method = 0 then .ranked else .middle) = held
    have answer_ : takeStageSet a (takenAt (requestFrame tag (.stageSet a)) s)
        = (applyStage held (takenAt (requestFrame tag (.stageSet a)) s), .reply (stageSettingFields held)) := by
      rw [takeStageSet_eq method _ held held_eq.symm, saves, saveRuns_of_none idle, if_neg Bool.false_ne_true]
    obtain ⟨settings, expiry, voted, raises, channels, supervisor, now, heads, inHand⟩ :=
      applyStage_effect (ChannelBase.takenAt (requestFrame tag (.stageSet a)) s) calm.2.2.1 held
    obtain ⟨t, next, placed, answered⟩ := answered_request tag (.stageSet a) s _ calm _ answer_
      (inHand.trans (by simp [requestFrame]))
    have occupied : s.link.notice ≠ none → (applyStage held (takenAt (requestFrame tag (.stageSet a)) s)).link.notice ≠ none :=
      fun notice => raises.occupied (by simpa using notice)
    have kept := keeps_placeReply (requestFrame tag (.stageSet a))
      (applyStage held (takenAt (requestFrame tag (.stageSet a)) s), .reply (stageSettingFields held)) _ (Keeps.refl _)
    rw [← placed] at kept
    have tSettings : t.stage.settings = held := by rw [kept.stage]; exact settings
    refine ⟨t, next, ?_, ?_, ?_, ?_, ?_, ?_, ?_, ?_⟩
    · rw [tSettings, ← held_eq, heldStage_eq]
    · rw [kept.stage]
      refine expiry.trans ?_
      rw [← held_eq]
      rfl
    · rw [tSettings, placed]
      exact voted.afterReply occupied _ _
    · exact kept.channels.trans channels
    · exact kept.supervisor.trans supervisor
    · rw [kept.time]
      exact now
    · rw [kept.field]
      exact heads.trans (congrArg FieldLine.heads (takenAt_field _ _))
    · rw [tSettings]
      exact answered
  · refine refused_request tag (.stageSet a) s calm .busy ?_
    show takeStageSet a _ = _
    rw [takeStageSet_eq method _ _ rfl, saves, saveRuns_of_ne_none saving, if_pos rfl]
  · refine refused_request tag (.stageSet a) s calm .range ?_
    have unnamed : voteMethodOf a.method = none := by
      match h : a.method, above with
      | n + 2, _ => rfl
    show takeStageSet a _ = _
    rw [takeStageSet, unnamed]

end Sys2Proof.Machine

namespace Sys2Proof.Machine

/-! ## Switches alone, and motion faults (R106, R114, R115, R117, R119) -/

theorem stallDue_iff (s : State) : stallDue s = true ↔ s.cable.drive ≠ none ∧ ∃ e, s.cable.stall = some e ∧ e ≤ s.now := by
  simp [stallDue, reached_iff, Option.isSome_iff_ne_none]

theorem overloadTrips_alone {s : State} (clear : s.cable.switches.overload = false)
    (off : s.cable.motion = .unreferenced ∨ s.cable.motion = .faulted) :
    overloadTrips s = setSwitches (fun x => { x with overload := true }) s := by
  unfold overloadTrips
  rw [clear, if_neg Bool.false_ne_true]
  rcases off with motion | motion <;> rw [motion]

theorem overloadTrips_fault {s : State} (clear : s.cable.switches.overload = false)
    (referenced : s.cable.motion ≠ .unreferenced) (sound : s.cable.motion ≠ .faulted) :
    overloadTrips s = takeFault .overload (setSwitches (fun x => { x with overload := true }) s) := by
  unfold overloadTrips
  rw [clear, if_neg Bool.false_ne_true]
  split
  case h_1 motion => exact absurd motion referenced
  case h_2 motion => exact absurd motion sound
  case h_3 => rfl

/-- Settles O54: a stall of the driven axis and an overload are faults. -/
theorem motionFaults : Obligations.MotionFaults := by
  unfold Obligations.MotionFaults
  rintro s c cause switches (⟨rfl, rfl, clear, referenced, sound, rfl⟩ | ⟨rfl, rfl, due, driven, rfl⟩)
  · exact ⟨_, congrArg Host.Outcome.next (overloadTrips_fault clear referenced sound), takeFault_faults _ _⟩
  · exact ⟨_, congrArg Host.Outcome.next (if_pos ((stallDue_iff s).2 ⟨driven, due⟩)), takeFault_faults _ _⟩

theorem seekingMode_none {c : Cableway} (off : (∀ x, c.motion ≠ .seekingSurface x) ∨ c.drive ≠ some .reelDown) :
    seekingMode c = none := by
  unfold seekingMode
  split
  case h_1 mode motion drive =>
    rcases off with elsewhere | still
    · exact absurd motion (elsewhere mode)
    · exact absurd drive still
  case h_2 => rfl

/-- R114: the surface contact closes where no surface is sought, or no longer. -/
theorem surfaceCloses_alone {s : State} (clear : s.cable.switches.surface = false)
    (off : (∀ x, s.cable.motion ≠ .seekingSurface x) ∨ s.cable.drive ≠ some .reelDown) :
    surfaceCloses s = setSwitches (fun x => { x with surface := true }) s := by
  unfold surfaceCloses
  rw [clear, if_neg Bool.false_ne_true]
  dsimp only
  rw [seekingMode_none (c := (setSwitches _ s).cable) off]

theorem bottomCloses_alone {s : State} (off : s.cable.drive ≠ some .reelDown) :
    bottomCloses s = setSwitches (fun x => { x with bottom := true }) s := by
  unfold bottomCloses
  dsimp only
  rw [seekingMode_none (c := (setSwitches _ s).cable) (.inr off)]
  split
  case h_1 seeks => exact absurd seeks (by simp)
  case h_2 drive => exact absurd drive off
  case h_3 drive => exact absurd drive off
  case h_4 => rfl

theorem bottomOpens_alone {s : State} (off : s.cable.motion ≠ .seekingBottom .hold ∨ s.cable.hold = none) :
    bottomOpens s = setSwitches (fun x => { x with bottom := false }) s := by
  unfold bottomOpens
  dsimp only
  split
  case h_1 e motion hold =>
    rcases off with elsewhere | none_
    · exact absurd motion elsewhere
    · exact absurd (hold.symm.trans none_) (by simp)
  case h_2 => rfl

/-- Settles O48: switches alone, inputs already there, and faults that are none. -/
theorem switchesAlone : Obligations.SwitchesAlone := by
  unfold Obligations.SwitchesAlone
  refine ⟨fun s => ⟨rfl, rfl, rfl, rfl, fun closed => ?_, fun closed => ?_, fun closed => ?_, fun active => ?_,
    fun b level => ?_, fun b level => ?_⟩, fun s => ⟨fun clear off => ?_, fun clear off => ?_, fun closed off => ?_⟩,
    fun s => ⟨fun clear off => ?_, fun early => ?_⟩⟩
  · exact congrArg Host.Outcome.next (if_pos closed)
  · exact congrArg Host.Outcome.next (if_pos closed)
  · exact congrArg Host.Outcome.next (if_pos closed)
  · exact congrArg Host.Outcome.next (if_pos active)
  · exact congrArg Host.Outcome.next (if_pos level)
  · exact congrArg Host.Outcome.next (if_pos level)
  · exact congrArg Host.Outcome.next (surfaceCloses_alone clear off)
  · have closes : bottomChanges true s = bottomCloses s := by simp [bottomChanges, clear]
    exact congrArg Host.Outcome.next (closes.trans (bottomCloses_alone off))
  · have opens : bottomChanges false s = bottomOpens s := by simp [bottomChanges, closed]
    exact congrArg Host.Outcome.next (opens.trans (bottomOpens_alone off))
  · exact congrArg Host.Outcome.next (overloadTrips_alone clear off)
  · have notDue : ¬ stallDue s = true := by
      rw [stallDue_iff]
      rintro ⟨driven, e, expiry, reached⟩
      rcases early with still | later
      · exact driven still
      · exact absurd (later e expiry) (Nat.not_lt.2 reached)
    exact congrArg Host.Outcome.next (if_neg notDue)

end Sys2Proof.Machine

namespace Sys2Proof.Machine

/-! ## Rejections of a channel (R50, R52, R53) -/

theorem countRejection_low {now : Nat} {c : Channel} (few : c.rejections < 7) :
    countRejection now c = { c with rejections := c.rejections + 1 } := by
  have counted : countUp 8 c.rejections = c.rejections + 1 := if_pos (by omega)
  unfold countRejection
  dsimp only
  rw [counted, if_neg (by omega)]

theorem countRejection_eighth {now : Nat} {c : Channel} (seven : c.rejections = 7) (sound : c.state ≠ .faulted) :
    countRejection now c = enterFault .rejections now c := by
  unfold countRejection
  dsimp only
  rw [seven, if_pos ⟨rfl, sound⟩]

theorem countRejection_faulted {now : Nat} {c : Channel} (least : 7 ≤ c.rejections) (most : c.rejections ≤ 8)
    (faulted : c.state = .faulted) : countRejection now c = { c with rejections := 8 } := by
  have counted : countUp 8 c.rejections = 8 := by
    unfold countUp
    split <;> omega
  unfold countRejection
  dsimp only
  rw [counted, if_neg fun both => both.2 faulted]

/-- What counting a rejection keeps, whatever it makes of the channel. -/
theorem countRejection_keeps (now : Nat) (c : Channel) :
    (countRejection now c).settings = c.settings ∧ (countRejection now c).counters = c.counters := by
  unfold countRejection
  dsimp only
  split <;> exact ⟨rfl, rfl⟩

theorem headInRange_iff (h : Int) : headInRange h = true ↔ -2000000 ≤ h ∧ h ≤ 2000000 := by simp [headInRange]

theorem takeReading_of_headOut {c : Channel} {h : Int} (on : c.state ≠ .off) (out : headInRange h = false) (now : Nat) :
    takeReading now h false c = noteReading now h false none .outOfRange (rejectRange now c) := by
  cases state : c.state with
  | off => exact absurd state on
  | filling | valid | stale | faulted => simp [takeReading, state, out]

/-- R48, R50: a reading that the range check rejects. -/
theorem takeReading_outOfRange {c : Channel} {h : Int} {x : Option Int} (on : c.state ≠ .off)
    (out : (-2000000 ≤ h ∧ h ≤ 2000000 ∧ x = some (correctedValue c.settings h)
        ∧ (correctedValue c.settings h < c.settings.minimum ∨ c.settings.maximum < correctedValue c.settings h))
      ∨ ((h < -2000000 ∨ 2000000 < h) ∧ x = none)) (now : Nat) :
    takeReading now h false c = noteReading now h false x .outOfRange (rejectRange now c) := by
  rcases out with ⟨least, most, rfl, limits⟩ | ⟨beyond, rfl⟩
  · rw [takeReading_of_headInRange on ((headInRange_iff h).2 ⟨least, most⟩), judgeCorrected, if_pos limits]
  · refine takeReading_of_headOut on ?_ now
    rw [← Bool.not_eq_true, headInRange_iff]
    omega

/-- R51: the step check. -/
theorem stepFails_eq {c : Channel} {last : Int} (newest : c.window.getLast? = some last) (v : Int) :
    stepFails c v = (c.settings.stepLimit != 0 && decide (c.settings.stepLimit < (v - last).natAbs)) := by
  simp only [stepFails, newest]

theorem stepFails_false {c : Channel} {v : Int} (near : ∀ last, c.window.getLast? = some last → c.settings.stepLimit = 0
    ∨ (v - last).natAbs ≤ c.settings.stepLimit) : stepFails c v = false := by
  rcases newest : c.window.getLast? with _ | last
  · simp [stepFails, newest]
  · rw [stepFails_eq newest]
    rcases near last newest with zero | within
    · simp [zero]
    · simp [Nat.not_lt.2 within]

/-- R54: the window after a value has joined ends with it. -/
theorem joinWindow_getLast {size : Nat} (pos : 1 ≤ size) (window : List Int) (v : Int) :
    (joinWindow size window v).getLast? = some v := by
  unfold joinWindow
  rw [List.getLast?_drop, if_neg (by simp; omega)]
  simp

theorem agrees_iff {c : Channel} {v : Int} :
    agrees c v = true ↔ ∃ w, c.candidate = some w ∧ (v - w).natAbs ≤ c.settings.stepLimit := by
  rcases candidate : c.candidate with _ | w <;> simp [agrees, candidate]

theorem agrees_false {c : Channel} {v : Int} (far : ∀ w, c.candidate = some w → c.settings.stepLimit < (v - w).natAbs) :
    agrees c v = false := by
  rw [← Bool.not_eq_true, agrees_iff]
  rintro ⟨w, candidate, near⟩
  exact absurd (far w candidate) (Nat.not_lt.2 near)

/-- R52: a value that begins the re-anchor chain or begins it anew. -/
theorem chain_begins {c : Channel} {v : Int}
    (begins : c.chainLength = 0 ∨ ∀ w, c.candidate = some w → c.settings.stepLimit < (v - w).natAbs) (now : Nat) :
    chain now v c = (.step, rejectStep now 1 v c) := by
  refine if_pos ?_
  exact begins.imp_right agrees_false

/-- R52: the second value of a chain. -/
theorem chain_second {c : Channel} {v : Int} (one : c.chainLength = 1)
    (near : ∃ w, c.candidate = some w ∧ (v - w).natAbs ≤ c.settings.stepLimit) (now : Nat) :
    chain now v c = (.step, rejectStep now 2 v c) := by
  have agree : agrees c v = true := agrees_iff.2 near
  simp [chain, one, agree]

/-- R52: the third value that agrees. -/
theorem chain_third {c : Channel} {v : Int} (two : 2 ≤ c.chainLength)
    (near : ∃ w, c.candidate = some w ∧ (v - w).natAbs ≤ c.settings.stepLimit) (now : Nat) :
    chain now v c = (.reAnchor, reAnchor now v c) := by
  have agree : agrees c v = true := agrees_iff.2 near
  have notZero : c.chainLength ≠ 0 := by omega
  have notOne : c.chainLength ≠ 1 := by omega
  simp [chain, notZero, notOne, agree]

/-- R52: a value outside the step limit is a step unless two values before it agree with it. -/
theorem chain_step {c : Channel} {v : Int} (short : c.chainLength = 0
    ∨ (∀ w, c.candidate = some w → c.settings.stepLimit < (v - w).natAbs) ∨ c.chainLength = 1) (now : Nat) :
    ∃ length, chain now v c = (.step, rejectStep now length v c) := by
  rcases short with none | far | one
  · exact ⟨1, chain_begins (.inl none) now⟩
  · exact ⟨1, chain_begins (.inr far) now⟩
  · by_cases near : ∃ w, c.candidate = some w ∧ (v - w).natAbs ≤ c.settings.stepLimit
    · exact ⟨2, chain_second one near now⟩
    · exact ⟨1, chain_begins (.inr fun w candidate => Nat.lt_of_not_le fun within => near ⟨w, candidate, within⟩) now⟩

/-- R49: of a channel a reading's note changes the last reading alone. -/
theorem noteReading_eq (now : Nat) (h : Int) (fault : Bool) (x : Option Int) (v : Verdict) (c : Channel) :
    noteReading now h fault x v c
      = { c with lastReading := some { value := h, fault := fault, corrected := x, runTime := now, verdict := v } } := rfl

/-- R50, R53: what a rejection by range makes of a channel. -/
theorem rejectRange_facts (now : Nat) (c : Channel) :
    (rejectRange now c).settings = c.settings ∧ (rejectRange now c).chainLength = 0 ∧ (rejectRange now c).candidate = none
    ∧ (rejectRange now c).counters = { c.counters with
        range := if c.counters.range < 65535 then c.counters.range + 1 else c.counters.range }
    ∧ (c.rejections < 7 → (rejectRange now c).window = c.window ∧ (rejectRange now c).state = c.state
        ∧ (rejectRange now c).staleExpiry = c.staleExpiry ∧ (rejectRange now c).lastChange = c.lastChange
        ∧ (rejectRange now c).rejections = c.rejections + 1)
    ∧ (c.rejections = 7 → c.state ≠ .faulted → (rejectRange now c).state = .faulted ∧ (rejectRange now c).window = []
        ∧ (rejectRange now c).rejections = 0 ∧ (rejectRange now c).staleExpiry = none
        ∧ (rejectRange now c).lastChange = some { cause := .rejections, runTime := now })
    ∧ (7 ≤ c.rejections → c.rejections ≤ 8 → c.state = .faulted → (rejectRange now c).state = .faulted
        ∧ (rejectRange now c).rejections = 8 ∧ (rejectRange now c).window = c.window
        ∧ (rejectRange now c).staleExpiry = c.staleExpiry ∧ (rejectRange now c).lastChange = c.lastChange) := by
  have keeps := countRejection_keeps now { c with
    chainLength := 0, candidate := none
    counters := { c.counters with range := countUp Config.counterTop c.counters.range } }
  refine ⟨keeps.1, ?_, ?_, keeps.2, fun few => ?_, fun seven sound => ?_, fun least most faulted => ?_⟩
  · unfold rejectRange countRejection
    dsimp only
    split <;> rfl
  · unfold rejectRange countRejection
    dsimp only
    split <;> rfl
  · have low : rejectRange now c = _ := countRejection_low few
    rw [low]
    exact ⟨rfl, rfl, rfl, rfl, rfl⟩
  · have eighth : rejectRange now c = _ := countRejection_eighth seven sound
    rw [eighth]
    exact ⟨rfl, rfl, rfl, rfl, rfl⟩
  · have stands : rejectRange now c = _ := countRejection_faulted least most faulted
    rw [stands]
    exact ⟨faulted, rfl, rfl, rfl, rfl⟩

/-- R52, R53: what a rejection with verdict STEP makes of a channel. -/
theorem rejectStep_facts (now length : Nat) (v : Int) (c : Channel) :
    (rejectStep now length v c).counters = { c.counters with
        step := if c.counters.step < 65535 then c.counters.step + 1 else c.counters.step }
    ∧ (c.rejections < 7 → (rejectStep now length v c).chainLength = length
        ∧ (rejectStep now length v c).window = c.window ∧ (rejectStep now length v c).state = c.state
        ∧ (rejectStep now length v c).staleExpiry = c.staleExpiry ∧ (rejectStep now length v c).lastChange = c.lastChange
        ∧ (rejectStep now length v c).rejections = c.rejections + 1 ∧ (rejectStep now length v c).candidate = some v)
    ∧ (c.rejections = 7 → c.state ≠ .faulted → (rejectStep now length v c).state = .faulted
        ∧ (rejectStep now length v c).window = [] ∧ (rejectStep now length v c).rejections = 0
        ∧ (rejectStep now length v c).chainLength = 0 ∧ (rejectStep now length v c).candidate = none
        ∧ (rejectStep now length v c).staleExpiry = none
        ∧ (rejectStep now length v c).lastChange = some { cause := .rejections, runTime := now })
    ∧ (7 ≤ c.rejections → c.rejections ≤ 8 → c.state = .faulted → (rejectStep now length v c).state = .faulted
        ∧ (rejectStep now length v c).rejections = 8) := by
  have keeps := countRejection_keeps now { c with
    chainLength := length, candidate := some v
    counters := { c.counters with step := countUp Config.counterTop c.counters.step } }
  refine ⟨keeps.2, fun few => ?_, fun seven sound => ?_, fun least most faulted => ?_⟩
  · have low : rejectStep now length v c = _ := countRejection_low few
    rw [low]
    exact ⟨rfl, rfl, rfl, rfl, rfl, rfl, rfl⟩
  · have eighth : rejectStep now length v c = _ := countRejection_eighth seven sound
    rw [eighth]
    exact ⟨rfl, rfl, rfl, rfl, rfl, rfl, rfl⟩
  · have stands : rejectStep now length v c = _ := countRejection_faulted least most faulted
    rw [stands]
    exact ⟨faulted, rfl⟩

theorem headFault_faulted {now : Nat} {c : Channel} (faulted : c.state = .faulted) : headFault now c
    = { c with counters := { c.counters with headFaults := countUp Config.counterTop c.counters.headFaults } } := by
  unfold headFault
  rw [faulted]

theorem headFault_sound {now : Nat} {c : Channel} (sound : c.state ≠ .faulted) : headFault now c
    = enterFault .headFault now
        { c with counters := { c.counters with headFaults := countUp Config.counterTop c.counters.headFaults } } := by
  unfold headFault
  split
  case h_1 faulted => exact absurd faulted sound
  case h_2 => rfl

theorem loseHead_sound {now : Nat} {c : Channel} (on : c.state ≠ .off) (sound : c.state ≠ .faulted) :
    loseHead now c = enterFault .headLost now c := by
  unfold loseHead
  split
  case h_1 off => exact absurd off on
  case h_2 faulted => exact absurd faulted sound
  case h_3 => rfl

/-- R60: an event that leaves the channel leaves the part. -/
theorem channelEvent_same {i : Fin 4} {f : Channel → Channel} {s : State} (same : f s.channels[i] = s.channels[i]) :
    channelEvent i f s = s := by
  have placed : s.setChannel i s.channels[i] = s := by
    have table : s.channels.set i s.channels[i] = s.channels := Vector.set_getElem_self _
    unfold State.setChannel
    rw [table]
    rfl
  unfold channelEvent
  dsimp only
  rw [same, if_pos rfl, if_pos ⟨rfl, rfl⟩, placed]

/-- Settles O40: what readings, faults, a lost head and the stale timer do to a channel. -/
theorem channelStates : Obligations.ChannelStates := by
  unfold Obligations.ChannelStates
  refine ⟨fun s i e expiry => ⟨fun running due => ?_, fun early => ?_⟩, fun now h c on window => ⟨fun x out => ?_,
    fun least most => ?_, ?_, fun sound => ?_, fun faulted => ?_⟩, ?_⟩
  · have stale := goStale_due (now := s.now) expiry due running
    have handed := channelEvent_handed (ChannelBase.refl s) i (goStale s.now)
    have self := (channelEvent_channel i (goStale s.now) s).trans stale
    obtain ⟨u, only, base⟩ := channelEvent_effect i (goStale s.now) s
    refine ⟨_, exec_staleExpiry i s, self, fun j other => channelEvent_channel_ne other _ s, ?_, handed, ?_, ?_⟩
    · have changed : ¬ ((goStale s.now s.channels[i]).state = s.channels[i].state
          ∧ filteredValue (goStale s.now s.channels[i]) = filteredValue s.channels[i]) := by
        rintro ⟨same, -⟩
        rw [stale] at same
        rcases running with state | state <;> rw [state] at same <;> exact ChannelState.noConfusion same
      rw [only.items, base, if_neg changed, stale]
      rfl
    · rw [only.field, base]
      rfl
    · rw [only.time, base]
      rfl
  · have notDue : ¬ staleDue s.now s.channels[i] = true := by
      rw [staleDue, Bool.and_eq_true, reached_iff, expiry]
      rintro ⟨-, d, same, due⟩
      obtain rfl := Option.some.inj same
      omega
    have same : goStale s.now s.channels[i] = s.channels[i] := if_neg notDue
    rw [exec_staleExpiry, channelEvent_same same]
  · obtain ⟨settings, length, candidate, counters, few, seven, faulted⟩ := rejectRange_facts now c
    rw [takeReading_outOfRange on out, noteReading_eq]
    exact ⟨_, rfl, settings, rfl, length, candidate, counters, few, seven, faulted⟩
  · intro low high near
    rw [takeReading_of_headInRange on ((headInRange_iff h).2 ⟨least, most⟩), judgeCorrected,
      if_neg (by omega), stepFails_false near, if_neg Bool.false_ne_true, noteReading_eq]
    refine ⟨_, rfl, rfl, joinWindow_getLast window _ _, rfl, rfl, rfl, ?_⟩
    show ((if fillThreshold c.settings ≤ _ then ChannelState.valid else .filling) = .valid
        ∨ (if fillThreshold c.settings ≤ _ then ChannelState.valid else .filling) = .filling)
      ∧ ((if fillThreshold c.settings ≤ _ then ChannelState.valid else .filling) = .valid ↔ fillThreshold c.settings ≤ _)
    split
    case isTrue enough => exact ⟨.inl rfl, fun _ => enough, fun _ => rfl⟩
    case isFalse short => exact ⟨.inr rfl, fun wrong => ChannelState.noConfusion wrong, fun enough => absurd enough short⟩
  · rw [takeReading_of_fault on, noteReading_eq]
    refine ⟨_, rfl, rfl, ?_⟩
    by_cases faulted : c.state = .faulted
    · rw [headFault_faulted faulted]
      exact ⟨faulted, fun sound => absurd faulted sound, fun _ => ⟨rfl, rfl, rfl, rfl⟩⟩
    · rw [headFault_sound faulted]
      exact ⟨rfl, fun _ => ⟨rfl, rfl, rfl, rfl, rfl⟩, fun wrong => absurd wrong faulted⟩
  · rw [loseHead_sound on sound]
    exact ⟨rfl, rfl, rfl⟩
  · unfold loseHead
    rw [faulted]
  · intro now h v last c on least most value low high newest limit far
    have fails : stepFails c v = true := by
      rw [stepFails_eq newest]
      simpa [limit] using far
    have judged : takeReading now h false c
        = noteReading now h false (some v) (chain now v c).1 (chain now v c).2 := by
      rw [takeReading_of_headInRange on ((headInRange_iff h).2 ⟨least, most⟩), ← value, judgeCorrected, if_neg (by omega),
        fails, if_pos rfl]
    refine ⟨_, rfl, fun short => ?_, fun few begins => ?_, fun few one near => ?_, fun two near => ?_⟩
    · obtain ⟨length, step⟩ := chain_step short now
      obtain ⟨counters, few, seven, faulted⟩ := rejectStep_facts now length v c
      rw [judged, step, noteReading_eq]
      dsimp only
      rw [counters]
      exact ⟨rfl, rfl, rfl, fun low => (few low).2, seven, faulted⟩
    · rw [judged, chain_begins begins, noteReading_eq]
      exact ((rejectStep_facts now 1 v c).2.1 few).1
    · rw [judged, chain_second one near, noteReading_eq]
      exact ((rejectStep_facts now 2 v c).2.1 few).1
    · rw [judged, chain_third two near, noteReading_eq]
      refine ⟨rfl, rfl, rfl, rfl, rfl, rfl, ?_, rfl, rfl, rfl, rfl⟩
      show (if 1 < (c.settings.window + 1) / 2 then ChannelState.filling else .valid) = _
      by_cases small : c.settings.window ≤ 2
      · rw [if_pos small, if_neg (by omega)]
      · rw [if_neg small, if_pos (by omega)]

end Sys2Proof.Machine

namespace Sys2Proof.Machine

/-! ## The arbiter's choice of a poll (R28) -/

/-- R28: of two polls the one chosen: the earlier one, or the later one of equals only where none came before it. -/
def earlier (due : Fin 8 → Nat) (best : Option (Fin 8)) (i : Fin 8) : Option (Fin 8) :=
  match best with
  | none => some i
  | some b => if due i < due b then some i else some b

/-- R28: polls that all fall due later than `i` leave none in hand that does not. -/
theorem foldl_earlier_later {due : Fin 8 → Nat} {i : Fin 8} (xs : List (Fin 8)) (best : Option (Fin 8))
    (later : ∀ j ∈ xs, due i < due j) (held : ∀ b, best = some b → due i < due b) :
    ∀ b, xs.foldl (earlier due) best = some b → due i < due b := by
  induction xs generalizing best with
  | nil => exact held
  | cons x xs ih =>
    refine ih _ (fun j mem => later j (List.mem_cons_of_mem _ mem)) fun b chosen => ?_
    unfold earlier at chosen
    split at chosen
    · obtain rfl := Option.some.inj chosen
      exact later _ (by simp)
    · split at chosen <;> obtain rfl := Option.some.inj chosen
      · exact later _ (by simp)
      · exact held _ rfl

/-- R28: a poll in hand stays chosen against polls that fall due no earlier. -/
theorem foldl_earlier_stays {due : Fin 8 → Nat} {i : Fin 8} (xs : List (Fin 8)) (noEarlier : ∀ j ∈ xs, due i ≤ due j) :
    xs.foldl (earlier due) (some i) = some i := by
  induction xs with
  | nil => rfl
  | cons x xs ih =>
    have stays : earlier due (some i) x = some i := if_neg (Nat.not_lt.2 (noEarlier x (by simp)))
    rw [List.foldl_cons, stays]
    exact ih fun j mem => noEarlier j (List.mem_cons_of_mem _ mem)

/-- R28: the due poll of the earliest next-due time is chosen, the lowest entry number among equals. -/
theorem earliestPoll_eq {s : State} {i : Fin 8} {due : Nat} (enabled : s.field.heads[i].config.enable = true)
    (next : s.field.heads[i].nextDue = some due) (reachedNow : due ≤ s.now)
    (first : ∀ j : Fin 8, j ≠ i → s.field.heads[j].config.enable = true → ∀ e, s.field.heads[j].nextDue = some e →
      due < e ∨ (due = e ∧ i < j)) : earliestPoll s = some i := by
  have isDue : pollIsDue s i = true := by
    rw [pollIsDue, enabled, Bool.true_and, reached_iff]
    exact ⟨due, next, reachedNow⟩
  have order : ∀ j, pollIsDue s j = true → j ≠ i → due < (s.field.heads[j].nextDue.getD 0)
      ∨ (due = s.field.heads[j].nextDue.getD 0 ∧ i < j) := by
    intro j dueJ other
    rw [pollIsDue, Bool.and_eq_true, reached_iff] at dueJ
    obtain ⟨on, e, nextJ, -⟩ := dueJ
    rw [nextJ]
    exact first j other on e nextJ
  have ascending : ((places 8).filter (pollIsDue s)).Pairwise (· < ·) := by
    have all : (places 8).Pairwise (· < ·) := by decide
    exact all.filter _
  have here : i ∈ (places 8).filter (pollIsDue s) := List.mem_filter.2 ⟨mem_places i, isDue⟩
  have dues : ∀ j ∈ (places 8).filter (pollIsDue s), pollIsDue s j = true := fun j mem => (List.mem_filter.1 mem).2
  have fold : earliestPoll s = ((places 8).filter (pollIsDue s)).foldl
      (earlier fun j => s.field.heads[j].nextDue.getD 0) none := rfl
  rw [fold]
  obtain ⟨before, rest, split⟩ := List.append_of_mem here
  rw [split] at ascending dues ⊢
  rw [List.pairwise_append, List.pairwise_cons] at ascending
  obtain ⟨-, ⟨after, -⟩, apart⟩ := ascending
  have dueHere : s.field.heads[i].nextDue.getD 0 = due := by rw [next]; rfl
  have later := foldl_earlier_later (due := fun j => s.field.heads[j].nextDue.getD 0) (i := i) before none
    (fun j mem => by
      have below := apart j mem i (by simp)
      have := order j (dues j (by simp [mem])) below.ne
      omega)
    (fun b none_ => nomatch none_)
  have chosen : earlier (fun j => s.field.heads[j].nextDue.getD 0)
      (before.foldl (earlier fun j => s.field.heads[j].nextDue.getD 0) none) i = some i := by
    unfold earlier
    split
    · rfl
    · rename_i b held
      exact if_pos (later b held)
  rw [List.foldl_append, List.foldl_cons, chosen]
  refine foldl_earlier_stays rest fun j mem => ?_
  have above := after j mem
  have := order j (dues j (by simp [mem])) above.ne'
  omega

/-- R28: with no WARN and no management transaction to send, the earliest due poll is chosen. -/
theorem arbitrate_poll {s : State} {i : Fin 8} (free : s.field.tx = .free) (noWarn : s.field.warn ≠ .standing)
    (noManagement : ∀ m, s.field.management = some m → m.inFlight = true) (poll : earliestPoll s = some i) :
    arbitrate s = chooseTransaction (.poll i) (pollFrame s i) s := by
  have none_ : s.field.management.filter (fun m => !m.inFlight) = none := by
    rcases held : s.field.management with _ | m
    · rfl
    · rw [Option.filter_some, if_neg (by simp [noManagement m held])]
  simp only [arbitrate, free, if_neg noWarn, none_, poll]

/-! ## What the arbiter and a freed transmitter leave -/

/-- What a choice of the arbiter on a FREE transmitter leaves of the field line. -/
theorem arbitrate_free {s : State} (free : s.field.tx = .free) :
    (arbitrate s).field.window = s.field.window ∧ (arbitrate s).field.refresh = s.field.refresh
    ∧ (arbitrate s).field.lastOctet = s.field.lastOctet
    ∧ (s.field.warn ≠ .standing → (arbitrate s).field.warn = s.field.warn)
    ∧ (s.field.management = none → (arbitrate s).field.management = none)
    ∧ ((arbitrate s).field.tx = .free
      ∨ ((arbitrate s).field.tx = .waitingIdle ∧ (arbitrate s).field.deferral = some (s.now + 1500))) := by
  unfold arbitrate
  rw [free]
  dsimp only
  split
  case isTrue standing => exact ⟨rfl, rfl, rfl, fun other => absurd standing other, id, .inr ⟨rfl, rfl⟩⟩
  case isFalse =>
    split
    case h_1 m waits =>
      refine ⟨rfl, rfl, rfl, fun _ => rfl, fun none_ => ?_, .inr ⟨rfl, rfl⟩⟩
      rw [none_] at waits
      exact nomatch waits
    case h_2 =>
      split
      · exact ⟨rfl, rfl, rfl, fun _ => rfl, id, .inr ⟨rfl, rfl⟩⟩
      · exact ⟨rfl, rfl, rfl, fun _ => rfl, id, .inl free⟩

theorem State.FieldAlone.transmitterFree (s : State) : s.FieldAlone (transmitterFree s) :=
  (State.FieldAlone.setField s _).trans (State.FieldAlone.arbitrate _)

/-- R28: what a transmitter that falls FREE leaves of the field line. -/
theorem transmitterFree_field (s : State) :
    (transmitterFree s).field.heads = s.field.heads ∧ (transmitterFree s).field.settings = s.field.settings
    ∧ (transmitterFree s).field.captured = s.field.captured ∧ (transmitterFree s).field.lastSent = s.field.lastSent
    ∧ (transmitterFree s).field.window = none ∧ (transmitterFree s).field.refresh = s.field.refresh
    ∧ (transmitterFree s).field.lastOctet = s.field.lastOctet
    ∧ (s.field.warn ≠ .standing → (transmitterFree s).field.warn = s.field.warn)
    ∧ (s.field.management = none → (transmitterFree s).field.management = none)
    ∧ ((transmitterFree s).field.tx = .free
      ∨ ((transmitterFree s).field.tx = .waitingIdle ∧ (transmitterFree s).field.deferral = some (s.now + 1500))) := by
  unfold transmitterFree
  obtain ⟨settings, captured, heads, lastSent⟩ := arbitrate_tables (s.setField
    { s.field with tx := .free, transaction := none, deferral := none, backoff := none, window := none })
  obtain ⟨window, refresh, lastOctet, warn, management, tx⟩ := arbitrate_free (s := s.setField
    { s.field with tx := .free, transaction := none, deferral := none, backoff := none, window := none }) rfl
  exact ⟨heads, settings, captured, lastSent, window, refresh, lastOctet, warn, management, tx⟩

/-- R41: judging the posts changes no block. -/
theorem keeps_judgePosts (before s : State) : s.Keeps (judgePosts before s) := by
  unfold judgePosts
  split
  · exact keeps_raise_low _ _ _ (by decide)
  · exact Keeps.refl _

/-! ## The transmitter's events -/

theorem exec_pollDue (n : Nat) (s : State) : exec (.pollDue n) s = .next (pollFallsDue n s) := rfl
theorem exec_lineIdle (s : State) : exec .lineIdle s = .next (lineFallsIdle s) := rfl
theorem exec_fieldFrameSent (s : State) : exec .fieldFrameSent s = .next (frameSent s) := rfl
theorem exec_warnRefreshExpiry (s : State) : exec .warnRefreshExpiry s = .next (refreshExpires s) := rfl
theorem exec_collision (s : State) : exec .collision s = .next (collides s) := rfl
theorem exec_backoffExpiry (s : State) : exec .backoffExpiry s = .next (backoffEnds s) := rfl
theorem exec_deferralExpiry (s : State) : exec .deferralExpiry s = .next (deferralExpires s) := rfl
theorem exec_replyWindowExpiry (s : State) : exec .replyWindowExpiry s = .next (windowExpires s) := rfl

/-- R27: a poll that is not due leaves the part. -/
theorem pollFallsDue_early {s : State} {n : Nat} (early : ∀ i : Fin 8, n = i.val + 1 →
    s.field.heads[i].config.enable = false ∨ s.field.heads[i].nextDue = none
      ∨ ∃ e, s.field.heads[i].nextDue = some e ∧ s.now < e) : pollFallsDue n s = s := by
  unfold pollFallsDue
  split
  case h_1 i at_ =>
    refine if_neg ?_
    rw [pollIsDue, Bool.and_eq_true, reached_iff]
    rintro ⟨on, e, next, due⟩
    rcases early i ((place_eq_some _ _ _).1 at_) with off | none_ | ⟨d, later, notYet⟩
    · exact Bool.false_ne_true (off.symm.trans on)
    · exact nomatch none_.symm.trans next
    · obtain rfl := Option.some.inj (later.symm.trans next)
      omega
  case h_2 => rfl

theorem idleDue_iff (s : State) : idleDue s = true ↔ s.field.tx = .waitingIdle
    ∧ (s.field.lastOctet = none ∨ ∃ last, s.field.lastOctet = some last ∧ last + 2 ≤ s.now) := by
  have quiet : lineQuiet s = true
      ↔ (s.field.lastOctet = none ∨ ∃ last, s.field.lastOctet = some last ∧ last + 2 ≤ s.now) := by
    rcases octet : s.field.lastOctet with _ | last
    · simp [lineQuiet, octet]
    · simp only [lineQuiet, octet, decide_eq_true_eq]
      refine ⟨fun passed => .inr ⟨last, rfl, passed⟩, fun held => ?_⟩
      obtain none_ | ⟨l, same, passed⟩ := held
      · exact nomatch none_
      · exact Option.some.inj same ▸ passed
  rw [idleDue, Bool.and_eq_true, beq_iff_eq, quiet]

/-- R39: the WARN request is raised at an expiry of the refresh timer. -/
def refreshAsks (s : State) : Prop := s.field.warn = .heldBack ∨ 1 ≤ s.warning.level ∨ anyMismatch s = true

theorem refreshExpires_due {s : State} (due : s.field.refresh ≤ s.now) (asks : refreshAsks s) :
    refreshExpires s = requestWarn (s.setField { s.field with refresh := s.now + 30000 }) :=
  (if_pos (decide_eq_true due : refreshDue s = true)).trans (if_pos asks)

theorem refreshExpires_silent {s : State} (due : s.field.refresh ≤ s.now) (silent : ¬ refreshAsks s) :
    refreshExpires s = s.setField { s.field with refresh := s.now + 30000 } :=
  (if_pos (decide_eq_true due : refreshDue s = true)).trans (if_neg silent)

theorem refreshExpires_early {s : State} (early : s.now < s.field.refresh) : refreshExpires s = s :=
  if_neg (by simpa [refreshDue] using early)

/-- R30, R31: a frame other than a WARN that has gone opens the reply window. -/
theorem frameSent_window {s : State} {x : Transaction} (sending : s.field.tx = .sending)
    (flight : s.field.transaction = some x) (noWarn : ∀ level, x.kind ≠ .warn level) :
    frameSent s = s.setField { s.field with
      lastOctet := some s.now, tx := .replyWindow, window := some (s.now + 250) } := by
  unfold frameSent
  rw [sending, flight]
  dsimp only
  split
  case h_1 level kind => exact absurd kind (noWarn level)
  case h_2 => rfl

/-- R40: a WARN that has gone. -/
theorem frameSent_warn {s : State} {x : Transaction} {level : Nat} (sending : s.field.tx = .sending)
    (flight : s.field.transaction = some x) (kind : x.kind = .warn level) :
    frameSent s = transmitterFree (warnSent level (s.setField { s.field with lastOctet := some s.now })) := by
  unfold frameSent
  rw [sending, flight]
  dsimp only
  rw [kind]

/-- R40: the field line of the level last sent. -/
theorem warnSent_fieldAlone (level : Nat) (s : State) : s.FieldAlone (warnSent level s) :=
  (State.FieldAlone.setField s _).trans (State.FieldAlone.ofKeeps (keeps_judgePosts _ _))

theorem warnSent_field (level : Nat) (s : State) : (warnSent level s).field
    = { s.field with lastSent := some { level := level, runTime := s.now }, refresh := s.now + 30000 } :=
  (keeps_judgePosts s _).field

/-- Settles O41: the poll chosen, the frame let out, the window opened, the WARN sent, and the refresh timer. -/
theorem transmit : Obligations.Transmit := by
  unfold Obligations.Transmit
  refine ⟨⟨fun s i due free noWarn noManagement enabled next reachedNow first => ?_, fun s n early => ?_,
    fun s x waits flight quiet => ?_, fun s other => ?_, fun s x sending flight => ⟨fun noWarn => ?_,
    fun level kind => ?_⟩⟩, fun s => ⟨fun due asks => ?_, fun due notHeld low matched => ?_, fun early => ?_⟩⟩
  · have poll := earliestPoll_eq enabled next reachedNow first
    have isDue : pollIsDue s i = true := by
      rw [pollIsDue, enabled, Bool.true_and, reached_iff]
      exact ⟨due, next, reachedNow⟩
    have falls : pollFallsDue (i.val + 1) s = chooseTransaction (.poll i) (pollFrame s i) s := by
      have at_ : place (i.val + 1) 8 = some i := (place_eq_some _ _ _).2 rfl
      unfold pollFallsDue
      rw [at_]
      exact (if_pos isDue).trans (arbitrate_poll free noWarn noManagement poll)
    rw [exec_pollDue, falls]
    exact ⟨_, rfl, rfl, rfl⟩
  · rw [exec_pollDue, pollFallsDue_early early]
  · have falls : lineFallsIdle s = s.setField { s.field with
        tx := .sending, deferral := none, gathering := none
        transaction := some { x with frame := { x.frame with source := s.field.settings.ownAddress } } } := by
      unfold lineFallsIdle
      rw [if_pos ((idleDue_iff s).2 ⟨waits, quiet⟩), flight]
      rfl
    rw [exec_lineIdle, falls]
    exact ⟨_, rfl, rfl, rfl⟩
  · have stays : lineFallsIdle s = s := if_neg fun due => other ((idleDue_iff s).1 due).1
    rw [exec_lineIdle, stays]
  · rw [exec_fieldFrameSent, frameSent_window sending flight noWarn]
    exact ⟨_, rfl, rfl, rfl⟩
  · obtain ⟨heads, settings, -, lastSent, -, refresh, lastOctet, -, -, tx⟩ := transmitterFree_field
      (warnSent level (s.setField { s.field with lastOctet := some s.now }))
    rw [warnSent_field] at heads settings lastSent refresh lastOctet
    rw [exec_fieldFrameSent, frameSent_warn sending flight kind]
    refine ⟨_, rfl, ?_, lastSent, refresh, lastOctet, heads, settings, tx.imp_right And.left⟩
    exact ((State.FieldAlone.setField s _).trans (warnSent_fieldAlone level _)).trans (State.FieldAlone.transmitterFree _)
  · rw [exec_warnRefreshExpiry, refreshExpires_due due asks]
    have alone := requestWarn_eq (s.setField { s.field with refresh := s.now + 30000 })
    by_cases free : s.field.tx = .free
    · have field := requestWarn_free (s := s.setField { s.field with refresh := s.now + 30000 }) free
      rw [field] at alone
      rw [alone]
      exact ⟨_, rfl, rfl, rfl, rfl, fun busy => absurd free busy, fun _ => ⟨rfl, rfl, rfl, rfl⟩⟩
    · have field := requestWarn_busy (s := s.setField { s.field with refresh := s.now + 30000 }) free
      rw [field] at alone
      rw [alone]
      exact ⟨_, rfl, rfl, rfl, rfl, fun _ => rfl, fun idle => absurd idle free⟩
  · have silent : ¬ refreshAsks s := by
      rintro (held | level | wrong)
      · exact notHeld held
      · omega
      · exact Bool.false_ne_true (matched.symm.trans wrong)
    rw [exec_warnRefreshExpiry, refreshExpires_silent due silent]
  · rw [exec_warnRefreshExpiry, refreshExpires_early early]

end Sys2Proof.Machine

namespace Sys2Proof.Machine

/-! ## The ends of transactions (R32 to R34, R37, R43) -/

theorem setEntry_get (i : Fin 8) (f : HeadEntry → HeadEntry) (s : State) :
    (setEntry i f s).field.heads[i] = f s.field.heads[i] := Vector.getElem_set_self _

theorem setEntry_get_ne {i j : Fin 8} (other : j ≠ i) (f : HeadEntry → HeadEntry) (s : State) :
    (setEntry i f s).field.heads[j] = s.field.heads[j] :=
  Vector.getElem_set_ne i.isLt j.isLt fun same => other (Fin.ext same).symm

theorem setEntry_setEntry (i : Fin 8) (f g : HeadEntry → HeadEntry) (s : State) :
    setEntry i g (setEntry i f s) = setEntry i (fun e => g (f e)) s := by
  have self := setEntry_get i f s
  unfold setEntry State.setHead at self ⊢
  rw [self]
  simp [State.setField, Vector.set_set]

theorem State.FieldAlone.setEntry (i : Fin 8) (f : HeadEntry → HeadEntry) (s : State) : s.FieldAlone (setEntry i f s) :=
  State.FieldAlone.setHead s i _

/-- R27: outside quiet mode a poll that has ended is due again a normal interval on. -/
theorem scheduleEntry_normal (i : Fin 8) {s : State} (normal : s.supervisor.quiet = .normal) : scheduleEntry i s
    = setEntry i (fun e => { e with nextDue := some (s.now + e.config.normal * 1000) }) s := by
  have notQuiet : s.quietInForce = false := by simp [State.quietInForce, normal]
  simp [scheduleEntry, nextDueAfterPoll, notQuiet]

theorem scheduleEntry_fieldAlone (i : Fin 8) (s : State) : s.FieldAlone (scheduleEntry i s) :=
  State.FieldAlone.setEntry i _ s

/-- R37: the end of the management transaction. -/
theorem endManagement_eq {s : State} {m : Management} (held : s.field.management = some m) (address : Nat)
    (o : ParamOutcome) : endManagement address o s
      = raise .headParamDone (headParamDoneContent s m address o) (s.setField { s.field with management := none }) := by
  unfold endManagement
  rw [held]

theorem endManagement_fieldAlone (address : Nat) (o : ParamOutcome) (s : State) :
    s.FieldAlone (endManagement address o s) := by
  unfold endManagement
  split
  · exact (State.FieldAlone.setField s _).trans (State.FieldAlone.ofKeeps (keeps_raise_low _ _ _ (by decide)))
  · exact Keeps.refl s

theorem endManagement_field (address : Nat) (o : ParamOutcome) (s : State) :
    (endManagement address o s).field = { s.field with management := none } := by
  unfold endManagement
  split
  case h_1 => exact raise_field _ _ _
  case h_2 none_ => rw [← none_]

/-- R37, R38: HEAD_PARAM_DONE, and no other notice. -/
theorem endManagement_told {s : State} {m : Management} (held : s.field.management = some m) (address : Nat)
    (o : ParamOutcome) : s.Told (endManagement address o s) .headParamDone (headParamDoneContent s m address o) := by
  rw [endManagement_eq held]
  exact told_raise _ _ (s.setField { s.field with management := none }) (by decide)

theorem endManagement_raises (address : Nat) (o : ParamOutcome) (s : State) :
    RaisesOnly [.headParamDone] s (endManagement address o s) := by
  unfold endManagement
  split
  · exact (RaisesOnly.raise (by simp) (by decide) _ _).after
  · exact RaisesOnly.refl _ s

theorem transmitterFree_raises (l : List NoticeSource) (s : State) : RaisesOnly l s (transmitterFree s) :=
  RaisesOnly.ofSame (transmitterFree_link s) (transmitterFree_notices s)

/-! ## A transaction that fails (R34, R37, R39, R43) -/

theorem failRequester_fieldAlone (x : LineFailure) (t : Transaction) (s : State) :
    s.FieldAlone (failRequester x t s) := by
  unfold failRequester
  split
  · exact (State.FieldAlone.setEntry _ _ s).trans (scheduleEntry_fieldAlone _ _)
  · exact endManagement_fieldAlone _ _ s
  · exact State.FieldAlone.setField s _

theorem failTransaction_fieldAlone (x : LineFailure) (t : Transaction) (s : State) :
    s.FieldAlone (failTransaction x t s) :=
  ((failRequester_fieldAlone x t s).trans (State.FieldAlone.ofKeeps (keeps_raise_low _ _ _ (by decide)))).trans
    (State.FieldAlone.transmitterFree _)

/-- What a failed transaction leaves of the field line, but for the arbiter's choice. -/
theorem failTransaction_field (x : LineFailure) (t : Transaction) (s : State) :
    (failTransaction x t s).field.heads = (failRequester x t s).field.heads
    ∧ (failTransaction x t s).field.settings = (failRequester x t s).field.settings
    ∧ (failTransaction x t s).field.captured = (failRequester x t s).field.captured
    ∧ (failTransaction x t s).field.lastSent = (failRequester x t s).field.lastSent
    ∧ ((failRequester x t s).field.warn ≠ .standing →
        (failTransaction x t s).field.warn = (failRequester x t s).field.warn)
    ∧ ((failRequester x t s).field.management = none → (failTransaction x t s).field.management = none)
    ∧ ((failTransaction x t s).field.tx = .free
      ∨ ((failTransaction x t s).field.tx = .waitingIdle ∧ (failTransaction x t s).field.deferral = some (s.now + 1500))) := by
  obtain ⟨heads, settings, captured, lastSent, -, -, -, warn, management, tx⟩ := transmitterFree_field
    (raise .lineFault (lineFaultContent s t (txEntry s t.kind) (failureCode x)) (failRequester x t s))
  have now : (failRequester x t s).now = s.now := congrArg TimeBase.runTime (failRequester_fieldAlone x t s).time
  simp only [raise_field] at heads settings captured lastSent warn management
  rw [State.now, raise_time] at tx
  rw [← now]
  exact ⟨heads, settings, captured, lastSent, warn, management, tx⟩

/-- R34: a poll that failed is scheduled again. -/
theorem failRequester_poll {x : LineFailure} {t : Transaction} {s : State} {i : Fin 8} (kind : t.kind = .poll i)
    (normal : s.supervisor.quiet = .normal) : failRequester x t s = setEntry i (fun e => { e with
      lastOutcome := some (failureOutcome x), nextDue := some (s.now + e.config.normal * 1000) }) s := by
  unfold failRequester
  rw [kind]
  have scheduled := scheduleEntry_normal i
    (s := setEntry i (fun e => { e with lastOutcome := some (failureOutcome x) }) s) normal
  exact scheduled.trans (setEntry_setEntry i _ _ s)

theorem failRequester_warn {x : LineFailure} {t : Transaction} {s : State} {level : Nat} (kind : t.kind = .warn level) :
    failRequester x t s = s.setField { s.field with warn := .heldBack } := by
  unfold failRequester
  rw [kind]

theorem failRequester_management {x : LineFailure} {t : Transaction} {s : State} (kind : t.kind = .management) :
    failRequester x t s = endManagement t.frame.destination (failureParam x) s := by
  unfold failRequester
  rw [kind]

theorem failRequester_raises (x : LineFailure) (t : Transaction) (s : State) :
    RaisesOnly [.headParamDone] s (failRequester x t s) := by
  unfold failRequester
  split
  · exact RaisesOnly.ofSame rfl rfl
  · exact endManagement_raises _ _ s
  · exact RaisesOnly.ofSame rfl rfl

/-- R43: LINE_FAULT. -/
theorem failTransaction_told (x : LineFailure) (t : Transaction) (s : State) :
    s.Told (failTransaction x t s) .lineFault (lineFaultContent s t (txEntry s t.kind) (failureCode x)) := by
  intro occupied
  have requester := failRequester_raises x t s
  have free := transmitterFree_notices
    (raise .lineFault (lineFaultContent s t (txEntry s t.kind) (failureCode x)) (failRequester x t s))
  have slot := requester.untold (src := .lineFault) (by decide) occupied
  rw [failTransaction, free, raise_slot _ _ (by decide) (requester.occupied occupied), slot]

/-- R37, R38: HEAD_PARAM_DONE of a management transaction that fails. -/
theorem failTransaction_paramTold {x : LineFailure} {t : Transaction} {s : State} {m : Management}
    (kind : t.kind = .management) (held : s.field.management = some m) : s.Told (failTransaction x t s) .headParamDone
      (headParamDoneContent s m t.frame.destination (failureParam x)) := by
  intro occupied
  have done := endManagement_told held t.frame.destination (failureParam x) occupied
  have requester := failRequester_raises x t s
  have free := transmitterFree_notices
    (raise .lineFault (lineFaultContent s t (txEntry s t.kind) (failureCode x)) (failRequester x t s))
  rw [failTransaction, free, raise_slot_ne _ _ (by decide) (by decide) (requester.occupied occupied),
    failRequester_management kind]
  exact done

theorem failTransaction_poll {x : LineFailure} {t : Transaction} {s : State} {i : Fin 8} (kind : t.kind = .poll i)
    (normal : s.supervisor.quiet = .normal) :
    (failTransaction x t s).field.heads[i] = { s.field.heads[i] with
      lastOutcome := some (failureOutcome x), nextDue := some (s.now + s.field.heads[i].config.normal * 1000) }
    ∧ ∀ j : Fin 8, j ≠ i → (failTransaction x t s).field.heads[j] = s.field.heads[j] := by
  rw [(failTransaction_field x t s).1, failRequester_poll kind normal]
  exact ⟨setEntry_get i _ s, fun j other => setEntry_get_ne other _ s⟩

/-! ## Collisions (R30) -/

/-- R30: the transaction after a collision, its attempt counted. -/
def collidedOnce (x : Transaction) : Transaction := { x with attempts := x.attempts + 1 }

/-- R30: the part at a collision, the frame stopped. -/
def frameStopped (x : Transaction) (s : State) : State :=
  s.setField { s.field with transaction := some (collidedOnce x), lastOctet := some s.now }

theorem collides_backoff {s : State} {x : Transaction} (sending : s.field.tx = .sending)
    (flight : s.field.transaction = some x) (more : x.singleAttempt = false) (few : x.attempts < 7) :
    collides s = enterBackoff (collidedOnce x) (frameStopped x s) := by
  unfold collides
  rw [sending, flight]
  refine if_neg ?_
  rintro (single | many)
  · exact Bool.false_ne_true (more.symm.trans single)
  · exact absurd many (Nat.not_le.2 (Nat.succ_lt_succ few))

theorem collides_out {s : State} {x : Transaction} (sending : s.field.tx = .sending)
    (flight : s.field.transaction = some x) (out : x.singleAttempt = true ∨ 7 ≤ x.attempts) :
    collides s = failTransaction .excessCollision (collidedOnce x) (frameStopped x s) := by
  unfold collides
  rw [sending, flight]
  exact if_pos (out.imp_right Nat.succ_le_succ)

theorem collides_other {s : State} (other : s.field.tx ≠ .sending) : collides s = s := by
  unfold collides
  split
  case h_1 t sending flight => exact absurd sending other
  case h_2 => rfl

theorem backoffDue_iff {s : State} {e : Nat} (waits : s.field.tx = .backoff) (ends : s.field.backoff = some e) :
    backoffDue s = true ↔ e ≤ s.now := by
  rw [backoffDue, waits, ends]
  simp [reached]

/-- Settles O42: the backoff wait, and the transaction that collides out. -/
theorem backoff : Obligations.Backoff := by
  unfold Obligations.Backoff
  refine ⟨fun s x sending flight => ⟨fun more few => ?_, fun i kind out normal => ?_, fun out => ?_⟩, fun s other => ?_,
    fun s e waits ends => ⟨fun due => ?_, fun early => ?_⟩⟩
  · rw [exec_collision, collides_backoff sending flight more few]
    exact ⟨_, _, rfl, rfl, Nat.mod_lt _ (Nat.two_pow_pos _), rfl⟩
  · have entry := failTransaction_poll (x := .excessCollision) (t := collidedOnce x) (s := frameStopped x s) kind normal
    obtain ⟨-, settings, captured, -, -, -, tx⟩ := failTransaction_field .excessCollision (collidedOnce x) (frameStopped x s)
    have requester := failRequester_poll (x := .excessCollision) (t := collidedOnce x) (s := frameStopped x s) kind normal
    rw [requester] at settings captured
    rw [exec_collision, collides_out sending flight out]
    refine ⟨_, rfl, ?_, entry.1, entry.2, settings, captured, tx.imp_right And.left⟩
    exact (State.FieldAlone.setField s _).trans (failTransaction_fieldAlone _ _ _)
  · have alone := (State.FieldAlone.setField s { s.field with
      transaction := some { x with attempts := x.attempts + 1 }, lastOctet := some s.now }).trans
      (failTransaction_fieldAlone .excessCollision { x with attempts := x.attempts + 1 } _)
    obtain ⟨heads, -, -, lastSent, warn, management, tx⟩ := failTransaction_field .excessCollision (collidedOnce x) (frameStopped x s)
    rw [exec_collision, collides_out sending flight out]
    refine ⟨fun level kind => ?_, fun m kind held => ?_, fun occupied => ?_⟩
    · rw [failRequester_warn (t := collidedOnce x) kind] at heads lastSent warn
      exact ⟨_, rfl, alone, warn (fun standing => nomatch standing), heads, lastSent, tx⟩
    · rw [failRequester_management (t := collidedOnce x) kind, endManagement_field] at heads management
      have told := failTransaction_paramTold (x := .excessCollision) (t := collidedOnce x) (s := frameStopped x s) kind held
      exact ⟨_, rfl, alone, management rfl, heads, tx, fun occupied => ⟨_, told occupied, rfl⟩⟩
    · have told := failTransaction_told .excessCollision (collidedOnce x) (frameStopped x s) occupied
      refine ⟨_, _, rfl, told, txKindCode x.kind, optNum 1 (txEntry s x.kind), rfl, fun i kind => ?_, fun kind => ?_,
        fun level kind => ?_⟩
      · rw [kind]
        exact ⟨rfl, rfl⟩
      · rw [kind]
        exact ⟨rfl, rfl⟩
      · rw [kind]
        exact ⟨rfl, rfl⟩
  · rw [exec_collision, collides_other other]
  · rw [exec_backoffExpiry, backoffEnds, if_pos ((backoffDue_iff waits ends).2 due)]
    rfl
  · rw [exec_backoffExpiry, backoffEnds, if_neg fun due => absurd ((backoffDue_iff waits ends).1 due) (Nat.not_le.2 early)]

/-! ## Transactions deferred out or unanswered (R29, R31, R33, R37) -/

theorem deferralExpires_due {s : State} {x : Transaction} {d : Nat} (waits : s.field.tx = .waitingIdle)
    (flight : s.field.transaction = some x) (timer : s.field.deferral = some d) (due : d ≤ s.now) :
    deferralExpires s = failTransaction .deferredOut x s := by
  unfold deferralExpires
  rw [flight]
  refine if_pos ?_
  rw [deferralDue, waits, timer]
  simpa [reached] using due

theorem deferralExpires_early {s : State} {d : Nat} (timer : s.field.deferral = some d) (early : s.now < d) :
    deferralExpires s = s := by
  unfold deferralExpires
  split
  · refine if_neg ?_
    rw [deferralDue, timer]
    simp [reached, early]
  · rfl

theorem windowDue_iff {s : State} {w : Nat} (waits : s.field.tx = .replyWindow) (timer : s.field.window = some w) :
    windowDue s = true ↔ w ≤ s.now := by
  rw [windowDue, waits, timer]
  simp [reached]

theorem windowExpires_poll {s : State} {x : Transaction} {i : Fin 8} (due : windowDue s = true)
    (flight : s.field.transaction = some x) (kind : x.kind = .poll i) :
    windowExpires s = transmitterFree (pollUnanswered i s) := by
  unfold windowExpires
  rw [if_pos due, flight]
  dsimp only
  rw [kind]

theorem windowExpires_management {s : State} {x : Transaction} (due : windowDue s = true)
    (flight : s.field.transaction = some x) (kind : x.kind = .management) :
    windowExpires s = transmitterFree (endManagement x.frame.destination .noReply s) := by
  unfold windowExpires
  rw [if_pos due, flight]
  dsimp only
  rw [kind]

/-- R33: the entry of an unanswered poll, outside quiet mode. -/
def unansweredEntry (now : Nat) (e : HeadEntry) : HeadEntry :=
  { unanswered e with nextDue := some (now + e.config.normal * 1000) }

theorem pollUnanswered_eq (i : Fin 8) {s : State} (normal : s.supervisor.quiet = .normal) : pollUnanswered i s
    = if s.field.heads[i].noReply = 2 then fallSilent s i (setEntry i (unansweredEntry s.now) s)
      else setEntry i (unansweredEntry s.now) s := by
  have scheduled := scheduleEntry_normal i (s := setEntry i unanswered s) normal
  have counted : scheduleEntry i (setEntry i unanswered s) = setEntry i (unansweredEntry s.now) s :=
    scheduled.trans (setEntry_setEntry i _ _ s)
  rw [pollUnanswered, counted]

/-- R33: a POST entry that falls SILENT loses its status. -/
theorem fallSilent_post {before s : State} {i : Fin 8} (post : s.field.heads[i].config.kind = .post) :
    fallSilent before i s = judgePosts before (setEntry i (fun e => { e with post := none }) s) := by
  unfold fallSilent
  rw [post]

/-- R33, R57: the channel of a STAGE entry that falls SILENT loses its head. -/
theorem fallSilent_stage {before s : State} {i : Fin 8} {c : Fin 4} (stage : s.field.heads[i].config.kind = .stage)
    (feeds : s.field.heads[i].config.channel = some (c.val + 1)) :
    fallSilent before i s = channelEvent c (loseHead s.now) s := by
  have at_ : place (c.val + 1) 4 = some c := (place_eq_some _ _ _).2 rfl
  unfold fallSilent feedChannel
  rw [stage, feeds]
  simp only [Option.bind_some, at_]

theorem pollUnanswered_fieldAlone {s : State} {i : Fin 8} (normal : s.supervisor.quiet = .normal)
    (noChannel : s.field.heads[i].noReply ≠ 2 ∨ s.field.heads[i].config.kind = .post) :
    s.FieldAlone (pollUnanswered i s)
    ∧ (pollUnanswered i s).field.heads[i] = { s.field.heads[i] with
        lastOutcome := some .noReply
        noReply := if s.field.heads[i].noReply < 3 then s.field.heads[i].noReply + 1 else s.field.heads[i].noReply
        state := if 2 ≤ s.field.heads[i].noReply then .silent else s.field.heads[i].state
        nextDue := some (s.now + s.field.heads[i].config.normal * 1000)
        post := if s.field.heads[i].noReply = 2 then none else s.field.heads[i].post }
    ∧ ∀ j : Fin 8, j ≠ i → (pollUnanswered i s).field.heads[j] = s.field.heads[j] := by
  rw [pollUnanswered_eq i normal]
  by_cases third : s.field.heads[i].noReply = 2
  · have post : (setEntry i (unansweredEntry s.now) s).field.heads[i].config.kind = .post := by
      rw [setEntry_get]
      exact noChannel.resolve_left fun not => not third
    rw [if_pos third, fallSilent_post post, setEntry_setEntry]
    have keeps := keeps_judgePosts s
      (setEntry i (fun e => { unansweredEntry s.now e with post := none }) s)
    refine ⟨(State.FieldAlone.setEntry i _ s).trans (State.FieldAlone.ofKeeps keeps), ?_, fun j other => ?_⟩
    · rw [keeps.field, setEntry_get, if_pos third]
      rfl
    · rw [keeps.field, setEntry_get_ne other]
  · rw [if_neg third]
    refine ⟨State.FieldAlone.setEntry i _ s, ?_, fun j other => setEntry_get_ne other _ s⟩
    rw [setEntry_get, if_neg third]
    rfl

theorem ChannelBase.transmitterFree (s : State) : ChannelBase s (transmitterFree s) where
  channels := transmitterFree_channels s
  stage := transmitterFree_stage s
  warning := by rw [transmitterFree_warning]; exact sameBut_refl _
  supervisor := transmitterFree_supervisor s
  now := congrArg TimeBase.runTime (transmitterFree_time s)
  stationTime := congrArg TimeBase.stationTime (transmitterFree_time s)
  told := fun occupied => by
    rw [transmitterFree_link, transmitterFree_notices]
    exact ⟨occupied, rfl, rfl⟩

/-- Settles O43: transactions deferred out and reply windows that end unanswered. -/
theorem lineFailures : Obligations.LineFailures := by
  unfold Obligations.LineFailures
  refine ⟨⟨fun s x d waits flight timer due normal => ?_, fun s d timer early => ?_,
    fun s x w i waits flight kind timer normal => ⟨fun due noChannel => ?_, fun due third stage c feeds => ?_,
      fun early => ?_⟩⟩, fun s x m c outcome flight kind held ended => ?_⟩
  · obtain ⟨heads, -, -, lastSent, warn, management, tx⟩ := failTransaction_field .deferredOut x s
    rw [exec_deferralExpiry, deferralExpires_due waits flight timer due]
    refine ⟨fun i kind => ?_, fun level kind => ?_, fun kind => ?_⟩
    · have entry := failTransaction_poll (x := .deferredOut) kind normal
      exact ⟨_, rfl, failTransaction_fieldAlone _ x s, entry.1, entry.2, tx⟩
    · rw [failRequester_warn kind] at heads lastSent warn
      exact ⟨_, rfl, failTransaction_fieldAlone _ x s, warn (fun standing => nomatch standing), heads, lastSent, tx⟩
    · rw [failRequester_management kind, endManagement_field] at heads management
      exact ⟨_, rfl, failTransaction_fieldAlone _ x s, management rfl, heads⟩
  · rw [exec_deferralExpiry, deferralExpires_early timer early]
  · obtain ⟨alone, self, others⟩ := pollUnanswered_fieldAlone normal noChannel
    obtain ⟨heads, -, -, -, -, -, -, -, -, tx⟩ := transmitterFree_field (pollUnanswered i s)
    rw [exec_replyWindowExpiry, windowExpires_poll ((windowDue_iff waits timer).2 due) flight kind]
    rw [← heads] at self others
    exact ⟨_, rfl, alone.trans (State.FieldAlone.transmitterFree _), self, others, tx.imp_right And.left⟩
  · have base : ChannelBase s (setEntry i (unansweredEntry s.now) s) :=
      ⟨rfl, rfl, rfl, rfl, rfl, rfl, fun occupied => ⟨occupied, rfl, rfl⟩⟩
    have self := setEntry_get i (unansweredEntry s.now) s
    have silent : pollUnanswered i s = channelEvent c (loseHead s.now) (setEntry i (unansweredEntry s.now) s) := by
      rw [pollUnanswered_eq i normal, if_pos third]
      refine fallSilent_stage ?_ ?_
      · rw [self]
        exact stage
      · rw [self]
        exact feeds
    obtain ⟨heads, -⟩ := transmitterFree_field (pollUnanswered i s)
    obtain ⟨u, only, u_eq⟩ := channelEvent_effect c (loseHead s.now) (setEntry i (unansweredEntry s.now) s)
    have entry : (transmitterFree (pollUnanswered i s)).field.heads[i] = unansweredEntry s.now s.field.heads[i] := by
      rw [heads, silent, only.field, u_eq]
      exact self
    have handed := channelEvent_handed base c (loseHead s.now)
    have occupied : s.link.notice ≠ none →
        (channelEvent c (loseHead s.now) (setEntry i (unansweredEntry s.now) s)).link.notice ≠ none := fun notice =>
      (RaisesOnly.channelEvent c (loseHead s.now) (setEntry i (unansweredEntry s.now) s)).occupied notice
    rw [exec_replyWindowExpiry, windowExpires_poll ((windowDue_iff waits timer).2 due) flight kind]
    refine ⟨_, rfl, ?_, ?_, ?_, fun j other => ?_, ?_⟩
    · rw [entry]
      exact if_pos (by omega)
    · rw [entry]
      show countUp 3 s.field.heads[i].noReply = 3
      rw [third]
      rfl
    · rw [transmitterFree_channels, silent, channelEvent_channel]
      rfl
    · rw [transmitterFree_channels, silent, channelEvent_channel_ne other]
      rfl
    · rw [silent]
      exact handed.after (ChannelBase.transmitterFree _) occupied
  · have stays : windowExpires s = s := if_neg fun due => absurd ((windowDue_iff waits timer).1 due) (Nat.not_le.2 early)
    rw [exec_replyWindowExpiry, stays]
  · rcases ended with ⟨rfl, rfl, waits, w, timer, due⟩ | ⟨rfl, rfl, waits, d, timer, due⟩
    · obtain ⟨heads, settings, captured, lastSent, -, -, -, -, management, tx⟩ := transmitterFree_field
        (endManagement x.frame.destination .noReply s)
      rw [endManagement_field] at heads settings captured lastSent management
      have told := endManagement_told held x.frame.destination .noReply
      have quiet := (endManagement_raises x.frame.destination .noReply s).untold (src := .lineFault) (by decide)
      have now : (endManagement x.frame.destination .noReply s).now = s.now :=
        congrArg TimeBase.runTime (endManagement_fieldAlone _ _ s).time
      rw [now] at tx
      rw [exec_replyWindowExpiry, windowExpires_management ((windowDue_iff waits timer).2 due) flight kind]
      refine ⟨_, rfl, (endManagement_fieldAlone _ _ s).trans (State.FieldAlone.transmitterFree _), management rfl, heads,
        settings, captured, lastSent, tx, fun occupied => ?_⟩
      rw [transmitterFree_notices]
      exact ⟨⟨_, told occupied, rfl⟩, fun _ => quiet occupied, fun wrong => nomatch wrong⟩
    · obtain ⟨heads, settings, captured, lastSent, -, management, tx⟩ := failTransaction_field .deferredOut x s
      rw [failRequester_management kind, endManagement_field] at heads settings captured lastSent management
      have told := failTransaction_paramTold (x := .deferredOut) kind held
      have fault := failTransaction_told .deferredOut x s
      rw [exec_deferralExpiry, deferralExpires_due waits flight timer due]
      refine ⟨_, rfl, failTransaction_fieldAlone _ x s, management rfl, heads, settings, captured, lastSent, tx,
        fun occupied => ⟨⟨_, told occupied, rfl⟩, fun wrong => absurd wrong (by decide), fun _ => ⟨_, fault occupied, ?_⟩⟩⟩
      rw [lineFaultContent, kind, txEntry, held]
      rfl

end Sys2Proof.Machine

namespace Sys2Proof.Machine

/-! ## The receive filter (R19 to R21) -/

/-- R21: a frame of a kind that is taken, of that kind's length. -/
theorem kindTaken_iff (f : FieldFrame) : kindTaken f = true ↔ (f.kind = 0x11 ∧ f.payload.length = 5)
    ∨ (f.kind = 0x21 ∧ f.payload.length = 3)
    ∨ (f.kind = 0x14 ∧ ∃ p r rest, f.payload = p :: r :: rest ∧ rest.length = if fieldFlag r = true then 0 else 4) := by
  have fitsReply : paramReplyFits f.payload = true
      ↔ ∃ p r rest, f.payload = p :: r :: rest ∧ rest.length = if fieldFlag r = true then 0 else 4 := by
    rcases f.payload with _ | ⟨p, _ | ⟨r, rest⟩⟩
    · simp [paramReplyFits]
    · simp [paramReplyFits]
    · cases flag : fieldFlag r <;> simp [paramReplyFits, flag, List.isEmpty_iff]
  unfold kindTaken kindReading kindPostStatus kindParamReply
  by_cases reading : f.kind = 0x11
  · simp [reading]
  · by_cases status : f.kind = 0x21
    · simp [status]
    · by_cases reply : f.kind = 0x14
      · simp [reply, fitsReply]
      · simp [reading, status, reply]

/-- R21: the enabled entry of fitting kind whose address is the frame's source. -/
def answersFor (s : State) (f : FieldFrame) (i : Fin 8) : Prop :=
  s.field.heads[i].config.enable = true ∧ s.field.heads[i].config.address = f.source
    ∧ (f.kind = 0x11 → s.field.heads[i].config.kind = .stage) ∧ (f.kind = 0x21 → s.field.heads[i].config.kind = .post)

theorem fits_iff (f : FieldFrame) (k : HeadKind) :
    fits f k = true ↔ (f.kind = 0x11 → k = .stage) ∧ (f.kind = 0x21 → k = .post) := by
  unfold fits kindReading kindPostStatus
  by_cases reading : f.kind = 0x11
  · simp [reading]
  · by_cases status : f.kind = 0x21
    · simp [status]
    · simp [reading, status]

theorem sourceEntry_test (s : State) (f : FieldFrame) (i : Fin 8) :
    (s.field.heads[i].config.enable && s.field.heads[i].config.address == f.source
      && fits f s.field.heads[i].config.kind) = true ↔ answersFor s f i := by
  rw [Bool.and_eq_true, Bool.and_eq_true, beq_iff_eq, fits_iff, answersFor, and_assoc]

theorem sourceEntry_none {s : State} {f : FieldFrame} (noEntry : ∀ i, ¬ answersFor s f i) : sourceEntry s f = none :=
  List.find?_eq_none.2 fun i _ test => noEntry i ((sourceEntry_test s f i).1 test)

theorem sourceEntry_some {s : State} {f : FieldFrame} {i : Fin 8} (here : answersFor s f i)
    (alone : ∀ j, j ≠ i → ¬ answersFor s f j) : sourceEntry s f = some i := by
  rcases found : sourceEntry s f with _ | j
  · exact absurd ((sourceEntry_test s f i).2 here) (List.find?_eq_none.1 found i (mem_places i))
  · by_contra other
    exact alone j (fun same => other (congrArg some same)) (by
      have test := List.find?_some found
      exact (sourceEntry_test s f j).1 test)

theorem filterFrame_failedDestination {s : State} {f : FieldFrame}
    (fails : ¬ destinationPasses s.field.settings f.destination = true) :
    filterFrame s f = (.failedDestination, none) := by
  simp [filterFrame, fails]

theorem filterFrame_notTaken {s : State} {f : FieldFrame}
    (addressed : destinationPasses s.field.settings f.destination = true) (not : ¬ kindTaken f = true) :
    filterFrame s f = (.notTaken, none) := by
  simp [filterFrame, addressed, not]

theorem filterFrame_failedSource {s : State} {f : FieldFrame}
    (addressed : destinationPasses s.field.settings f.destination = true) (taken : kindTaken f = true)
    (noEntry : ∀ i, ¬ answersFor s f i) : filterFrame s f = (.failedSource, none) := by
  simp [filterFrame, addressed, taken, sourceEntry_none noEntry]

theorem filterFrame_passed {s : State} {f : FieldFrame} {i : Fin 8}
    (addressed : destinationPasses s.field.settings f.destination = true) (taken : kindTaken f = true)
    (here : answersFor s f i) (alone : ∀ j, j ≠ i → ¬ answersFor s f j) : filterFrame s f = (.passed, some i) := by
  simp [filterFrame, addressed, taken, sourceEntry_some here alone]

/-! ## The capture queue (R22) -/

theorem offerCapture_off {s : State} (off : s.field.settings.capture = false) (f : FieldFrame) (r : FilterResult) :
    offerCapture f r s = s := by
  unfold offerCapture
  rw [off]
  rfl

theorem offerCapture_room {s : State} (on : s.field.settings.capture = true) (room : s.field.captured.length < 8)
    (f : FieldFrame) (r : FilterResult) : offerCapture f r s = raiseCapture (s.setField
      { s.field with captured := s.field.captured ++ [{ runTime := s.now, frame := f, result := r }] }) := by
  unfold offerCapture
  rw [if_pos on, if_pos (show s.field.captured.length < Config.captureSize from room)]

theorem offerCapture_full {s : State} (on : s.field.settings.capture = true) (full : 8 ≤ s.field.captured.length)
    (f : FieldFrame) (r : FilterResult) : offerCapture f r s
      = if s.field.overflow then s else raiseCapture (s.setField { s.field with overflow := true }) := by
  unfold offerCapture
  rw [if_pos on, if_neg (show ¬ s.field.captured.length < Config.captureSize from Nat.not_lt.2 full)]

/-- R22: an offer to the capture queue changes the captured records and the overflow flag alone, and raises FIELD_CAPTURE
alone. -/
theorem offerCapture_alone (f : FieldFrame) (r : FilterResult) (s : State) :
    s.FieldAlone (offerCapture f r s) ∧ RaisesOnly [.fieldCapture] s (offerCapture f r s)
    ∧ (offerCapture f r s).field = { s.field with
        captured := (offerCapture f r s).field.captured, overflow := (offerCapture f r s).field.overflow } := by
  have raised (x : FieldLine) : s.FieldAlone (raiseCapture (s.setField x)) :=
    (State.FieldAlone.setField s x).trans (State.FieldAlone.ofKeeps (keeps_raise_low _ _ _ (by decide)))
  have told (x : FieldLine) : RaisesOnly [.fieldCapture] s (raiseCapture (s.setField x)) :=
    (RaisesOnly.raise (by simp) (by decide) _ (s.setField x)).after
  have field (x : State) : (raiseCapture x).field = x.field := raise_field _ _ x
  unfold offerCapture
  split
  · split
    · exact ⟨raised _, told _, by rw [field]; rfl⟩
    · split
      · exact ⟨Keeps.refl s, RaisesOnly.refl _ s, rfl⟩
      · exact ⟨raised _, told _, by rw [field]; rfl⟩
  · exact ⟨Keeps.refl s, RaisesOnly.refl _ s, rfl⟩

/-! ## Delivery leaves the capture queue (R31, R32, R35) -/

theorem arbitrate_overflow (s : State) : (arbitrate s).field.overflow = s.field.overflow := by
  unfold arbitrate
  split
  · split
    · rfl
    · split
      · rfl
      · split <;> rfl
  · rfl

/-- The sources that the delivery of a frame may raise. -/
def deliverSources : List NoticeSource := .headParamDone :: .postState :: channelSources

/-- The captured records, the overflow flag and the settings of the field line are as they were, and of the notices only
those of a delivery may have been raised. -/
structure QueueKept (s t : State) : Prop where
  captured : t.field.captured = s.field.captured
  overflow : t.field.overflow = s.field.overflow
  settings : t.field.settings = s.field.settings
  raises : RaisesOnly deliverSources s t

namespace QueueKept

variable {a b c : State}

theorem trans (h : QueueKept a b) (k : QueueKept b c) : QueueKept a c :=
  ⟨k.captured.trans h.captured, k.overflow.trans h.overflow, k.settings.trans h.settings, h.raises.trans k.raises⟩

theorem refl (s : State) : QueueKept s s := ⟨rfl, rfl, rfl, RaisesOnly.refl _ s⟩

theorem setEntry (i : Fin 8) (g : HeadEntry → HeadEntry) (s : State) : QueueKept s (setEntry i g s) :=
  ⟨rfl, rfl, rfl, RaisesOnly.ofSame rfl rfl⟩

theorem raise {src : NoticeSource} (mem : src ∈ deliverSources) (wakes : sourceNumber src ≤ 3 → .quietWake ∈ deliverSources)
    (content : List Field) (s : State) : QueueKept s (raise src content s) :=
  ⟨by rw [raise_field], by rw [raise_field], by rw [raise_field], RaisesOnly.raise mem wakes content s⟩

theorem judgePosts (before s : State) : QueueKept s (judgePosts before s) := by
  unfold Machine.judgePosts
  split
  · exact raise (by decide) (by decide) _ s
  · exact refl s

theorem handPostFault (before : State) (i : Fin 8) (s : State) : QueueKept s (handPostFault before i s) := by
  unfold Machine.handPostFault
  split
  · exact ⟨by rw [wake_field], by rw [wake_field], by rw [wake_field], RaisesOnly.wake (by decide) _ s⟩
  · exact refl s

theorem channelEvent (i : Fin 4) (f : Channel → Channel) (s : State) : QueueKept s (channelEvent i f s) := by
  obtain ⟨u, only, rfl⟩ := channelEvent_effect i f s
  refine ⟨?_, ?_, ?_, (RaisesOnly.channelEvent i f s).mono (by decide)⟩ <;> rw [only.field] <;> rfl

theorem handContent (before : State) (i : Fin 8) (f : FieldFrame) (s : State) :
    QueueKept s (handContent before i f s) := by
  unfold Machine.handContent
  split
  · unfold feedChannel
    split
    · exact channelEvent _ _ s
    · exact refl s
  · split
    · exact ((setEntry i _ s).trans (judgePosts before _)).trans (handPostFault before i _)
    · exact judgePosts before s

theorem transmitterFree (s : State) : QueueKept s (transmitterFree s) := by
  obtain ⟨-, settings, captured, -⟩ := transmitterFree_field s
  exact ⟨captured, arbitrate_overflow _, settings, transmitterFree_raises _ s⟩

theorem endManagement (address : Nat) (o : ParamOutcome) (s : State) : QueueKept s (endManagement address o s) := by
  have field := endManagement_field address o s
  exact ⟨by rw [field], by rw [field], by rw [field], (endManagement_raises address o s).mono (by decide)⟩

theorem deliver (i : Fin 8) (f : FieldFrame) (s : State) : QueueKept s (deliver i f s) := by
  have alive : QueueKept s (signOfLife i s) := setEntry i _ s
  unfold Machine.deliver
  split
  · split
    · exact (((alive.trans (setEntry i _ _)).trans (handContent s i f _)).trans (setEntry i _ _)).trans (transmitterFree _)
    · exact ((alive.trans (handContent s i f _)).trans (endManagement _ _ _)).trans (transmitterFree _)
  · exact alive.trans (handContent s i f _)

end QueueKept

/-! ## A frame received (R18) -/

theorem exec_fieldFrameReceived (octets : List Byte) (s : State) :
    exec (.fieldFrameReceived octets) s = .next (frameReceived octets s) := rfl
theorem exec_fieldCharacterReceived (b : Byte) (s : State) :
    exec (.fieldCharacterReceived b) s = .next (fieldCharacter b s) := rfl
theorem exec_fieldCharacterGap (s : State) : exec .fieldCharacterGap s = .next (fieldGapFalls s) := rfl

/-- R18: the part once the last character of a frame has come. -/
def frameEnded (s : State) : State := s.setField { s.field with lastOctet := some s.now, gathering := none }

/-- R22: the part once a good frame has been offered to the capture queue. -/
def frameOffered (f : FieldFrame) (s : State) : State := offerCapture f (filterFrame s f).1 (frameEnded s)

theorem frameReceived_sending {s : State} (sending : s.field.tx = .sending) (octets : List Byte) :
    frameReceived octets s = s.setField { s.field with lastOctet := some s.now } := by
  unfold frameReceived
  rw [sending]

theorem frameReceived_bad {s : State} {octets : List Byte} (listens : s.field.tx ≠ .sending)
    (bad : fieldFrameOf octets = none) : frameReceived octets s = frameEnded s := by
  unfold frameReceived
  split
  case h_1 sending => exact absurd sending listens
  case h_2 =>
    rw [bad]
    rfl

theorem frameReceived_good {s : State} {octets : List Byte} {f : FieldFrame} (listens : s.field.tx ≠ .sending)
    (good : fieldFrameOf octets = some f) : frameReceived octets s = goodFrame f (frameEnded s) := by
  unfold frameReceived
  split
  case h_1 sending => exact absurd sending listens
  case h_2 =>
    rw [good]
    rfl

theorem filterFrame_frameEnded (s : State) (f : FieldFrame) : filterFrame (frameEnded s) f = filterFrame s f := rfl

/-- R19: a good frame that the filter fails is offered to the capture queue alone. -/
theorem frameReceived_failed {s : State} {octets : List Byte} {f : FieldFrame} (listens : s.field.tx ≠ .sending)
    (good : fieldFrameOf octets = some f) (failed : (filterFrame s f).2 = none) :
    frameReceived octets s = frameOffered f s := by
  rw [frameReceived_good listens good, goodFrame, filterFrame_frameEnded, failed]
  rfl

/-- R31: a good frame that passes is delivered to its entry. -/
theorem frameReceived_passed {s : State} {octets : List Byte} {f : FieldFrame} {i : Fin 8} (listens : s.field.tx ≠ .sending)
    (good : fieldFrameOf octets = some f) (passed : (filterFrame s f).2 = some i) :
    frameReceived octets s = deliver i f (frameOffered f s) := by
  rw [frameReceived_good listens good, goodFrame, filterFrame_frameEnded, passed]
  rfl

/-- What follows the offer of a good frame leaves the capture queue. -/
theorem frameReceived_queueKept {s : State} {octets : List Byte} {f : FieldFrame} (listens : s.field.tx ≠ .sending)
    (good : fieldFrameOf octets = some f) : QueueKept (frameOffered f s) (frameReceived octets s) := by
  rcases passed : (filterFrame s f).2 with _ | i
  · rw [frameReceived_failed listens good passed]
    exact QueueKept.refl _
  · rw [frameReceived_passed listens good passed]
    exact QueueKept.deliver i f _

/-- R22: an offered frame's effect on the capture queue, with FIELD_CAPTURE. -/
theorem frameOffered_room {s : State} (on : s.field.settings.capture = true) (room : s.field.captured.length < 8)
    (f : FieldFrame) :
    (frameOffered f s).field = { s.field with
        lastOctet := some s.now, gathering := none
        captured := s.field.captured ++ [{ runTime := s.now, frame := f, result := (filterFrame s f).1 }] }
    ∧ s.Told (frameOffered f s) .fieldCapture
        [.num 1 (s.field.captured.length + 1 : Nat), .flag s.field.overflow, .num 6 s.now] := by
  rw [frameOffered, offerCapture_room (s := frameEnded s) on room]
  refine ⟨raise_field _ _ _, fun occupied => ?_⟩
  rw [raiseCapture, raise_slot _ _ (by decide) (by exact occupied)]
  simp [fieldCaptureContent, frameEnded, timeField]

theorem frameOffered_overflowed {s : State} (on : s.field.settings.capture = true) (full : 8 ≤ s.field.captured.length)
    (overflow : s.field.overflow = true) (f : FieldFrame) : frameOffered f s = frameEnded s := by
  rw [frameOffered, offerCapture_full (s := frameEnded s) on full]
  exact if_pos overflow

theorem frameOffered_full {s : State} (on : s.field.settings.capture = true) (full : 8 ≤ s.field.captured.length)
    (f : FieldFrame) :
    (frameOffered f s).field = { s.field with lastOctet := some s.now, gathering := none, overflow := true }
    ∧ (s.field.overflow = false → ∀ newest, s.field.captured.getLast? = some newest →
      s.Told (frameOffered f s) .fieldCapture
        [.num 1 s.field.captured.length, .flag true, .num 6 newest.runTime]) := by
  by_cases overflow : s.field.overflow = true
  · rw [frameOffered_overflowed on full overflow]
    refine ⟨?_, fun not => absurd overflow (by simp [not])⟩
    rw [← overflow]
    rfl
  · rw [frameOffered, offerCapture_full (s := frameEnded s) on full, if_neg (by exact overflow)]
    refine ⟨raise_field _ _ _, fun _ newest last occupied => ?_⟩
    rw [raiseCapture, raise_slot _ _ (by decide) (by exact occupied)]
    simp [fieldCaptureContent, frameEnded, timeField, last]

theorem frameOffered_off {s : State} (off : s.field.settings.capture = false) (f : FieldFrame) :
    frameOffered f s = frameEnded s :=
  offerCapture_off (s := frameEnded s) off f _

theorem frameOffered_fieldAlone (f : FieldFrame) (s : State) : s.FieldAlone (frameOffered f s) :=
  (State.FieldAlone.setField s _).trans (offerCapture_alone f _ (frameEnded s)).1

theorem frameOffered_raises (f : FieldFrame) (s : State) : RaisesOnly [.fieldCapture] s (frameOffered f s) :=
  (offerCapture_alone f _ (frameEnded s)).2.1.after

/-! ## Characters and gaps (R18) -/

theorem fieldGapDue_none {s : State} (idle : s.field.gathering = none) : fieldGapDue s = false := by
  simp [fieldGapDue, idle]

theorem fieldGapDue_iff {s : State} {held : List Byte} {last : Nat} (gathers : s.field.gathering = some held)
    (came : s.field.lastOctet = some last) : fieldGapDue s = true ↔ last + 2 < s.now := by
  rw [fieldGapDue, gathers, came, Option.isSome_some, Bool.true_and]
  exact decide_eq_true_iff

theorem fieldCharacter_listens {s : State} (listens : s.field.tx ≠ .sending) (b : Byte) :
    fieldCharacter b s = gatherOctet b (fieldGapFalls s) := by
  unfold fieldCharacter
  split
  case h_1 sending => exact absurd sending listens
  case h_2 => rfl

/-- R18: a character that joins the frame being gathered. -/
theorem gatherOctet_held {s : State} {held : List Byte} (gathers : s.field.gathering = some held) (b : Byte) :
    gatherOctet b s = if fieldTooLong (held ++ [b]) then
        s.setField { s.field with lastOctet := some s.now, gathering := none }
      else if fieldFrameLength (held ++ [b]) = some (held ++ [b]).length then frameReceived (held ++ [b]) s
      else s.setField { s.field with lastOctet := some s.now, gathering := some (held ++ [b]) } := by
  unfold gatherOctet
  rw [gathers]

theorem fieldTooLong_some {octets : List Byte} {n : Byte} (length : octets[3]? = some n) :
    fieldTooLong octets = true ↔ 48 < n.toNat := by
  rw [fieldTooLong, length]
  exact decide_eq_true_iff

theorem fieldFrameLength_some {octets : List Byte} {n : Byte} (length : octets[3]? = some n) :
    fieldFrameLength octets = some octets.length ↔ octets.length = n.toNat + 6 := by
  rw [fieldFrameLength, length, Option.map_some, Option.some_inj, eq_comm]

/-- Settles O37: the field receiver's frames, filter, capture queue, characters and gaps. -/
theorem fieldReceiver : Obligations.FieldReceiver := by
  unfold Obligations.FieldReceiver
  refine ⟨fun s octets sending => ?_, fun s octets listens bad => ?_, fun s octets f listens good failed on => ?_,
    ⟨fun s f addressed taken entry addressed_iff taken_iff entry_iff => ?_, rfl, rfl,
      fun s octets f listens good => ?_⟩, fun s b sending => ?_, fun s b listens idle => ?_,
    fun s b held last listens gathers came soon => ?_, fun s held last gathers came => ?_⟩
  · rw [exec_fieldFrameReceived, frameReceived_sending sending]
  · rw [exec_fieldFrameReceived, frameReceived_bad listens bad]
    rfl
  · rw [exec_fieldFrameReceived, frameReceived_failed listens good failed]
    refine ⟨fun room => ⟨_, rfl, frameOffered_fieldAlone f s, (frameOffered_room on room f).1⟩,
      fun full => ⟨_, rfl, frameOffered_fieldAlone f s, (frameOffered_full on full f).1, fun overflow => ?_⟩⟩
    rw [frameOffered_overflowed on full overflow]
    rfl
  · rw [← destinationPasses_iff] at addressed_iff
    rw [← kindTaken_iff] at taken_iff
    refine ⟨fun not => filterFrame_failedDestination fun passes => not (addressed_iff.2 passes),
      fun passes not => filterFrame_notTaken (addressed_iff.1 passes) fun takes => not (taken_iff.2 takes),
      fun passes takes none_ => filterFrame_failedSource (addressed_iff.1 passes) (taken_iff.1 takes)
        fun i here => none_ i ((entry_iff i).2 here),
      fun i passes takes here alone => filterFrame_passed (addressed_iff.1 passes) (taken_iff.1 takes)
        ((entry_iff i).1 here) fun j other there => alone j other ((entry_iff j).2 there)⟩
  · have kept := frameReceived_queueKept listens good
    have toldAfter {content : List Field} (told : s.Told (frameOffered f s) .fieldCapture content) :
        s.Told (frameReceived octets s) .fieldCapture content := fun occupied =>
      (kept.raises.untold (by decide) ((frameOffered_raises f s).occupied occupied)).trans (told occupied)
    rw [exec_fieldFrameReceived]
    refine ⟨_, rfl, fun on room => ?_, fun on full => ?_, fun off => ?_⟩
    · obtain ⟨field, told⟩ := frameOffered_room on room f
      rw [kept.captured, kept.overflow, field]
      exact ⟨rfl, rfl, toldAfter told⟩
    · obtain ⟨field, told⟩ := frameOffered_full on full f
      rw [kept.captured, kept.overflow, field]
      refine ⟨rfl, rfl, fun overflow occupied => ?_, fun free newest last => toldAfter (told free newest last)⟩
      rw [kept.raises.untold (by decide) ((frameOffered_raises f s).occupied occupied),
        frameOffered_overflowed on full overflow]
      rfl
    · rw [kept.captured, kept.overflow, frameOffered_off off]
      refine ⟨rfl, rfl, fun occupied => ?_⟩
      rw [kept.raises.untold (by decide) ((frameOffered_raises f s).occupied occupied), frameOffered_off off]
      rfl
  · rw [exec_fieldCharacterReceived, fieldCharacter, sending]
  · have noGap : fieldGapFalls s = s := if_neg (by simp [fieldGapDue_none idle])
    rw [exec_fieldCharacterReceived, fieldCharacter_listens listens, noGap, gatherOctet, idle]
  · have noGap : fieldGapFalls s = s := if_neg fun due => absurd ((fieldGapDue_iff gathers came).1 due) (Nat.not_lt.2 soon)
    have joins : exec (.fieldCharacterReceived b) s = .next _ :=
      (exec_fieldCharacterReceived b s).trans
        (congrArg Host.Outcome.next ((fieldCharacter_listens listens b).trans (congrArg (gatherOctet b) noGap)))
    rw [gatherOctet_held gathers] at joins
    have size : (held ++ [b]).length = held.length + 1 := by simp
    refine ⟨fun few => ?_, fun n length => ⟨fun long => ?_, fun fits short => ?_, fun fits whole => ?_⟩⟩
    · have absent : (held ++ [b])[3]? = none := List.getElem?_eq_none (by omega)
      rw [joins, if_neg (by simp [fieldTooLong, absent]), if_neg (by simp [fieldFrameLength, absent])]
    · rw [joins, if_pos ((fieldTooLong_some length).2 long)]
    · rw [joins, if_neg (by rw [fieldTooLong_some length]; omega), if_neg (by rw [fieldFrameLength_some length]; omega)]
    · rw [joins, if_neg (by rw [fieldTooLong_some length]; omega),
        if_pos ((fieldFrameLength_some length).2 (by omega)), exec_fieldFrameReceived]
  · rw [exec_fieldCharacterGap, fieldGapFalls]
    refine ⟨fun late => by rw [if_pos ((fieldGapDue_iff gathers came).2 late)], fun soon => ?_⟩
    rw [if_neg fun due => absurd ((fieldGapDue_iff gathers came).1 due) (Nat.not_lt.2 soon)]

end Sys2Proof.Machine

namespace Sys2Proof.Machine

/-! ## What a vote leaves, from what its own writes leave -/

/-- A property that the writes of a vote and of what it hands on leave: those of the run, of the warning unit, of the stage
unit and of the field line's WARN request, the raised notices and the wakes. -/
structure VoteLeaves (P : State → Prop) : Prop extends RunLeaves P where
  warning : ∀ {s} x, P s → P (s.setWarning x)
  stage : ∀ {s} x, P s → P (s.setStage x)
  asks : ∀ {s}, P s → P (requestWarn s)
  raises : ∀ {s} src c, P s → P (raise src c s)
  wakes : ∀ {s} r, P s → P (wake r s)

namespace VoteLeaves

variable {P : State → Prop} {s : State}

theorem silenceSiren (k : VoteLeaves P) (h : P s) : P (silenceSiren s) := by
  unfold Machine.silenceSiren
  split
  · exact k.asks (k.warning _ h)
  · exact k.warning _ h

theorem judgeSiren (k : VoteLeaves P) (h : P s) (old new : Nat) : P (judgeSiren old new s) := by
  unfold Machine.judgeSiren
  split
  · exact k.silenceSiren h
  · split
    · split
      · exact k.warning _ h
      · exact k.asks (k.warning _ h)
    · exact h

theorem raiseSpell (k : VoteLeaves P) (h : P s) (n : Nat) : P (raiseSpell n s) := by
  unfold Machine.raiseSpell
  split
  · exact k.warning _ h
  · exact h

theorem changeLevel (k : VoteLeaves P) {ask : State → State} (asked : ∀ {x}, P x → P (ask x)) (h : P s) (c : LevelCause)
    (n : Nat) : P (changeLevel ask c n s) :=
  k.wakes _ (k.judgeWithdraw (k.asks (asked (k.raises _ _ (k.raiseSpell (k.judgeSiren (k.warning _ h) _ _) n)))))

theorem recompute (k : VoteLeaves P) {ask : State → State} (asked : ∀ {x}, P x → P (ask x)) (h : P s)
    (before : Vector Rule 8) (forced : Option LevelCause) : P (recompute ask before forced s) := by
  unfold Machine.recompute
  dsimp only
  split
  · exact h
  · exact k.changeLevel asked h _ _

theorem reportBlind (k : VoteLeaves P) (h : P s) (changed : Bool) : P (reportBlind changed s) := by
  unfold Machine.reportBlind
  split
  · exact k.raises _ _ h
  · exact h

theorem handInput (k : VoteLeaves P) {ask : State → State} (asked : ∀ {x}, P x → P (ask x)) (h : P s) (kind : RuleKind)
    (input : Option Int) : P (handInput ask kind input s) :=
  k.reportBlind (k.recompute asked (k.warning _ h) _ _) _

theorem handRate (k : VoteLeaves P) {ask : State → State} (asked : ∀ {x}, P x → P (ask x)) (h : P s)
    (rate : Option Int) : P (handRate ask rate s) := by
  cases rate with
  | some v => exact k.wakes _ (k.handInput asked h _ _)
  | none => exact k.handInput asked h _ _

theorem handStage (k : VoteLeaves P) {ask : State → State} (asked : ∀ {x}, P x → P (ask x)) (h : P s)
    (stage : Option Int) : P (handStage ask stage s) := by
  cases stage with
  | some v => exact k.wakes _ (k.handInput asked h _ _)
  | none => exact k.handInput asked h _ _

theorem queueAppend (k : VoteLeaves P) (h : P s) (a : Append) : P (queueAppend a s) := k.stage _ h

theorem append (k : VoteLeaves P) (h : P s) (a : Append) : P (append a s) :=
  k.handRate (fun asked => k.queueAppend asked .event) (k.time _ (k.stage _ h)) _

theorem requestAppend (k : VoteLeaves P) (h : P s) (a : Append) : P (requestAppend a s) := by
  unfold Machine.requestAppend
  split
  · exact k.append h a
  · exact k.queueAppend h a

theorem handVote (k : VoteLeaves P) (h : P s) (before : StageUnit) : P (handVote before s) := by
  have updated : P (if s.stage.stage = before.stage then s else Machine.handStage Machine.askEvent s.stage.stage s) := by
    split
    · exact h
    · exact k.handStage (fun asked => k.requestAppend asked .event) h _
  unfold Machine.handVote
  dsimp only
  split
  · exact k.raises _ _ updated
  · exact updated

theorem runVote (k : VoteLeaves P) (h : P s) : P (runVote s) := k.handVote (k.stage _ h) _

theorem channelEvent (k : VoteLeaves P) (placed : ∀ {s} x, P s → P (s.setChannels x)) (h : P s) (i : Fin 4)
    (f : Channel → Channel) : P (channelEvent i f s) := by
  have set := placed (s.channels.set i (f s.channels[i])) h
  unfold Machine.channelEvent
  dsimp only
  split
  · split
    · exact set
    · exact k.runVote (k.stage _ set)
  · split
    · exact k.raises _ _ set
    · exact k.raises _ _ (k.runVote (k.stage _ set))

end VoteLeaves

/-- The field line is as it was in `s`, but for a WARN request. -/
def SameButWarn (s t : State) : Prop := t.field = { s.field with warn := t.field.warn }

/-- R39: while the transmitter is busy the WARN requests of a vote stand, and no more. -/
theorem sameButWarn_leaves {s : State} (busy : s.field.tx ≠ .free) : VoteLeaves (SameButWarn s) where
  cable _ h := h
  run _ h := h
  time _ h := h
  told src c h _ := by
    unfold SameButWarn
    rw [raise_field]
    exact h
  warning _ h := h
  stage _ h := h
  asks {t} h := by
    have still : t.field.tx ≠ .free := by
      rw [h]
      exact busy
    unfold SameButWarn
    rw [requestWarn_busy still, h]
  raises src c h := by
    unfold SameButWarn
    rw [raise_field]
    exact h
  wakes r h := by
    unfold SameButWarn
    rw [wake_field]
    exact h

theorem channelEvent_sameButWarn {s : State} (busy : s.field.tx ≠ .free) (i : Fin 4) (f : Channel → Channel) :
    (channelEvent i f s).field = { s.field with warn := (channelEvent i f s).field.warn } :=
  (sameButWarn_leaves busy).channelEvent (fun _ h => h) (show SameButWarn s s from rfl) i f

end Sys2Proof.Machine

namespace Sys2Proof.Machine

/-! ## The posts (R41, R42) -/

theorem postStateContent_eq (s : State) : postStateContent s = s.postSnapshot := by
  have matched : ((places 8).filter (enabledPost s)).filter (mismatch s)
      = (places 8).filter fun j => enabledPost s j && mismatch s j := by
    rw [List.filter_filter]
    exact List.filter_congr fun j _ => Bool.and_comm _ _
  unfold postStateContent State.postSnapshot
  dsimp only
  rw [matched]
  refine congrArg (_ ++ listFields _ ·) (funext fun j => ?_)
  unfold postItem
  dsimp only
  rcases s.field.heads[j].post with _ | q
  · rfl
  · rfl

/-- Of an entry what POST_STATE tells. -/
structure PostAlike (s t : State) : Prop where
  lastSent : t.field.lastSent = s.field.lastSent
  config : ∀ j : Fin 8, t.field.heads[j].config = s.field.heads[j].config
  state : ∀ j : Fin 8, t.field.heads[j].state = s.field.heads[j].state
  post : ∀ j : Fin 8, t.field.heads[j].post = s.field.heads[j].post

theorem enabledPost_congr {s t : State} {j : Fin 8} (config : t.field.heads[j].config = s.field.heads[j].config) :
    enabledPost t j = enabledPost s j := by
  rw [enabledPost, config, enabledPost]

theorem mismatch_congr {s t : State} {j : Fin 8} (config : t.field.heads[j].config = s.field.heads[j].config)
    (post : t.field.heads[j].post = s.field.heads[j].post) (lastSent : t.field.lastSent = s.field.lastSent) :
    mismatch t j = mismatch s j := by
  rw [mismatch, config, post, lastSent, mismatch]

theorem postFault_congr {s t : State} {j : Fin 8} (post : t.field.heads[j].post = s.field.heads[j].post) :
    postFault t j = postFault s j := by
  rw [postFault, post, postFault]

theorem PostAlike.snapshot {s t : State} (h : PostAlike s t) : t.postSnapshot = s.postSnapshot := by
  have enabled : enabledPost t = enabledPost s := funext fun j => enabledPost_congr (h.config j)
  have wrong : mismatch t = mismatch s := funext fun j => mismatch_congr (h.config j) (h.post j) h.lastSent
  simp only [State.postSnapshot, h.lastSent, enabled, wrong, h.config, h.state, h.post]

/-- R41: entry `i` apart, the posts of `t` are those of `s`, and `i` is configured as it was. -/
structure PostsBut (i : Fin 8) (s t : State) : Prop where
  others : ∀ j : Fin 8, j ≠ i → t.field.heads[j] = s.field.heads[j]
  config : t.field.heads[i].config = s.field.heads[i].config
  lastSent : t.field.lastSent = s.field.lastSent

/-- R41: POST_STATE is raised for a change at one enabled post. -/
theorem judgePosts_changed {i : Fin 8} {s t : State} (post : enabledPost s i = true)
    (same : PostsBut i s t) (changed : mismatch s i ≠ mismatch t i ∨ s.field.heads[i].state ≠ t.field.heads[i].state
      ∨ postFault s i ≠ postFault t i) : judgePosts s t = raisePostState t := by
  refine if_pos (List.any_eq_true.2 ⟨i, mem_places i, ?_⟩)
  rw [post, Bool.true_and, bne_iff_ne]
  intro alike
  simp only [postFacts, enabledPost_congr same.config, post, if_true, Option.some_inj, Prod.mk_inj] at alike
  obtain ⟨mismatched, state, fault⟩ := alike
  rcases changed with differs | differs | differs
  · exact differs mismatched
  · exact differs state
  · exact differs fault

/-- R41: without a change at a post POST_STATE is not raised. -/
theorem judgePosts_same {i : Fin 8} {s t : State} (same : PostsBut i s t) (alike : enabledPost s i = true →
    mismatch s i = mismatch t i ∧ s.field.heads[i].state = t.field.heads[i].state ∧ postFault s i = postFault t i) :
    judgePosts s t = t := by
  refine if_neg ?_
  rw [List.any_eq_true]
  rintro ⟨j, -, test⟩
  rw [Bool.and_eq_true, bne_iff_ne] at test
  obtain ⟨post, differs⟩ := test
  refine differs ?_
  by_cases here : j = i
  · subst here
    obtain ⟨mismatched, state, fault⟩ := alike post
    simp only [postFacts, enabledPost_congr same.config, mismatched, state, fault]
  · have head := same.others j here
    have config := congrArg HeadEntry.config head
    have status := congrArg HeadEntry.post head
    rw [postFacts, postFacts, enabledPost_congr config, mismatch_congr config status same.lastSent,
      postFault_congr status, head]

/-! ## The frame before its delivery -/

/-- What the offer to the capture queue leaves of the field line. -/
theorem frameOffered_field (f : FieldFrame) (s : State) : (frameOffered f s).field = { s.field with
    lastOctet := some s.now, gathering := none
    captured := (frameOffered f s).field.captured, overflow := (frameOffered f s).field.overflow } :=
  (offerCapture_alone f (filterFrame s f).1 (frameEnded s)).2.2

theorem frameOffered_heads (f : FieldFrame) (s : State) : (frameOffered f s).field.heads = s.field.heads := by
  rw [frameOffered_field]
theorem frameOffered_tx (f : FieldFrame) (s : State) : (frameOffered f s).field.tx = s.field.tx := by
  rw [frameOffered_field]
theorem frameOffered_transaction (f : FieldFrame) (s : State) :
    (frameOffered f s).field.transaction = s.field.transaction := by
  rw [frameOffered_field]
theorem frameOffered_management (f : FieldFrame) (s : State) :
    (frameOffered f s).field.management = s.field.management := by
  rw [frameOffered_field]
theorem frameOffered_lastSent (f : FieldFrame) (s : State) : (frameOffered f s).field.lastSent = s.field.lastSent := by
  rw [frameOffered_field]
theorem frameOffered_settings (f : FieldFrame) (s : State) : (frameOffered f s).field.settings = s.field.settings := by
  rw [frameOffered_field]
theorem frameOffered_now (f : FieldFrame) (s : State) : (frameOffered f s).now = s.now :=
  congrArg TimeBase.runTime (frameOffered_fieldAlone f s).time
theorem frameOffered_supervisor (f : FieldFrame) (s : State) : (frameOffered f s).supervisor = s.supervisor :=
  (frameOffered_fieldAlone f s).supervisor

theorem frameOffered_captured {s : State} (off : s.field.settings.capture = false) (f : FieldFrame) :
    (frameOffered f s).field.captured = s.field.captured := by
  rw [frameOffered_off off]
  rfl

/-- The part with a sign of life of entry `i` (R32, R35). -/
theorem signOfLife_get (i : Fin 8) (f : FieldFrame) (s : State) : (signOfLife i (frameOffered f s)).field.heads[i]
    = { s.field.heads[i] with noReply := 0, state := .answering, lastAnswer := some s.now } := by
  rw [signOfLife, setEntry_get, frameOffered_heads, frameOffered_now]

theorem signOfLife_get_ne {i j : Fin 8} (other : j ≠ i) (f : FieldFrame) (s : State) :
    (signOfLife i (frameOffered f s)).field.heads[j] = s.field.heads[j] := by
  rw [signOfLife, setEntry_get_ne other, frameOffered_heads]

/-- R19, R21: a frame to the own address from one enabled entry passes. -/
theorem filterFrame_own {s : State} {f : FieldFrame} {i : Fin 8} (own : f.destination = s.field.settings.ownAddress)
    (taken : kindTaken f = true) (on : s.field.heads[i].config.enable = true)
    (source : s.field.heads[i].config.address = f.source) (stage : f.kind = 0x11 → s.field.heads[i].config.kind = .stage)
    (post : f.kind = 0x21 → s.field.heads[i].config.kind = .post)
    (alone : ∀ j : Fin 8, j ≠ i → s.field.heads[j].config.enable = true → s.field.heads[j].config.address ≠ f.source) :
    (filterFrame s f).2 = some i := by
  rw [filterFrame_passed ((destinationPasses_iff _ _).2 (.inl own)) taken ⟨on, source, stage, post⟩
    fun j other here => alone j other here.1 here.2.1]

/-! ## Delivery (R31, R32, R35) -/

theorem answersWindow_poll {s : State} {i : Fin 8} {f : FieldFrame} {x : Transaction} (waits : s.field.tx = .replyWindow)
    (flight : s.field.transaction = some x) (kind : x.kind = .poll i) (content : f.kind ≠ 0x14) :
    answersWindow s i f = some x := by
  unfold answersWindow
  rw [waits, flight]
  dsimp only
  rw [kind]
  exact if_pos ⟨rfl, content⟩

theorem answersWindow_management {s : State} {f : FieldFrame} {x : Transaction} {m : Management}
    (waits : s.field.tx = .replyWindow) (flight : s.field.transaction = some x) (kind : x.kind = .management)
    (held : s.field.management = some m) (reply : f.kind = 0x14)
    (parameter : (octetAt f.payload 0).toNat = m.parameter) : answersWindow s m.entry f = some x := by
  unfold answersWindow
  rw [waits, flight]
  dsimp only
  rw [kind, held]
  exact if_pos ⟨rfl, reply, parameter⟩

/-- R31: what answers the reply window of a transaction. -/
theorem answersWindow_some {s : State} {i : Fin 8} {f : FieldFrame} {x : Transaction} (answers : answersWindow s i f = some x) :
    s.field.tx = .replyWindow ∧ s.field.transaction = some x
      ∧ ((x.kind = .poll i ∧ f.kind ≠ 0x14) ∨ (x.kind = .management ∧ f.kind = 0x14 ∧ ∃ m, s.field.management = some m
        ∧ m.entry = i ∧ (octetAt f.payload 0).toNat = m.parameter)) := by
  unfold answersWindow at answers
  split at answers
  case h_1 t waits flight =>
    split at answers
    case h_1 e kind =>
      split at answers
      case isTrue here =>
        obtain rfl := Option.some.inj answers
        exact ⟨waits, flight, .inl ⟨here.1 ▸ kind, here.2⟩⟩
      case isFalse => exact nomatch answers
    case h_2 kind =>
      split at answers
      case h_1 m held =>
        split at answers
        case isTrue here =>
          obtain rfl := Option.some.inj answers
          exact ⟨waits, flight, .inr ⟨kind, here.2.1, m, held, here.1, here.2.2⟩⟩
        case isFalse => exact nomatch answers
      case h_2 => exact nomatch answers
    case h_3 => exact nomatch answers
  case h_2 => exact nomatch answers

theorem deliver_polled {s : State} {i : Fin 8} {f : FieldFrame} {x : Transaction} (answers : answersWindow s i f = some x)
    (kind : x.kind = .poll i) : deliver i f s = pollAnswered i f s := by
  unfold deliver
  rw [answers]
  dsimp only
  rw [kind]

theorem deliver_management {s : State} {i : Fin 8} {f : FieldFrame} {x : Transaction} (answers : answersWindow s i f = some x)
    (kind : x.kind = .management) : deliver i f s = managementAnswered x.frame.destination i f s := by
  unfold deliver
  rw [answers]
  dsimp only
  rw [kind]

theorem deliver_unasked {s : State} {i : Fin 8} {f : FieldFrame} (none_ : answersWindow s i f = none) :
    deliver i f s = handContent s i f (signOfLife i s) := by
  unfold deliver
  rw [none_]

/-- R35: the READING of a STAGE entry goes to its channel. -/
theorem handContent_reading {before s : State} {i : Fin 8} {c : Fin 4} {f : FieldFrame} (reading : f.kind = 0x11)
    (feeds : s.field.heads[i].config.channel = some (c.val + 1)) : handContent before i f s
      = channelEvent c (takeReading s.now (octetsInt (f.payload.take 4)) (fieldFlag (octetAt f.payload 4))) s := by
  have at_ : place (c.val + 1) 4 = some c := (place_eq_some _ _ _).2 rfl
  unfold handContent feedChannel
  rw [if_pos (show f.kind = kindReading from reading), feeds]
  simp only [Option.bind_some, at_]
  rfl

/-- R41: a POST_STATUS is the status of its post. -/
theorem handContent_status {before s : State} {i : Fin 8} {f : FieldFrame} (status : f.kind = 0x21)
    (awake : s.supervisor.quiet = .normal) : handContent before i f s
      = judgePosts before (setEntry i (fun e => { e with post := some (postStatusOf f) }) s) := by
  have notReading : f.kind ≠ kindReading := by
    rw [status]
    decide
  have quiet : (judgePosts before (setEntry i (fun e => { e with post := some (postStatusOf f) }) s)).supervisor.quiet
      ≠ .quiet := by
    rw [(keeps_judgePosts before _).supervisor]
    show s.supervisor.quiet ≠ .quiet
    rw [awake]
    decide
  unfold handContent
  rw [if_neg notReading, if_pos (show f.kind = kindPostStatus from status)]
  unfold handPostFault
  dsimp only
  split
  · exact wake_of_awake _ _ quiet
  · rfl

theorem handContent_reply {before s : State} {i : Fin 8} {f : FieldFrame} (reply : f.kind = 0x14) :
    handContent before i f s = judgePosts before s := by
  unfold handContent
  rw [if_neg (by rw [reply]; decide), if_neg (by rw [reply]; decide)]

/-! ### A READING -/

theorem channelEvent_item {s x : State} (base : ChannelBase s x) (c : Fin 4) (g : Channel → Channel) :
    (channelEvent c g x).stage.items[c]
      = if (g s.channels[c]).state = s.channels[c].state ∧ filteredValue (g s.channels[c]) = filteredValue s.channels[c]
        then s.stage.items[c] else { state := (g s.channels[c]).state, filtered := filteredValue (g s.channels[c]) } := by
  obtain ⟨u, only, rfl⟩ := channelEvent_effect c g x
  rw [only.items, ← base.channels, ← base.stage]
  split
  case isTrue => rfl
  case isFalse => exact Vector.getElem_set_self _

/-- An event at a channel of a part that stands as `s` does for a channel. -/
theorem ChannelBase.entry {s x : State} (base : ChannelBase s x) (i : Fin 8) (g : HeadEntry → HeadEntry) :
    ChannelBase s (setEntry i g x) :=
  ⟨base.channels, base.stage, base.warning, base.supervisor, base.now, base.stationTime, base.told⟩

theorem ChannelBase.frameOffered (f : FieldFrame) (s : State) : ChannelBase s (frameOffered f s) where
  channels := (frameOffered_fieldAlone f s).channels
  stage := (frameOffered_fieldAlone f s).stage
  warning := (frameOffered_fieldAlone f s).warning
  supervisor := (frameOffered_fieldAlone f s).supervisor
  now := frameOffered_now f s
  stationTime := congrArg TimeBase.stationTime (frameOffered_fieldAlone f s).time
  told := fun occupied => ⟨(frameOffered_raises f s).occupied occupied,
    (frameOffered_raises f s).untold (by decide) occupied, (frameOffered_raises f s).untold (by decide) occupied⟩

/-- What a READING does at its channel, from the part with a sign of life of its entry. -/
theorem channelEvent_facts {s x : State} (base : ChannelBase s x) (c : Fin 4) (g : Channel → Channel) :
    (channelEvent c g x).field.heads = x.field.heads ∧ (channelEvent c g x).time.runTime = x.time.runTime
    ∧ (channelEvent c g x).channels[c] = g s.channels[c]
    ∧ (∀ j : Fin 4, j ≠ c → (channelEvent c g x).channels[j] = s.channels[j])
    ∧ (channelEvent c g x).field.settings = x.field.settings
    ∧ (channelEvent c g x).field.captured = x.field.captured
    ∧ (x.supervisor.quiet ≠ .quiet → (channelEvent c g x).supervisor = x.supervisor)
    ∧ (s.link.notice ≠ none → (channelEvent c g x).link.notice ≠ none) := by
  obtain ⟨u, only, rfl⟩ := channelEvent_effect c g x
  refine ⟨by rw [only.field]; rfl, by rw [only.time]; rfl, ?_, fun j other => ?_, by rw [only.field]; rfl,
    by rw [only.field]; rfl, only.supervisor, fun occupied => (RaisesOnly.channelEvent c g x).occupied (base.told occupied).1⟩
  · rw [channelEvent_channel, base.channels]
  · rw [channelEvent_channel_ne other, base.channels]

end Sys2Proof.Machine

namespace Sys2Proof.Machine

/-! ## A READING delivered (R21, R31, R32, R35) -/

theorem kindTaken_reading {f : FieldFrame} (reading : f.kind = 0x11) (length : f.payload.length = 5) :
    kindTaken f = true := (kindTaken_iff f).2 (.inl ⟨reading, length⟩)

theorem kindTaken_status {f : FieldFrame} {a b c : Byte} (status : f.kind = 0x21) (payload : f.payload = [a, b, c]) :
    kindTaken f = true := (kindTaken_iff f).2 (.inr (.inl ⟨status, by rw [payload]; rfl⟩))

theorem kindTaken_reply {f : FieldFrame} {p : Byte} (reply : f.kind = 0x14)
    (payload : f.payload = [p, 1] ∨ ∃ v0 v1 v2 v3, f.payload = [p, 0, v0, v1, v2, v3]) : kindTaken f = true := by
  refine (kindTaken_iff f).2 (.inr (.inr ⟨reply, ?_⟩))
  rcases payload with refused | ⟨v0, v1, v2, v3, value⟩
  · exact ⟨p, 1, [], refused, rfl⟩
  · exact ⟨p, 0, [v0, v1, v2, v3], value, rfl⟩

/-- The part with a sign of life of entry `i`, after the offer of its frame. -/
def heardFrom (i : Fin 8) (f : FieldFrame) (s : State) : State := signOfLife i (frameOffered f s)

theorem heardFrom_base (i : Fin 8) (f : FieldFrame) (s : State) : ChannelBase s (heardFrom i f s) := by
  unfold heardFrom signOfLife
  exact (ChannelBase.frameOffered f s).entry i _

theorem heardFrom_get (i : Fin 8) (f : FieldFrame) (s : State) : (heardFrom i f s).field.heads[i]
    = { s.field.heads[i] with noReply := 0, state := .answering, lastAnswer := some s.now } := signOfLife_get i f s

theorem heardFrom_get_ne {i j : Fin 8} (other : j ≠ i) (f : FieldFrame) (s : State) :
    (heardFrom i f s).field.heads[j] = s.field.heads[j] := signOfLife_get_ne other f s

/-- R32: the part whose poll of entry `i` has ended REPLY, before the content is handed on. -/
def repliedFrom (i : Fin 8) (f : FieldFrame) (s : State) : State :=
  setEntry i (fun e => { e with lastOutcome := some .reply }) (heardFrom i f s)

theorem repliedFrom_base (i : Fin 8) (f : FieldFrame) (s : State) : ChannelBase s (repliedFrom i f s) :=
  (heardFrom_base i f s).entry i _

theorem repliedFrom_get (i : Fin 8) (f : FieldFrame) (s : State) : (repliedFrom i f s).field.heads[i]
    = { s.field.heads[i] with
        noReply := 0, state := .answering, lastAnswer := some s.now, lastOutcome := some .reply } := by
  rw [repliedFrom, setEntry_get, heardFrom_get]

theorem repliedFrom_get_ne {i j : Fin 8} (other : j ≠ i) (f : FieldFrame) (s : State) :
    (repliedFrom i f s).field.heads[j] = s.field.heads[j] := by
  rw [repliedFrom, setEntry_get_ne other, heardFrom_get_ne other]

/-- R27, R32: the next poll of entry `i` falls due an interval on. -/
def dueAgain (now : Nat) (e : HeadEntry) : HeadEntry := { e with nextDue := some (now + e.config.normal * 1000) }

/-- R28, R32: what the end of a poll leaves, its entry due an interval on and the transmitter FREE. -/
theorem transmitterFree_dueAgain (i : Fin 8) (now : Nat) (x : State) :
    (transmitterFree (setEntry i (dueAgain now) x)).field.heads[i] = dueAgain now x.field.heads[i]
    ∧ (∀ j : Fin 8, j ≠ i → (transmitterFree (setEntry i (dueAgain now) x)).field.heads[j] = x.field.heads[j])
    ∧ (transmitterFree (setEntry i (dueAgain now) x)).field.settings = x.field.settings
    ∧ (transmitterFree (setEntry i (dueAgain now) x)).field.captured = x.field.captured
    ∧ (transmitterFree (setEntry i (dueAgain now) x)).field.lastSent = x.field.lastSent
    ∧ (transmitterFree (setEntry i (dueAgain now) x)).field.window = none
    ∧ ((transmitterFree (setEntry i (dueAgain now) x)).field.tx = .free
      ∨ ((transmitterFree (setEntry i (dueAgain now) x)).field.tx = .waitingIdle
        ∧ (transmitterFree (setEntry i (dueAgain now) x)).field.deferral = some (x.now + 1500))) := by
  obtain ⟨heads, settings, captured, lastSent, window, -, -, -, -, tx⟩ := transmitterFree_field (setEntry i (dueAgain now) x)
  refine ⟨?_, fun j other => ?_, settings, captured, lastSent, window, tx⟩
  · rw [heads, setEntry_get]
  · rw [heads, setEntry_get_ne other]

/-- What a READING makes of its channel. -/
def channelReads (now : Nat) (f : FieldFrame) : Channel → Channel :=
  takeReading now (octetsInt (f.payload.take 4)) (fieldFlag (octetAt f.payload 4))

/-- R35: a READING that no window awaits. -/
theorem frameReceived_reading {s : State} {octets : List Byte} {f : FieldFrame} {i : Fin 8} {c : Fin 4}
    (listens : s.field.tx ≠ .sending) (unasked : s.field.tx = .replyWindow → ∀ x, s.field.transaction = some x → x.kind ≠ .poll i)
    (good : fieldFrameOf octets = some f) (reading : f.kind = 0x11) (passed : (filterFrame s f).2 = some i)
    (feeds : s.field.heads[i].config.channel = some (c.val + 1)) :
    frameReceived octets s = channelEvent c (channelReads s.now f) (heardFrom i f s) := by
  have silent : answersWindow (frameOffered f s) i f = none := by
    rcases answers : answersWindow (frameOffered f s) i f with _ | x
    · rfl
    · obtain ⟨waits, flight, poll | ⟨-, reply, -⟩⟩ := answersWindow_some answers
      · rw [frameOffered_tx] at waits
        rw [frameOffered_transaction] at flight
        exact absurd poll.1 (unasked waits x flight)
      · rw [reading] at reply
        exact absurd reply (by decide)
  have here : (heardFrom i f s).field.heads[i].config.channel = some (c.val + 1) := by
    rw [heardFrom_get]
    exact feeds
  rw [frameReceived_passed listens good passed, deliver_unasked silent]
  refine (handContent_reading reading here).trans ?_
  rw [(heardFrom_base i f s).now]
  rfl

/-- R32: a READING that ends its entry's poll, outside quiet mode. -/
theorem frameReceived_polled {s : State} {octets : List Byte} {f : FieldFrame} {i : Fin 8} {c : Fin 4} {x : Transaction}
    (waits : s.field.tx = .replyWindow) (flight : s.field.transaction = some x) (kind : x.kind = .poll i)
    (normal : s.supervisor.quiet = .normal) (good : fieldFrameOf octets = some f) (reading : f.kind = 0x11)
    (passed : (filterFrame s f).2 = some i) (feeds : s.field.heads[i].config.channel = some (c.val + 1)) :
    frameReceived octets s = transmitterFree (setEntry i (dueAgain s.now)
      (channelEvent c (channelReads s.now f) (repliedFrom i f s))) := by
  have answers : answersWindow (frameOffered f s) i f = some x :=
    answersWindow_poll ((frameOffered_tx f s).trans waits) ((frameOffered_transaction f s).trans flight) kind
      (by rw [reading]; decide)
  have base := repliedFrom_base i f s
  have here : (repliedFrom i f s).field.heads[i].config.channel
      = some (c.val + 1) := by
    rw [repliedFrom_get]
    exact feeds
  have awake : (repliedFrom i f s).supervisor.quiet = .normal := by
    rw [base.supervisor, normal]
  obtain ⟨-, runTime, -, -, -, -, supervisor, -⟩ := channelEvent_facts base c (channelReads s.now f)
  have still := supervisor (by rw [awake]; decide)
  have handed : handContent (frameOffered f s) i f
      (repliedFrom i f s)
      = channelEvent c (channelReads s.now f) (repliedFrom i f s) := by
    rw [handContent_reading reading here, base.now]
    rfl
  have due := scheduleEntry_normal i (s := channelEvent c (channelReads s.now f) (repliedFrom i f s)) (by rw [still, awake])
  have now : (channelEvent c (channelReads s.now f) (repliedFrom i f s)).now = s.now := runTime.trans base.now
  rw [now] at due
  rw [frameReceived_passed (by rw [waits]; decide) good passed, deliver_polled answers kind]
  show transmitterFree (scheduleEntry i (handContent (frameOffered f s) i f (repliedFrom i f s))) = _
  rw [handed, due]
  rfl

/-- R21, R35: what a READING that no window awaits leaves. -/
theorem reading_unasked {s : State} {octets : List Byte} {f : FieldFrame} {i : Fin 8} {c : Fin 4}
    (listens : s.field.tx ≠ .sending)
    (unasked : s.field.tx = .replyWindow → ∀ x, s.field.transaction = some x → x.kind ≠ .poll i)
    (good : fieldFrameOf octets = some f) (reading : f.kind = 0x11) (passed : (filterFrame s f).2 = some i)
    (feeds : s.field.heads[i].config.channel = some (c.val + 1)) : ∃ t, exec (.fieldFrameReceived octets) s = .next t
      ∧ t.field.heads[i] = { s.field.heads[i] with noReply := 0, state := .answering, lastAnswer := some s.now }
      ∧ (∀ j : Fin 8, j ≠ i → t.field.heads[j] = s.field.heads[j])
      ∧ t.channels[c] = channelReads s.now f s.channels[c]
      ∧ (∀ j : Fin 4, j ≠ c → t.channels[j] = s.channels[j])
      ∧ t.stage.items[c] = (if t.channels[c].state = s.channels[c].state
              ∧ filteredValue t.channels[c] = filteredValue s.channels[c] then s.stage.items[c]
          else { state := t.channels[c].state, filtered := filteredValue t.channels[c] })
      ∧ s.ChannelHanded t c
      ∧ (s.field.settings.capture = false → t.field.captured = s.field.captured) ∧ t.field.settings = s.field.settings
      ∧ (s.field.tx = .replyWindow → t.field.tx = .replyWindow ∧ t.field.window = s.field.window
          ∧ t.field.transaction = s.field.transaction)
      ∧ t.time.runTime = s.time.runTime := by
  have base := heardFrom_base i f s
  obtain ⟨heads, runTime, self, others, settings, captured, -, -⟩ := channelEvent_facts base c (channelReads s.now f)
  rw [exec_fieldFrameReceived, frameReceived_reading listens unasked good reading passed feeds]
  refine ⟨_, rfl, ?_, fun j other => ?_, self, others, ?_, channelEvent_handed base c _, fun off => ?_, ?_, fun waits => ?_, ?_⟩
  · rw [heads, heardFrom_get]
  · rw [heads, heardFrom_get_ne other]
  · rw [self]
    exact channelEvent_item base c _
  · rw [captured]
    exact frameOffered_captured off f
  · rw [settings]
    exact frameOffered_settings f s
  · have busy : (heardFrom i f s).field.tx ≠ .free := by
      show (frameOffered f s).field.tx ≠ .free
      rw [frameOffered_tx, waits]
      decide
    rw [channelEvent_sameButWarn busy]
    show (frameOffered f s).field.tx = _ ∧ (frameOffered f s).field.window = _ ∧ (frameOffered f s).field.transaction = _
    rw [frameOffered_field]
    exact ⟨waits, rfl, rfl⟩
  · rw [runTime]
    exact congrArg TimeBase.runTime (frameOffered_fieldAlone f s).time

/-- R31, R32: what a READING that ends its entry's poll leaves. -/
theorem reading_polled {s : State} {octets : List Byte} {f : FieldFrame} {i : Fin 8} {c : Fin 4} {x : Transaction}
    (waits : s.field.tx = .replyWindow) (flight : s.field.transaction = some x) (kind : x.kind = .poll i)
    (normal : s.supervisor.quiet = .normal) (good : fieldFrameOf octets = some f) (reading : f.kind = 0x11)
    (passed : (filterFrame s f).2 = some i) (feeds : s.field.heads[i].config.channel = some (c.val + 1)) :
    ∃ t, exec (.fieldFrameReceived octets) s = .next t
      ∧ t.field.heads[i] = { s.field.heads[i] with
          noReply := 0, state := .answering, lastAnswer := some s.now, lastOutcome := some .reply
          nextDue := some (s.now + s.field.heads[i].config.normal * 1000) }
      ∧ (∀ j : Fin 8, j ≠ i → t.field.heads[j] = s.field.heads[j])
      ∧ t.channels[c] = channelReads s.now f s.channels[c]
      ∧ (∀ j : Fin 4, j ≠ c → t.channels[j] = s.channels[j])
      ∧ t.field.window = none
      ∧ (t.field.tx = .free ∨ (t.field.tx = .waitingIdle ∧ t.field.deferral = some (s.now + 1500)))
      ∧ s.ChannelHanded t c
      ∧ (s.field.settings.capture = false → t.field.captured = s.field.captured)
      ∧ t.field.settings = s.field.settings ∧ t.time.runTime = s.time.runTime := by
  have base := repliedFrom_base i f s
  obtain ⟨heads, runTime, self, others, settings, captured, -, occupied⟩ := channelEvent_facts base c (channelReads s.now f)
  have handed := channelEvent_handed base c (channelReads s.now f)
  obtain ⟨self', others', settings', captured', -, window, tx⟩ :=
    transmitterFree_dueAgain i s.now (channelEvent c (channelReads s.now f) (repliedFrom i f s))
  have now : (channelEvent c (channelReads s.now f)
      (repliedFrom i f s)).now = s.now := runTime.trans base.now
  rw [exec_fieldFrameReceived, frameReceived_polled waits flight kind normal good reading passed feeds]
  refine ⟨_, rfl, ?_, fun j other => ?_, ?_, fun j other => ?_, window, ?_, ?_, fun off => ?_, ?_, ?_⟩
  · rw [self', heads, repliedFrom_get]
    rfl
  · rw [others' j other, heads, repliedFrom_get_ne other]
  · rw [transmitterFree_channels]
    exact self
  · rw [transmitterFree_channels]
    exact others j other
  · rw [now] at tx
    exact tx
  · exact (handed.after ((ChannelBase.refl _).entry i _) occupied).after (ChannelBase.transmitterFree _) occupied
  · rw [captured']
    exact captured.trans (frameOffered_captured off f)
  · rw [settings']
    exact settings.trans (frameOffered_settings f s)
  · rw [transmitterFree_time]
    exact now

end Sys2Proof.Machine

namespace Sys2Proof.Machine

/-! ## POST_STATE of a delivery (R41, R42) -/

theorem judgePosts_congr {a b : State} (heads : b.field.heads = a.field.heads)
    (lastSent : b.field.lastSent = a.field.lastSent) (t : State) : judgePosts b t = judgePosts a t := by
  have enabled : enabledPost b = enabledPost a := funext fun j => enabledPost_congr (by rw [heads])
  have facts : postFacts b = postFacts a := by
    funext j
    have wrong : mismatch b j = mismatch a j := mismatch_congr (by rw [heads]) (by rw [heads]) lastSent
    have fault : postFault b j = postFault a j := postFault_congr (by rw [heads])
    rw [postFacts, enabled, wrong, fault, heads, postFacts]
  rw [judgePosts, enabled, facts, judgePosts]

theorem judgePosts_offered (f : FieldFrame) (s t : State) : judgePosts (frameOffered f s) t = judgePosts s t :=
  judgePosts_congr (frameOffered_heads f s) (frameOffered_lastSent f s) t

theorem PostAlike.judgePosts (before s : State) : PostAlike s (judgePosts before s) := by
  have field := (keeps_judgePosts before s).field
  exact ⟨by rw [field], fun j => by rw [field], fun j => by rw [field], fun j => by rw [field]⟩

theorem PostAlike.trans {a b c : State} (h : PostAlike a b) (k : PostAlike b c) : PostAlike a c :=
  ⟨k.lastSent.trans h.lastSent, fun j => (k.config j).trans (h.config j), fun j => (k.state j).trans (h.state j),
    fun j => (k.post j).trans (h.post j)⟩

theorem PostAlike.dueAgain (i : Fin 8) (now : Nat) (s : State) :
    PostAlike s (transmitterFree (setEntry i (dueAgain now) s)) := by
  obtain ⟨self, others, -, -, lastSent, -, -⟩ := transmitterFree_dueAgain i now s
  have head (j : Fin 8) : (transmitterFree (setEntry i (Machine.dueAgain now) s)).field.heads[j] = s.field.heads[j]
      ∨ (transmitterFree (setEntry i (Machine.dueAgain now) s)).field.heads[j] = Machine.dueAgain now s.field.heads[j] := by
    by_cases here : j = i
    · exact .inr (here ▸ self)
    · exact .inl (others j here)
  refine ⟨lastSent, fun j => ?_, fun j => ?_, fun j => ?_⟩ <;> obtain same | due := head j
  · rw [same]
  · rw [due]
    rfl
  · rw [same]
  · rw [due]
    rfl
  · rw [same]
  · rw [due]
    rfl

/-- R41, R42: POST_STATE for a change at a post, with the snapshot as it stands at the end. -/
theorem judgePosts_told {s y t : State} {i : Fin 8} (post : enabledPost s i = true) (same : PostsBut i s y)
    (alike : PostAlike y t) (notices : t.notices.slots[sourcePlace .postState]
      = (judgePosts s y).notices.slots[sourcePlace .postState])
    (changed : mismatch s i ≠ mismatch y i ∨ s.field.heads[i].state ≠ y.field.heads[i].state
      ∨ postFault s i ≠ postFault y i) (occupied : y.link.notice ≠ none) :
    ∃ x, t.notices.slots[sourcePlace .postState] = some x ∧ x.content = t.postSnapshot := by
  rw [notices, judgePosts_changed post same changed, raisePostState, raise_slot _ _ (by decide) occupied, alike.snapshot]
  exact ⟨_, rfl, postStateContent_eq y⟩

theorem mismatch_of_status {t : State} {i : Fin 8} {p : PostStatus} (kind : t.field.heads[i].config.kind = .post)
    (status : t.field.heads[i].post = some p) :
    mismatch t i = true ↔ ∃ l, t.field.lastSent = some l ∧ l.level ≠ p.displayed := by
  rcases lastSent : t.field.lastSent with _ | l
  · simp [mismatch, lastSent]
  · rw [mismatch, kind, status, lastSent, beq_self_eq_true, Bool.true_and]
    refine bne_iff_ne.trans ⟨fun differs => ⟨l, rfl, differs.symm⟩, fun ⟨held, same, differs⟩ => ?_⟩
    exact Option.some.inj same ▸ differs.symm

/-! ## A POST_STATUS delivered (R21, R31, R32, R41) -/

/-- R41: the status placed at its entry. -/
def statusPlaced (i : Fin 8) (p : PostStatus) (s : State) : State := setEntry i (fun e => { e with post := some p }) s

theorem fieldFlag_two {b : Byte} (two : b.toNat ≤ 1) : fieldFlag b = (b == 1) := by
  rcases Nat.le_one_iff_eq_zero_or_eq_one.1 two with zero | one
  · obtain rfl : b = 0 := BitVec.eq_of_toNat_eq zero
    rfl
  · obtain rfl : b = 1 := BitVec.eq_of_toNat_eq one
    rfl

theorem postStatusOf_eq {f : FieldFrame} {a b c : Byte} (payload : f.payload = [a, b, c]) (two : b.toNat ≤ 1)
    (two' : c.toNat ≤ 1) : postStatusOf f = { displayed := a.toNat, siren := b == 1, fault := c == 1 } := by
  rw [← fieldFlag_two two, ← fieldFlag_two two', postStatusOf, payload]
  rfl

/-- R41: the part as a POST_STATUS leaves it, in its poll's reply window or outside it. -/
theorem frameReceived_status {s : State} {octets : List Byte} {f : FieldFrame} {i : Fin 8} {polled : Bool}
    (listens : s.field.tx ≠ .sending) (normal : s.supervisor.quiet = .normal) (good : fieldFrameOf octets = some f)
    (status : f.kind = 0x21) (passed : (filterFrame s f).2 = some i)
    (asked : polled = true ↔ s.field.tx = .replyWindow ∧ ∃ x, s.field.transaction = some x ∧ x.kind = .poll i) :
    frameReceived octets s = if polled = true then
        transmitterFree (setEntry i (dueAgain s.now) (judgePosts s (statusPlaced i (postStatusOf f) (repliedFrom i f s))))
      else judgePosts s (statusPlaced i (postStatusOf f) (heardFrom i f s)) := by
  rw [frameReceived_passed listens good passed]
  split
  case isTrue yes =>
    obtain ⟨waits, x, flight, kind⟩ := asked.1 yes
    have answers : answersWindow (frameOffered f s) i f = some x :=
      answersWindow_poll ((frameOffered_tx f s).trans waits) ((frameOffered_transaction f s).trans flight) kind
        (by rw [status]; decide)
    have keeps := keeps_judgePosts s (statusPlaced i (postStatusOf f) (repliedFrom i f s))
    have base := (repliedFrom_base i f s).entry i fun e => { e with post := some (postStatusOf f) }
    have due := scheduleEntry_normal i (s := judgePosts s (statusPlaced i (postStatusOf f) (repliedFrom i f s)))
      (by rw [keeps.supervisor]; exact (congrArg Supervisor.quiet base.supervisor).trans normal)
    have now : (judgePosts s (statusPlaced i (postStatusOf f) (repliedFrom i f s))).now = s.now :=
      (congrArg TimeBase.runTime keeps.time).trans base.now
    have handed : handContent (frameOffered f s) i f (repliedFrom i f s)
        = judgePosts s (statusPlaced i (postStatusOf f) (repliedFrom i f s)) :=
      (handContent_status status ((congrArg Supervisor.quiet (repliedFrom_base i f s).supervisor).trans normal)).trans
        (judgePosts_offered f s _)
    rw [now] at due
    rw [deliver_polled answers kind]
    show transmitterFree (scheduleEntry i (handContent (frameOffered f s) i f (repliedFrom i f s))) = _
    rw [handed, due]
    rfl
  case isFalse no =>
    have silent : answersWindow (frameOffered f s) i f = none := by
      rcases answers : answersWindow (frameOffered f s) i f with _ | x
      · rfl
      · obtain ⟨waits, flight, poll | ⟨-, reply, -⟩⟩ := answersWindow_some answers
        · rw [frameOffered_tx] at waits
          rw [frameOffered_transaction] at flight
          exact absurd (asked.2 ⟨waits, x, flight, poll.1⟩) no
        · rw [status] at reply
          exact absurd reply (by decide)
    rw [deliver_unasked silent]
    exact (handContent_status status ((congrArg Supervisor.quiet (heardFrom_base i f s).supervisor).trans normal)).trans
      (judgePosts_offered f s _)

/-- The field line alone, up to the status placed. -/
theorem heardFrom_fieldAlone (i : Fin 8) (f : FieldFrame) (s : State) : s.FieldAlone (heardFrom i f s) :=
  (frameOffered_fieldAlone f s).trans (State.FieldAlone.setEntry i _ _)

theorem repliedFrom_fieldAlone (i : Fin 8) (f : FieldFrame) (s : State) : s.FieldAlone (repliedFrom i f s) :=
  (heardFrom_fieldAlone i f s).trans (State.FieldAlone.setEntry i _ _)

theorem statusPlaced_get (i : Fin 8) (p : PostStatus) (s : State) :
    (statusPlaced i p s).field.heads[i] = { s.field.heads[i] with post := some p } := setEntry_get i _ s

theorem statusPlaced_get_ne {i j : Fin 8} (other : j ≠ i) (p : PostStatus) (s : State) :
    (statusPlaced i p s).field.heads[j] = s.field.heads[j] := setEntry_get_ne other _ s

/-- R41: what the delivery of a POST_STATUS raises, whichever way the entry was heard. -/
theorem status_told {s x t : State} {i : Fin 8} {p : PostStatus} (on : s.field.heads[i].config.enable = true)
    (kind : s.field.heads[i].config.kind = .post) (config : x.field.heads[i].config = s.field.heads[i].config)
    (state : x.field.heads[i].state = .answering) (others : ∀ j : Fin 8, j ≠ i → x.field.heads[j] = s.field.heads[j])
    (lastSent : x.field.lastSent = s.field.lastSent) (occupied : x.link.notice ≠ none)
    (alike : PostAlike (judgePosts s (statusPlaced i p x)) t)
    (notices : t.notices = (judgePosts s (statusPlaced i p x)).notices) :
    (mismatch s i ≠ mismatch t i ∨ s.field.heads[i].state = .silent ∨ postFault s i ≠ p.fault →
      ∃ y, t.notices.slots[sourcePlace .postState] = some y ∧ y.content = t.postSnapshot)
    ∧ (mismatch s i = mismatch t i → s.field.heads[i].state = .answering → postFault s i = p.fault →
      t.notices = x.notices) := by
  have post : enabledPost s i = true := by simp only [enabledPost, on, kind, beq_self_eq_true, Bool.and_self]
  have same : PostsBut i s (statusPlaced i p x) :=
    ⟨fun j other => (statusPlaced_get_ne other p x).trans (others j other), by rw [statusPlaced_get]; exact config, lastSent⟩
  have alike' := (PostAlike.judgePosts s (statusPlaced i p x)).trans alike
  have mismatched : mismatch t i = mismatch (statusPlaced i p x) i :=
    mismatch_congr (alike'.config i) (alike'.post i) alike'.lastSent
  have fault : postFault (statusPlaced i p x) i = p.fault := by rw [postFault, statusPlaced_get]
  have answers : (statusPlaced i p x).field.heads[i].state = .answering := by
    rw [statusPlaced_get]
    exact state
  rw [mismatched]
  refine ⟨fun changed => judgePosts_told post same alike' (by rw [notices]) ?_ occupied, fun mm answering sound => ?_⟩
  · rw [answers, fault]
    refine changed.imp_right (Or.imp_left fun silent => ?_)
    rw [silent]
    exact fun wrong => nomatch wrong
  · rw [notices, judgePosts_same same fun _ => ⟨mm, answering.trans answers.symm, sound.trans fault.symm⟩]
    rfl

theorem heardFrom_notices (i : Fin 8) (f : FieldFrame) (s : State) :
    (heardFrom i f s).notices = (frameOffered f s).notices ∧ (repliedFrom i f s).notices = (frameOffered f s).notices :=
  ⟨rfl, rfl⟩

theorem heardFrom_lastSent (i : Fin 8) (f : FieldFrame) (s : State) :
    (heardFrom i f s).field.lastSent = s.field.lastSent := frameOffered_lastSent f s

theorem heardFrom_occupied (i : Fin 8) (f : FieldFrame) {s : State} (occupied : s.link.notice ≠ none) :
    (heardFrom i f s).link.notice ≠ none := (frameOffered_raises f s).occupied occupied

/-- R21, R32, R35, R41: what a POST_STATUS leaves. -/
theorem status_delivered {s : State} {octets : List Byte} {f : FieldFrame} {i : Fin 8} {a b c : Byte} {p : PostStatus}
    {polled : Bool} (listens : s.field.tx ≠ .sending) (normal : s.supervisor.quiet = .normal)
    (good : fieldFrameOf octets = some f) (status : f.kind = 0x21) (payload : f.payload = [a, b, c]) (two : b.toNat ≤ 1)
    (two' : c.toNat ≤ 1) (passed : (filterFrame s f).2 = some i) (on : s.field.heads[i].config.enable = true)
    (kind : s.field.heads[i].config.kind = .post) (p_eq : p = { displayed := a.toNat, siren := b == 1, fault := c == 1 })
    (asked : polled = true ↔ s.field.tx = .replyWindow ∧ ∃ x, s.field.transaction = some x ∧ x.kind = .poll i) :
    ∃ t, exec (.fieldFrameReceived octets) s = .next t ∧ (s.setField t.field).Keeps t
      ∧ (∀ j : Fin 8, j ≠ i → t.field.heads[j] = s.field.heads[j])
      ∧ (polled = false → t.field.heads[i] = { s.field.heads[i] with
            noReply := 0, state := .answering, lastAnswer := some s.now, post := some p }
          ∧ t.field.tx = s.field.tx ∧ t.field.transaction = s.field.transaction)
      ∧ (polled = true → t.field.heads[i] = { s.field.heads[i] with
            noReply := 0, state := .answering, lastAnswer := some s.now, post := some p
            lastOutcome := some .reply, nextDue := some (s.now + s.field.heads[i].config.normal * 1000) }
          ∧ t.field.window = none
          ∧ (t.field.tx = .free ∨ (t.field.tx = .waitingIdle ∧ t.field.deferral = some (s.now + 1500))))
      ∧ (mismatch t i = true ↔ ∃ l, s.field.lastSent = some l ∧ l.level ≠ a.toNat)
      ∧ (s.link.notice ≠ none →
          (mismatch s i ≠ mismatch t i ∨ s.field.heads[i].state = .silent ∨ postFault s i ≠ p.fault →
            ∃ x, t.notices.slots[sourcePlace .postState] = some x ∧ x.content = t.postSnapshot)
          ∧ (mismatch s i = mismatch t i → s.field.heads[i].state = .answering → postFault s i = p.fault →
            s.Untold t .postState ∧ (s.field.settings.capture = false → t.notices = s.notices))) := by
  have unraised : s.link.notice ≠ none → (frameOffered f s).notices.slots[sourcePlace .postState]
      = s.notices.slots[sourcePlace .postState] := (frameOffered_raises f s).untold (by decide)
  have uncaptured (off : s.field.settings.capture = false) : (frameOffered f s).notices = s.notices := by
    rw [frameOffered_off off]
    rfl
  have p_of : postStatusOf f = p := (postStatusOf_eq payload two two').trans p_eq.symm
  have displayed : p.displayed = a.toNat := by rw [p_eq]
  have received := frameReceived_status listens normal good status passed asked
  rw [p_of] at received
  rw [exec_fieldFrameReceived, received]
  cases polled
  case false =>
    rw [if_neg Bool.false_ne_true]
    have keeps := keeps_judgePosts s (statusPlaced i p (heardFrom i f s))
    have entry : (judgePosts s (statusPlaced i p (heardFrom i f s))).field.heads[i] = { s.field.heads[i] with
        noReply := 0, state := .answering, lastAnswer := some s.now, post := some p } := by
      rw [keeps.field, statusPlaced_get, heardFrom_get]
    have lastSent : (judgePosts s (statusPlaced i p (heardFrom i f s))).field.lastSent = s.field.lastSent := by
      rw [keeps.field]
      exact heardFrom_lastSent i f s
    refine ⟨_, rfl, ?_, fun j other => ?_, fun _ => ⟨entry, ?_, ?_⟩, fun wrong => absurd wrong Bool.false_ne_true, ?_,
      fun occupied => ?_⟩
    · exact ((heardFrom_fieldAlone i f s).trans (State.FieldAlone.setEntry i _ _)).trans (State.FieldAlone.ofKeeps keeps)
    · rw [keeps.field, statusPlaced_get_ne other, heardFrom_get_ne other]
    · rw [keeps.field]
      exact frameOffered_tx f s
    · rw [keeps.field]
      exact frameOffered_transaction f s
    · rw [mismatch_of_status (p := p) (by rw [entry]; exact kind) (by rw [entry]), lastSent, displayed]
    · obtain ⟨raised, still⟩ := status_told (x := heardFrom i f s) (p := p) on kind (by rw [heardFrom_get])
        (by rw [heardFrom_get]) (fun j other => heardFrom_get_ne other f s) (heardFrom_lastSent i f s)
        (heardFrom_occupied i f occupied) (⟨rfl, fun _ => rfl, fun _ => rfl, fun _ => rfl⟩) rfl
      refine ⟨raised, fun mm answering sound => ?_⟩
      have notices := (still mm answering sound).trans (heardFrom_notices i f s).1
      exact ⟨fun _ => by rw [notices]; exact unraised occupied, fun off => notices.trans (uncaptured off)⟩
  case true =>
    rw [if_pos rfl]
    have keeps := keeps_judgePosts s (statusPlaced i p (repliedFrom i f s))
    obtain ⟨self, others, -, -, lastSent', window, tx⟩ :=
      transmitterFree_dueAgain i s.now (judgePosts s (statusPlaced i p (repliedFrom i f s)))
    have now : (judgePosts s (statusPlaced i p (repliedFrom i f s))).now = s.now :=
      (congrArg TimeBase.runTime keeps.time).trans (repliedFrom_base i f s).now
    have entry : (transmitterFree (setEntry i (dueAgain s.now) (judgePosts s (statusPlaced i p (repliedFrom i f s))))).field.heads[i]
        = { s.field.heads[i] with
          noReply := 0, state := .answering, lastAnswer := some s.now, post := some p
          lastOutcome := some .reply, nextDue := some (s.now + s.field.heads[i].config.normal * 1000) } := by
      rw [self, keeps.field, statusPlaced_get, repliedFrom_get]
      rfl
    have lastSent : (transmitterFree (setEntry i (dueAgain s.now)
        (judgePosts s (statusPlaced i p (repliedFrom i f s))))).field.lastSent = s.field.lastSent := by
      rw [lastSent', keeps.field]
      exact heardFrom_lastSent i f s
    rw [now] at tx
    refine ⟨_, rfl, ?_, fun j other => ?_, fun wrong => absurd wrong.symm Bool.false_ne_true, fun _ => ⟨entry, window, tx⟩, ?_,
      fun occupied => ?_⟩
    · exact ((((repliedFrom_fieldAlone i f s).trans (State.FieldAlone.setEntry i _ _)).trans
        (State.FieldAlone.ofKeeps keeps)).trans (State.FieldAlone.setEntry i _ _)).trans (State.FieldAlone.transmitterFree _)
    · rw [others j other, keeps.field, statusPlaced_get_ne other, repliedFrom_get_ne other]
    · rw [mismatch_of_status (p := p) (by rw [entry]; exact kind) (by rw [entry]), lastSent, displayed]
    · obtain ⟨raised, still⟩ := status_told (x := repliedFrom i f s) (p := p) on kind (by rw [repliedFrom_get])
        (by rw [repliedFrom_get]) (fun j other => repliedFrom_get_ne other f s) (heardFrom_lastSent i f s)
        (heardFrom_occupied i f occupied) (PostAlike.dueAgain i s.now _) (transmitterFree_notices _)
      refine ⟨raised, fun mm answering sound => ?_⟩
      have notices := (still mm answering sound).trans (heardFrom_notices i f s).2
      exact ⟨fun _ => by rw [notices]; exact unraised occupied, fun off => notices.trans (uncaptured off)⟩

end Sys2Proof.Machine

namespace Sys2Proof.Machine

/-! ## A PARAM_REPLY delivered (R31, R35, R37, R38) -/

theorem judgePosts_heard {before s : State} {i : Fin 8} {f : FieldFrame} (reply : f.kind = 0x14) :
    handContent (frameOffered f before) i f s = judgePosts before s :=
  (handContent_reply reply).trans (judgePosts_offered f before s)

/-- R37: a PARAM_REPLY that the management transaction in flight awaits. -/
theorem frameReceived_awaited {s : State} {octets : List Byte} {f : FieldFrame} {x : Transaction} {m : Management}
    (waits : s.field.tx = .replyWindow) (flight : s.field.transaction = some x) (kind : x.kind = .management)
    (held : s.field.management = some m) (good : fieldFrameOf octets = some f) (reply : f.kind = 0x14)
    (passed : (filterFrame s f).2 = some m.entry) (parameter : (octetAt f.payload 0).toNat = m.parameter) :
    frameReceived octets s = transmitterFree (endManagement x.frame.destination (paramOutcomeOf f)
      (judgePosts s (heardFrom m.entry f s))) := by
  have answers : answersWindow (frameOffered f s) m.entry f = some x :=
    answersWindow_management ((frameOffered_tx f s).trans waits) ((frameOffered_transaction f s).trans flight) kind
      ((frameOffered_management f s).trans held) reply parameter
  rw [frameReceived_passed (by rw [waits]; decide) good passed, deliver_management answers kind, managementAnswered]
  rw [judgePosts_heard reply]
  rfl

/-- R35: a PARAM_REPLY that no window awaits. -/
theorem frameReceived_unawaited {s : State} {octets : List Byte} {f : FieldFrame} {i : Fin 8} (listens : s.field.tx ≠ .sending)
    (good : fieldFrameOf octets = some f) (reply : f.kind = 0x14) (passed : (filterFrame s f).2 = some i)
    (unawaited : s.field.tx = .replyWindow → ∀ x m, s.field.transaction = some x → x.kind = .management →
      s.field.management = some m → m.entry = i → (octetAt f.payload 0).toNat ≠ m.parameter) :
    frameReceived octets s = judgePosts s (heardFrom i f s) := by
  have silent : answersWindow (frameOffered f s) i f = none := by
    rcases answers : answersWindow (frameOffered f s) i f with _ | x
    · rfl
    · obtain ⟨waits, flight, poll | ⟨kind, -, m, held, entry, parameter⟩⟩ := answersWindow_some answers
      · exact absurd reply poll.2
      · rw [frameOffered_tx] at waits
        rw [frameOffered_transaction] at flight
        rw [frameOffered_management] at held
        exact absurd parameter (unawaited waits x m flight kind held entry)
  rw [frameReceived_passed listens good passed, deliver_unasked silent]
  exact judgePosts_heard reply

/-- R37: the outcome of a PARAM_REPLY, with its value where there is one. -/
theorem paramOutcomeOf_eq {f : FieldFrame} {p : Byte} {value : Option Int}
    (payload : (f.payload = [p, 1] ∧ value = none)
      ∨ (∃ v0 v1 v2 v3, f.payload = [p, 0, v0, v1, v2, v3] ∧ value = some (octetsInt [v0, v1, v2, v3]))) :
    paramOutcomeOf f = value.elim .headRefused .ok
      ∧ (octetAt f.payload 0).toNat = p.toNat := by
  rcases payload with ⟨refused, rfl⟩ | ⟨v0, v1, v2, v3, given, rfl⟩
  · rw [paramOutcomeOf, refused]
    exact ⟨rfl, rfl⟩
  · rw [paramOutcomeOf, given]
    exact ⟨rfl, rfl⟩

theorem heardFrom_management (i : Fin 8) (f : FieldFrame) (s : State) :
    (heardFrom i f s).field.management = s.field.management := frameOffered_management f s

theorem judgePosts_raises (before s : State) : RaisesOnly [.postState] s (judgePosts before s) := by
  unfold judgePosts
  split
  · exact RaisesOnly.raise (by simp) (by decide) _ s
  · exact RaisesOnly.refl _ s

/-- The part after a PARAM_REPLY has been heard and the posts judged. -/
theorem heard_judged (i : Fin 8) (f : FieldFrame) (s : State) :
    s.FieldAlone (judgePosts s (heardFrom i f s))
    ∧ (judgePosts s (heardFrom i f s)).field.heads[i]
      = { s.field.heads[i] with noReply := 0, state := .answering, lastAnswer := some s.now }
    ∧ (∀ j : Fin 8, j ≠ i → (judgePosts s (heardFrom i f s)).field.heads[j] = s.field.heads[j])
    ∧ (judgePosts s (heardFrom i f s)).field = (heardFrom i f s).field := by
  have keeps := keeps_judgePosts s (heardFrom i f s)
  refine ⟨(heardFrom_fieldAlone i f s).trans (State.FieldAlone.ofKeeps keeps), ?_, fun j other => ?_, keeps.field⟩
  · rw [keeps.field, heardFrom_get]
  · rw [keeps.field, heardFrom_get_ne other]

/-- R37, R38: what an awaited PARAM_REPLY leaves. -/
theorem reply_awaited {s : State} {octets : List Byte} {f : FieldFrame} {x : Transaction} {m : Management} {p : Byte}
    {value : Option Int} (waits : s.field.tx = .replyWindow) (flight : s.field.transaction = some x)
    (kind : x.kind = .management) (held : s.field.management = some m) (good : fieldFrameOf octets = some f)
    (reply : f.kind = 0x14) (passed : (filterFrame s f).2 = some m.entry)
    (payload : (f.payload = [p, 1] ∧ value = none)
      ∨ (∃ v0 v1 v2 v3, f.payload = [p, 0, v0, v1, v2, v3] ∧ value = some (octetsInt [v0, v1, v2, v3])))
    (parameter : p.toNat = m.parameter) :
    ∃ t, exec (.fieldFrameReceived octets) s = .next t ∧ (s.setField t.field).Keeps t
      ∧ t.field.heads[m.entry] = { s.field.heads[m.entry] with
          noReply := 0, state := .answering, lastAnswer := some s.now }
      ∧ (∀ j : Fin 8, j ≠ m.entry → t.field.heads[j] = s.field.heads[j])
      ∧ t.field.management = none ∧ t.field.window = none
      ∧ (t.field.tx = .free ∨ (t.field.tx = .waitingIdle ∧ t.field.deferral = some (s.now + 1500)))
      ∧ (s.link.notice ≠ none → ∃ y, t.notices.slots[sourcePlace .headParamDone] = some y
          ∧ y.content = [.num 1 (m.entry.val + 1), .num 1 x.frame.destination, .code (paramOpCode m.op),
              .num 1 m.parameter, .code (if value = none then 1 else 0)]
            ++ (match (generalizing := false) value with
              | none => [.absent]
              | some v => [.present, .num 4 v])
            ++ [.num 6 s.now] ++ optTime s.time.stationTime) := by
  obtain ⟨outcome, octet⟩ := paramOutcomeOf_eq payload
  obtain ⟨alone, self, others, field⟩ := heard_judged m.entry f s
  obtain ⟨heads, -, -, -, window, -, -, -, management, tx⟩ := transmitterFree_field
    (endManagement x.frame.destination (paramOutcomeOf f) (judgePosts s (heardFrom m.entry f s)))
  have ends := endManagement_fieldAlone x.frame.destination (paramOutcomeOf f) (judgePosts s (heardFrom m.entry f s))
  have now : (endManagement x.frame.destination (paramOutcomeOf f) (judgePosts s (heardFrom m.entry f s))).now = s.now :=
    congrArg TimeBase.runTime ((alone.trans ends).time)
  have heldStill : (judgePosts s (heardFrom m.entry f s)).field.management = some m := by
    rw [field, heardFrom_management, held]
  rw [endManagement_field] at heads management
  rw [now] at tx
  rw [exec_fieldFrameReceived, frameReceived_awaited waits flight kind held good reply passed (octet.trans parameter)]
  refine ⟨_, rfl, (alone.trans ends).trans (State.FieldAlone.transmitterFree _), ?_, fun j other => ?_, management rfl, window,
    tx, fun occupied => ?_⟩
  · rw [heads]
    exact self
  · rw [heads]
    exact others j other
  · have judged := (judgePosts_raises s (heardFrom m.entry f s)).occupied (heardFrom_occupied m.entry f occupied)
    have told := endManagement_told heldStill x.frame.destination (paramOutcomeOf f) judged
    have time : (judgePosts s (heardFrom m.entry f s)).time = s.time := alone.time
    rw [transmitterFree_notices, told]
    refine ⟨_, rfl, ?_⟩
    rw [outcome, headParamDoneContent, State.now, time]
    rcases value with _ | v
    · rfl
    · rfl

/-- R35, R41, R42: what a PARAM_REPLY that no window awaits leaves. -/
theorem reply_unawaited {s : State} {octets : List Byte} {f : FieldFrame} {i : Fin 8} (listens : s.field.tx ≠ .sending)
    (good : fieldFrameOf octets = some f) (reply : f.kind = 0x14) (passed : (filterFrame s f).2 = some i)
    (on : s.field.heads[i].config.enable = true)
    (unawaited : s.field.tx = .replyWindow → ∀ x m, s.field.transaction = some x → x.kind = .management →
      s.field.management = some m → m.entry = i → (octetAt f.payload 0).toNat ≠ m.parameter) :
    ∃ t, exec (.fieldFrameReceived octets) s = .next t ∧ (s.setField t.field).Keeps t
      ∧ t.field.heads[i] = { s.field.heads[i] with noReply := 0, state := .answering, lastAnswer := some s.now }
      ∧ (∀ j : Fin 8, j ≠ i → t.field.heads[j] = s.field.heads[j])
      ∧ t.field.management = s.field.management ∧ t.field.transaction = s.field.transaction
      ∧ t.field.tx = s.field.tx ∧ t.field.window = s.field.window ∧ t.field.deferral = s.field.deferral
      ∧ t.field.backoff = s.field.backoff ∧ t.field.lastSent = s.field.lastSent ∧ t.field.warn = s.field.warn
      ∧ s.Untold t .headParamDone
      ∧ (s.field.heads[i].config.kind = .post → s.field.heads[i].state = .silent → s.link.notice ≠ none →
          ∃ y, t.notices.slots[sourcePlace .postState] = some y ∧ y.content = t.postSnapshot)
      ∧ (s.field.heads[i].config.kind = .stage ∨ s.field.heads[i].state = .answering → s.Untold t .postState) := by
  obtain ⟨alone, self, others, field⟩ := heard_judged i f s
  have untouched : (judgePosts s (heardFrom i f s)).field.management = s.field.management
      ∧ (judgePosts s (heardFrom i f s)).field.transaction = s.field.transaction
      ∧ (judgePosts s (heardFrom i f s)).field.tx = s.field.tx
      ∧ (judgePosts s (heardFrom i f s)).field.window = s.field.window
      ∧ (judgePosts s (heardFrom i f s)).field.deferral = s.field.deferral
      ∧ (judgePosts s (heardFrom i f s)).field.backoff = s.field.backoff
      ∧ (judgePosts s (heardFrom i f s)).field.lastSent = s.field.lastSent
      ∧ (judgePosts s (heardFrom i f s)).field.warn = s.field.warn := by
    rw [field]
    show (frameOffered f s).field.management = _ ∧ (frameOffered f s).field.transaction = _
      ∧ (frameOffered f s).field.tx = _ ∧ (frameOffered f s).field.window = _ ∧ (frameOffered f s).field.deferral = _
      ∧ (frameOffered f s).field.backoff = _ ∧ (frameOffered f s).field.lastSent = _ ∧ (frameOffered f s).field.warn = _
    rw [frameOffered_field]
    exact ⟨rfl, rfl, rfl, rfl, rfl, rfl, rfl, rfl⟩
  obtain ⟨management, transaction, tx, window, deferral, backoff, lastSent, warn⟩ := untouched
  have same : PostsBut i s (heardFrom i f s) :=
    ⟨fun j other => heardFrom_get_ne other f s, by rw [heardFrom_get], heardFrom_lastSent i f s⟩
  have judged := judgePosts_raises s (heardFrom i f s)
  have offered := frameOffered_raises f s
  rw [exec_fieldFrameReceived, frameReceived_unawaited listens good reply passed unawaited]
  refine ⟨_, rfl, alone, self, others, management, transaction, tx, window, deferral, backoff, lastSent, warn,
    fun occupied => ?_, fun post silent occupied => ?_, fun still occupied => ?_⟩
  · rw [judged.untold (by decide) (heardFrom_occupied i f occupied)]
    exact offered.untold (by decide) occupied
  · have enabled : enabledPost s i = true := by simp only [enabledPost, on, post, beq_self_eq_true, Bool.and_self]
    refine judgePosts_told enabled same (PostAlike.judgePosts s _) rfl (.inr (.inl ?_)) (heardFrom_occupied i f occupied)
    rw [silent, heardFrom_get]
    exact fun wrong => nomatch wrong
  · rw [judgePosts_same same fun enabled => ?_]
    · exact offered.untold (by decide) occupied
    · have post : s.field.heads[i].config.kind = .post := by
        rw [enabledPost, Bool.and_eq_true, beq_iff_eq] at enabled
        exact enabled.2
      have answering : s.field.heads[i].state = .answering := by
        rcases still with stage | answering
        · exact nomatch post.symm.trans stage
        · exact answering
      have config : (heardFrom i f s).field.heads[i].config = s.field.heads[i].config := by rw [heardFrom_get]
      have status : (heardFrom i f s).field.heads[i].post = s.field.heads[i].post := by rw [heardFrom_get]
      exact ⟨(mismatch_congr config status (heardFrom_lastSent i f s)).symm, by rw [heardFrom_get, answering],
        (postFault_congr status).symm⟩

/-- Settles O38: a READING, a POST_STATUS and a PARAM_REPLY, inside their reply window and outside it. -/
theorem readingDelivered : Obligations.ReadingDelivered := by
  unfold Obligations.ReadingDelivered
  refine ⟨fun s octets f i c listens unasked good reading length own on stage source alone feeds => ?_,
    fun s octets f i c x waits flight kind normal good reading length own on stage source alone feeds => ?_,
    fun s octets f i a b c p polled listens normal good status payload two two' own on post source alone p_eq asked => ?_,
    fun s octets f i x m p value waits flight kind held entry good reply payload own on source alone => ?_,
    fun s octets f i p listens good reply payload own on source alone unawaited => ?_⟩
  · exact reading_unasked listens unasked good reading (filterFrame_own own (kindTaken_reading reading length) on source
      (fun _ => stage) (fun status => nomatch reading.symm.trans status) alone) feeds
  · exact reading_polled waits flight kind normal good reading (filterFrame_own own (kindTaken_reading reading length) on
      source (fun _ => stage) (fun status => nomatch reading.symm.trans status) alone) feeds
  · exact status_delivered listens normal good status payload two two' (filterFrame_own own (kindTaken_status status payload)
      on source (fun reading => nomatch status.symm.trans reading) (fun _ => post) alone) on post p_eq asked
  · have shape : f.payload = [p, 1] ∨ ∃ v0 v1 v2 v3, f.payload = [p, 0, v0, v1, v2, v3] :=
      payload.imp And.left fun ⟨v0, v1, v2, v3, given⟩ => ⟨v0, v1, v2, v3, given.1⟩
    have passed := filterFrame_own own (kindTaken_reply reply shape) on source
      (fun reading => nomatch reply.symm.trans reading) (fun status => nomatch reply.symm.trans status) alone
    have octet := (paramOutcomeOf_eq payload).2
    subst entry
    by_cases parameter : p.toNat = m.parameter
    · obtain ⟨t, next, keeps, self, others, management, window, tx, told⟩ :=
        reply_awaited waits flight kind held good reply passed payload parameter
      exact ⟨t, next, keeps, self, others, fun _ => ⟨management, window, tx, told⟩, fun other => absurd parameter other⟩
    · obtain ⟨t, next, keeps, self, others, management, transaction, tx, window, -⟩ :=
        reply_unawaited (by rw [waits]; decide) good reply passed on fun _ x' m' _ _ held' _ => by
          obtain rfl := Option.some.inj (held.symm.trans held')
          rw [octet]
          exact parameter
      exact ⟨t, next, keeps, self, others, fun same => absurd same parameter,
        fun _ => ⟨management.trans held, tx.trans waits, window, transaction.trans flight⟩⟩
  · have octet : (octetAt f.payload 0).toNat = p.toNat := by
      rcases payload with refused | ⟨v0, v1, v2, v3, given⟩
      · rw [refused]
        rfl
      · rw [given]
        rfl
    exact reply_unawaited listens good reply (filterFrame_own own (kindTaken_reply reply payload) on source
      (fun reading => nomatch reply.symm.trans reading) (fun status => nomatch reply.symm.trans status) alone) on
      fun waits x m flight kind held entry => octet ▸ unawaited waits x m flight kind held entry

end Sys2Proof.Machine

namespace Sys2Proof.Machine

/-! ## A run aborted (R138) -/

/-- R138, steps 1 and 2: the run marked ABORTED, its exposure abandoned. -/
def abortMarked (r : AbortReason) (s : State) : State :=
  abandonExposure (s.setRun
    { s.run with state := .aborted, reason := some r, vertical := { s.run.vertical with skipMark := false } })

/-- R138, step 4: the end recorded. -/
def abortEnded (s : State) : State :=
  s.setRun { s.run with finish := some (presentMoment s), phase := none, vertical := noVertical }

theorem abortCore_travel {r : AbortReason} {s : State} (early : s.run.phase = none ∨ s.run.phase = some .travel) :
    abortCore r s = abortEnded (abortMarked r s) := by
  unfold abortCore
  dsimp only
  split
  case h_1 => rfl
  case h_2 => rfl
  case h_3 p notTravel phase =>
    rcases early with none_ | travel
    · exact nomatch phase.symm.trans none_
    · exact absurd (Option.some.inj (phase.symm.trans travel)) notTravel

theorem abortCore_later {r : AbortReason} {s : State} {p : RunPhase} (phase : s.run.phase = some p) (late : p ≠ .travel) :
    abortCore r s = abortEnded (storeVertical (some (s.run.vertical.marked.getD (skipOfAbort r))) (abortMarked r s)) := by
  unfold abortCore
  dsimp only
  split
  case h_1 travel => exact absurd (Option.some.inj (phase.symm.trans travel)) late
  case h_2 none_ => exact nomatch phase.symm.trans none_
  case h_3 => rfl

theorem abortMarked_run (r : AbortReason) (s : State) : (abortMarked r s).run
    = { s.run with
        state := .aborted, reason := some r, vertical := { s.run.vertical with skipMark := false }, exposure := none } :=
  abandonExposure_run _

theorem abortMarked_time (r : AbortReason) (s : State) : (abortMarked r s).time
    = if s.run.exposure = none then s.time else { s.time with exposureSpan := none } :=
  abandonExposure_time _

theorem abortMarked_moment (r : AbortReason) (s : State) : presentMoment (abortMarked r s)
    = { runTime := s.now, stationTime := s.time.stationTime, stage := s.stage.stage, quality := s.stage.quality } := by
  simp only [presentMoment, abortMarked, abandonExposure_now, abandonExposure_station, abandonExposure_stage]
  rfl

/-- R138: what the abort leaves of the run. -/
theorem abortCore_run (r : AbortReason) (s : State) : (abortCore r s).run
    = { s.run with
        state := .aborted, reason := some r, vertical := noVertical, exposure := none, phase := none
        verticals := (abortCore r s).run.verticals
        finish := some { runTime := s.now, stationTime := s.time.stationTime, stage := s.stage.stage
                         quality := s.stage.quality } } := by
  rcases phase : s.run.phase with _ | p
  · rw [abortCore_travel (.inl phase), abortEnded, abortMarked_moment]
    simp [abortMarked_run]
  · by_cases travel : p = .travel
    · rw [abortCore_travel (.inr (travel ▸ phase)), abortEnded, abortMarked_moment]
      simp [abortMarked_run]
    · have moment : presentMoment (storeVertical (some (s.run.vertical.marked.getD (skipOfAbort r))) (abortMarked r s))
          = presentMoment (abortMarked r s) := by
        simp [presentMoment]
      rw [abortCore_later phase travel, abortEnded, moment, abortMarked_moment]
      simp [storeVertical_run, abortMarked_run]

theorem abortCore_time (r : AbortReason) (s : State) : (abortCore r s).time
    = if s.run.exposure = none then s.time else { s.time with exposureSpan := none } := by
  rw [← abortMarked_time r s]
  rcases phase : s.run.phase with _ | p
  · rw [abortCore_travel (.inl phase)]
    rfl
  · by_cases travel : p = .travel
    · rw [abortCore_travel (.inr (travel ▸ phase))]
      rfl
    · rw [abortCore_later phase travel]
      exact storeVertical_time _ _

/-- R138: before the first sounding nothing is stored. -/
theorem abortCore_unstored {r : AbortReason} {s : State} (early : s.run.phase = none ∨ s.run.phase = some .travel) :
    (abortCore r s).run.verticals = s.run.verticals ∧ (abortCore r s).notices = s.notices
      ∧ (abortCore r s).link = s.link := by
  rw [abortCore_travel early]
  refine ⟨?_, ?_, ?_⟩
  · show (abortMarked r s).run.verticals = _
    rw [abortMarked_run]
  · exact abandonExposure_notices _
  · exact abandonExposure_link _

/-- R135, R138, R145: past TRAVEL the vertical in hand is stored SKIPPED with RUN_PROGRESS. -/
theorem abortCore_stored {r : AbortReason} {s : State} {p : RunPhase} (phase : s.run.phase = some p) (late : p ≠ .travel) :
    ∃ v : VerticalResult, (abortCore r s).run.verticals = s.run.verticals ++ [v]
      ∧ v.index = s.run.vertical.index ∧ v.depth = s.run.vertical.depth ∧ v.points = s.run.vertical.points
      ∧ v.mean = none ∧ v.skip = some (s.run.vertical.marked.getD (skipOfAbort r))
      ∧ s.Told (abortCore r s) .runProgress (s.progressOf v .aborted) := by
  rw [abortCore_later phase late]
  refine ⟨verticalResult (abortMarked r s) (some (s.run.vertical.marked.getD (skipOfAbort r))), ?_, ?_, ?_, ?_, rfl, rfl,
    fun occupied => ?_⟩
  · rw [abortEnded]
    simp [storeVertical_run, abortMarked_run]
  · simp [verticalResult, abortMarked_run]
  · simp [verticalResult, abortMarked_run]
  · simp [verticalResult, abortMarked_run]
  · have notices : (abortMarked r s).notices = s.notices := abandonExposure_notices _
    have link : (abortMarked r s).link = s.link := abandonExposure_link _
    have content : (abortMarked r s).progressOf (verticalResult (abortMarked r s)
        (some (s.run.vertical.marked.getD (skipOfAbort r)))) (abortMarked r s).run.state
        = s.progressOf (verticalResult (abortMarked r s) (some (s.run.vertical.marked.getD (skipOfAbort r)))) .aborted := by
      have now : (abortMarked r s).now = s.now := abandonExposure_now _
      have station : (abortMarked r s).time.stationTime = s.time.stationTime := abandonExposure_station _
      have plan : (abortMarked r s).gauging.plan = s.gauging.plan := abandonExposure_plan _
      simp only [State.progressOf, abortMarked_run, now, station, plan]
    show (storeVertical _ (abortMarked r s)).notices.slots[sourcePlace .runProgress] = _
    rw [storeVertical_eq_raise, raise_slot _ _ (by decide) (by rw [State.setRun_link, link]; exact occupied), content,
      State.setRun_notices, notices]

theorem abortCore_occupied (r : AbortReason) {s : State} (occupied : s.link.notice ≠ none) :
    (abortCore r s).link.notice ≠ none := by
  rw [abortCore_link r s occupied]
  exact occupied

/-! ## The return of an aborted run (R118, R136, R138) -/

/-- R138: the run whose RETRACT has been ordered. -/
def retractOrdered (r : AbortReason) (s : State) : State :=
  (abortCore r s).setRun { (abortCore r s).run with outcome := some .inProgress }

theorem abortRun_eq (r : AbortReason) (s : State) : abortRun r s = handOrder (retractOrdered r s, some .retract) := rfl

/-- R118: the carriage that RETRACT has stopped. -/
def retracting (s : State) : State := setMotion .retracting (stillCarriage s)

theorem handCompletion_none (s : State) : handCompletion (s, none) = s := rfl

/-- R138: RETRACTED ends the return of an aborted run. -/
theorem handCompletion_retracted {s : State} (aborted : s.run.state = .aborted) (returns : s.run.outcome = some .inProgress) :
    handCompletion (s, some .retracted) = endAbortedReturn .parked s := by
  have takes : sequencerTakes .retracted s = (endAbortedReturn .parked s, none) := by
    unfold sequencerTakes
    rw [aborted]
    exact if_pos returns
  show settleOrders (239 + 1) (some .retracted) s = _
  unfold settleOrders
  rw [takes]

/-- R118: RETRACT from PARKED ends the return at once. -/
theorem retract_parked {s : State} (aborted : s.run.state = .aborted) (returns : s.run.outcome = some .inProgress)
    (parked : s.cable.motion = .parked) : handOrder (s, some .retract) = endAbortedReturn .parked s := by
  have takes : cablewayTakes .retract s = (s, some .retracted) := by
    unfold cablewayTakes
    rw [parked]
  show handCompletion (cablewayTakes .retract s) = _
  rw [takes, handCompletion_retracted aborted returns]

/-- R118: a carriage that RETRACT leaves as it is. -/
theorem retract_idle {s : State} (idle : s.cable.motion = .unreferenced ∨ s.cable.motion = .homing
    ∨ s.cable.motion = .faulted ∨ s.cable.motion = .retracting) : handOrder (s, some .retract) = s := by
  have takes : cablewayTakes .retract s = (s, none) := by
    unfold cablewayTakes
    rcases idle with motion | motion | motion | motion <;> rw [motion]
  show handCompletion (cablewayTakes .retract s) = _
  rw [takes, handCompletion_none]

/-- R118: RETRACT in any other motion. -/
theorem retract_begins {s : State} (notParked : s.cable.motion ≠ .parked) (known : s.cable.motion ≠ .unreferenced)
    (notHoming : s.cable.motion ≠ .homing) (sound : s.cable.motion ≠ .faulted) (other : s.cable.motion ≠ .retracting) :
    handOrder (s, some .retract) = handCompletion (pursue (retracting s)) := by
  have takes : cablewayTakes .retract s = pursue (retracting s) := by
    unfold cablewayTakes
    cases motion : s.cable.motion
    case parked => exact absurd motion notParked
    case unreferenced => exact absurd motion known
    case homing => exact absurd motion notHoming
    case faulted => exact absurd motion sound
    case retracting => exact absurd motion other
    case atVertical | travelling | seekingSurface | seekingBottom | toPoint | atPoint | raising => rfl
  show handCompletion (cablewayTakes .retract s) = _
  rw [takes]

/-- R118: with the weight down RETRACT raises the reel first. -/
theorem pursue_retracting_down {s : State} (down : s.cable.switches.reelTop = false) :
    pursue (retracting s) = (setDrive (some .reelUp) (retracting s), none) := by
  have switch : (retracting s).cable.switches.reelTop = false := by
    rw [← down]
    exact congrArg Switches.reelTop (RunOnly.setDrive s none).switches
  have motion : (retracting s).cable.motion = .retracting := rfl
  simp only [pursue, motion, switch, Bool.not_false, if_true]

theorem setDrive_run (d : Option Drive) (s : State) : (setDrive d s).run = s.run := by
  unfold setDrive
  split <;> rfl

theorem retracting_run (s : State) : (retracting s).run = s.run := setDrive_run none s

theorem reachHome_run (s : State) : (reachHome s).run = s.run := setDrive_run none s

/-- R118: RETRACT never faults. -/
theorem pursue_retracting_cases (s : State) : pursue (retracting s) = (setDrive (some .reelUp) (retracting s), none)
    ∨ pursue (retracting s) = (reachHome (retracting s), some .retracted)
    ∨ pursue (retracting s) = (setDrive (some .traverseIn) (retracting s), none) := by
  have motion : (retracting s).cable.motion = .retracting := rfl
  unfold pursue
  rw [motion]
  dsimp only
  split
  · exact .inl rfl
  · split
    · exact .inr (.inl rfl)
    · exact .inr (.inr rfl)

theorem endAbortedReturn_run (o : ReturnOutcome) (s : State) :
    (endAbortedReturn o s).run = { s.run with outcome := some o } := by
  simp [endAbortedReturn, raiseRunEnd]

/-- R136, R138: a RETRACT ordered at the abort leaves of the run its outcome alone. -/
theorem retract_run {s : State} (aborted : s.run.state = .aborted) (returns : s.run.outcome = some .inProgress) :
    (handOrder (s, some .retract)).run = s.run
    ∨ (handOrder (s, some .retract)).run = { s.run with outcome := some .parked } := by
  by_cases parked : s.cable.motion = .parked
  · rw [retract_parked aborted returns parked]
    exact .inr (endAbortedReturn_run _ s)
  · by_cases idle : s.cable.motion = .unreferenced ∨ s.cable.motion = .homing ∨ s.cable.motion = .faulted
        ∨ s.cable.motion = .retracting
    · rw [retract_idle idle]
      exact .inl rfl
    · simp only [not_or] at idle
      obtain ⟨known, notHoming, sound, other⟩ := idle
      rw [retract_begins parked known notHoming sound other]
      rcases pursue_retracting_cases s with up | home | back
      · rw [up, handCompletion_none, setDrive_run, retracting_run]
        exact .inl rfl
      · have run : (reachHome (retracting s)).run = s.run := (reachHome_run _).trans (retracting_run s)
        rw [home, handCompletion_retracted (by rw [run]; exact aborted) (by rw [run]; exact returns), endAbortedReturn_run,
          run]
        exact .inr rfl
      · rw [back, handCompletion_none, setDrive_run, retracting_run]
        exact .inl rfl

/-- R138: what an abort leaves of the run: the core's record, the outcome of its return apart. -/
theorem abortRun_run (r : AbortReason) (s : State) :
    (abortRun r s).run = { (abortCore r s).run with outcome := (abortRun r s).run.outcome }
    ∧ ((abortRun r s).run.outcome = some .inProgress ∨ (abortRun r s).run.outcome = some .parked) := by
  have ordered : (retractOrdered r s).run = { (abortCore r s).run with outcome := some .inProgress } := rfl
  have aborted : (retractOrdered r s).run.state = .aborted := by
    rw [ordered, abortCore_run]
  rw [abortRun_eq]
  rcases retract_run aborted rfl with same | ended
  · rw [same, ordered]
    exact ⟨rfl, .inl rfl⟩
  · rw [ended, ordered]
    exact ⟨rfl, .inr rfl⟩

/-- R138: an aborted run. -/
theorem abortRun_aborted (r : AbortReason) (s : State) : (abortRun r s).run.state = .aborted
    ∧ (abortRun r s).run.reason = some r ∧ (abortRun r s).run.phase = none ∧ (abortRun r s).run.exposure = none := by
  rw [(abortRun_run r s).1, abortCore_run]
  exact ⟨rfl, rfl, rfl, rfl⟩

/-- R139: a run withdrawn at a level. -/
theorem judgeWithdraw_active {s : State} (active : s.run.state = .active)
    (reaches : s.warning.settings.withdrawLevel ≤ s.warning.level) : judgeWithdraw s = abortRun .withdraw s := by
  unfold judgeWithdraw
  rw [runActive, active]
  exact if_pos (by simpa using reaches)

theorem judgeWithdraw_stands {s : State} (stands : s.run.state ≠ .active
    ∨ s.warning.level < s.warning.settings.withdrawLevel) : judgeWithdraw s = s := by
  unfold judgeWithdraw
  refine if_neg ?_
  rw [Bool.and_eq_true, decide_eq_true_iff, runActive, beq_iff_eq]
  rintro ⟨active, reaches⟩
  rcases stands with other | below
  · exact other active
  · omega

theorem judgeAutonomy_active {s : State} (active : s.run.state = .active) : judgeAutonomy s = abortRun .linkSilent s :=
  if_pos ((runActive_iff s).2 active)

theorem judgeAutonomy_idle {s : State} (idle : s.run.state ≠ .active) : judgeAutonomy s = s :=
  if_neg fun active => idle ((runActive_iff s).1 active)

end Sys2Proof.Machine

namespace Sys2Proof.Machine

/-! ## What a WARN request leaves (R39) -/

theorem requestWarn_heads (s : State) : (requestWarn s).field.heads = s.field.heads
    ∧ (requestWarn s).field.settings = s.field.settings := by
  obtain ⟨settings, -, heads, -⟩ := arbitrate_tables (s.setField { s.field with warn := .standing })
  exact ⟨heads, settings⟩

theorem State.FieldAlone.requestWarn (s : State) : s.FieldAlone (requestWarn s) :=
  (State.FieldAlone.setField s _).trans (State.FieldAlone.arbitrate _)

theorem sirenSounds_iff (s : State) : sirenSounds s = true ↔ ∃ e, s.warning.siren = .sounding e := by
  unfold sirenSounds
  cases s.warning.siren <;> simp

theorem takenAt_sameBut (f : HostFrame) (s : State) : sameBut s.warning (takenAt f s).warning := (keeps_takenAt f s).warning

/-- What stands in the warning unit at the taking of a request, the monitor apart. -/
theorem takenAt_warning_eq (f : HostFrame) (s : State) :
    (takenAt f s).warning = { s.warning with monitor := (takenAt f s).warning.monitor } :=
  (takenAt_sameBut f s).symm

theorem sameBut.withSiren {a b : WarningUnit} (h : sameBut a b) (x : Siren) :
    sameBut { a with siren := x } { b with siren := x } := by
  have := congrArg (fun w : WarningUnit => ({ w with siren := x } : WarningUnit)) h
  exact this

theorem sameBut.symm {a b : WarningUnit} (h : sameBut a b) : sameBut b a := by
  unfold sameBut at h ⊢
  rw [← h]

/-! ## WARNING_ACK and the siren's timers (R94 to R96) -/

theorem exec_sirenRunExpiry (s : State) : exec .sirenRunExpiry s = .next (sirenExpires s) := rfl
theorem exec_repeatExpiry (s : State) : exec .repeatExpiry s = .next (repeatExpires s) := rfl
theorem exec_monitorExpiry (s : State) : exec .monitorExpiry s = .next (monitorExpires s) := rfl

/-- R94: a siren stop. -/
theorem stopSiren_eq (into : Siren) (s : State) : stopSiren into s
    = (s.setWarning { s.warning with siren := into }).setField (requestWarn (setSiren into s)).field :=
  requestWarn_eq (setSiren into s)

/-- R94, R100: a siren start. -/
theorem startSiren_eq (s : State) : startSiren s
    = (s.setWarning (startSiren s).warning).setField (startSiren s).field := by
  have eq := requestWarn_eq (s.setWarning { s.warning with
    siren := .sounding (sirenRunEnd s)
    spell := if s.warning.autonomous then s.warning.spell.map fun p => { p with sirenStarts := countUp 255 p.sirenStarts }
      else s.warning.spell })
  unfold startSiren
  rw [eq]
  rfl

/-- R96: WARNING_ACK of a SOUNDING siren. -/
theorem takeWarningAck_sounding {s : State} {e : Nat} (sounds : s.warning.siren = .sounding e) : takeWarningAck s
    = (stopSiren .off s, .reply [.code 1, .code (sirenCode (stopSiren .off s).warning.siren), .num 1 s.warning.level]) := by
  unfold takeWarningAck
  rw [sounds]
  rfl

theorem takeWarningAck_silent {s : State} (silent : ∀ e, s.warning.siren ≠ .sounding e) : takeWarningAck s
    = (s, .reply [.code (sirenCode s.warning.siren), .code (sirenCode s.warning.siren), .num 1 s.warning.level]) := by
  unfold takeWarningAck
  cases siren : s.warning.siren
  case sounding e => exact absurd siren (silent e)
  case off | repeatWait => simp only [siren]

/-- R96: what WARNING_ACK leaves of a SOUNDING siren and of the field line. -/
theorem warningAck_sounding {s : State} {tag : Byte} {e : Nat} (calm : s.Calm) (sounds : s.warning.siren = .sounding e) :
    ∃ t, exec (.warningAck tag) s = .next t
      ∧ ((s.setWarning { s.warning with siren := .off }).setField t.field).Keeps t
      ∧ t.field.heads = s.field.heads ∧ t.field.settings = s.field.settings
      ∧ (s.field.tx ≠ .free → t.field = { s.field with warn := .standing })
      ∧ (s.field.tx = .free → t.field.warn = .none ∧ t.field.tx = .waitingIdle
          ∧ t.field.transaction = some
              { kind := .warn s.warning.level, attempts := 0, backoffBits := s.field.settings.backoffBits
                singleAttempt := s.field.settings.singleAttempt
                frame := { destination := s.field.settings.postGroup, source := s.field.settings.ownAddress
                           kind := 0x20, payload := [BitVec.ofNat 8 s.warning.level, 0, 0] } })
      ∧ t.Answered 0x24 tag [.code 1, .code 0, .num 1 s.warning.level] := by
  have arrival := keeps_takenAt (requestFrame tag .warningAck) s
  have same := takenAt_sameBut (requestFrame tag .warningAck) s
  generalize u_eq : takenAt (requestFrame tag .warningAck) s = u at arrival same
  have inHand : u.link.inHand = some { kind := requestKind .warningAck, tag := tag } := by
    rw [← u_eq]
    simp [requestFrame]
  have field : u.field = s.field := arrival.field
  have stop := stopSiren_eq .off u
  have stopped : (stopSiren .off u).field = (requestWarn (setSiren .off u)).field := by rw [stop]; rfl
  have takes : answer .warningAck (takenAt (requestFrame tag .warningAck) s)
      = (stopSiren .off u, .reply [.code 1, .code 0, .num 1 s.warning.level]) := by
    rw [u_eq, ← same.level]
    refine (takeWarningAck_sounding (same.siren.trans sounds)).trans ?_
    rw [stop]
    rfl
  have keeps : ((s.setWarning { s.warning with siren := .off }).setField (requestWarn (setSiren .off u)).field).Keeps
      (stopSiren .off u) := by
    rw [stop]
    obtain ⟨time, -, channels, stage, warning, rest⟩ := arrival
    exact ⟨time, rfl, channels, stage, warning.withSiren .off, rest⟩
  obtain ⟨t, next, kept, answered⟩ := taken_request tag .warningAck s _ _ calm _ takes
    (by rw [stop]; exact inHand) keeps
  have line : t.field = (requestWarn (setSiren .off u)).field := kept.field
  obtain ⟨heads, settings⟩ := requestWarn_heads (setSiren .off u)
  refine ⟨t, next, line ▸ kept, ?_, ?_, fun busy => ?_, fun free => ?_, answered⟩
  · rw [line, heads]
    exact congrArg FieldLine.heads field
  · rw [line, settings]
    exact congrArg FieldLine.settings field
  · rw [line, requestWarn_busy (by show u.field.tx ≠ _; rw [field]; exact busy)]
    show { u.field with warn := .standing } = _
    rw [field]
  · have chosen := requestWarn_free (s := setSiren .off u) (by show u.field.tx = _; rw [field]; exact free)
    have auto : u.warning.autonomous = false := by
      rw [same.autonomous]
      exact calm.2.2.2
    rw [line, chosen]
    refine ⟨rfl, rfl, ?_⟩
    have frame : warnFrame (setSiren .off u)
        = { destination := s.field.settings.postGroup, source := s.field.settings.ownAddress, kind := 0x20
            payload := [BitVec.ofNat 8 s.warning.level, 0, 0] } := by
      rw [← field, ← same.level]
      show ({ destination := _, source := _, kind := _, payload := [_, _, if u.warning.autonomous then 1 else 0] }
        : FieldFrame) = _
      rw [auto]
      rfl
    dsimp only
    rw [frame, ← field, ← same.level]
    rfl

theorem sirenExpires_early {s : State} (early : ∀ e, s.warning.siren = .sounding e → s.now < e) : sirenExpires s = s := by
  refine if_neg ?_
  unfold sirenDue
  split
  case h_1 e sounds => simpa using early e sounds
  case h_2 => exact Bool.false_ne_true

theorem repeatExpires_early {s : State} (early : ∀ e, s.warning.siren = .repeatWait e → s.now < e) : repeatExpires s = s := by
  refine if_neg ?_
  unfold repeatDue
  split
  case h_1 e waits => simpa using early e waits
  case h_2 => exact Bool.false_ne_true

/-- R95: the siren run timer. -/
theorem sirenExpires_due {s : State} {e : Nat} (sounds : s.warning.siren = .sounding e) (due : e ≤ s.now) :
    sirenExpires s = stopSiren (if s.warning.autonomous && repeatApplies s.warning then repeatWait s else .off) s := by
  have isDue : sirenDue s = true := by
    rw [sirenDue, sounds]
    exact decide_eq_true due
  exact if_pos isDue

/-- R95: the repeat timer. -/
theorem repeatExpires_due {s : State} {e : Nat} (waits : s.warning.siren = .repeatWait e) (due : e ≤ s.now) :
    repeatExpires s = startSiren s := by
  have isDue : repeatDue s = true := by
    rw [repeatDue, waits]
    exact decide_eq_true due
  exact if_pos isDue

theorem repeatApplies_iff (w : WarningUnit) :
    repeatApplies w = true ↔ w.settings.repeatInterval ≠ 0 ∧ w.settings.sirenLevel ≤ w.level := by
  simp [repeatApplies]

theorem startSiren_warning (s : State) : (startSiren s).warning = { s.warning with
    siren := .sounding (s.now + s.warning.settings.sirenRun * 1000)
    spell := if s.warning.autonomous then s.warning.spell.map fun p => { p with sirenStarts := countUp 255 p.sirenStarts }
      else s.warning.spell } := requestWarn_warning _

/-- Settles O24: WARNING_ACK and the siren's two timers. -/
theorem siren : Obligations.Siren := by
  unfold Obligations.Siren
  refine ⟨fun s tag calm => ⟨fun e sounds => warningAck_sounding calm sounds, fun silent => ?_⟩,
    ⟨fun s e sounds => ⟨fun due => ?_, fun early => ?_⟩, fun s e waits => ⟨fun due => ?_, fun early => ?_⟩,
      fun s silent => ?_, fun s idle => ?_⟩⟩
  · have same := takenAt_sameBut (requestFrame tag .warningAck) s
    have takes : answer .warningAck (takenAt (requestFrame tag .warningAck) s) = (takenAt (requestFrame tag .warningAck) s,
        .reply [.code (sirenCode s.warning.siren), .code (sirenCode s.warning.siren), .num 1 s.warning.level]) := by
      rw [← same.siren, ← same.level]
      exact takeWarningAck_silent (by rw [same.siren]; exact silent)
    exact taken_request tag .warningAck s s _ calm _ takes (by simp [requestFrame]) (keeps_takenAt _ s)
  · rw [exec_sirenRunExpiry, sirenExpires_due sounds due, stopSiren_eq]
    refine ⟨_, rfl, rfl, ?_, (requestWarn_heads _).1, fun busy => requestWarn_busy busy⟩
    show (if (s.warning.autonomous && repeatApplies s.warning) = true then repeatWait s else .off) = _
    exact if_congr (by rw [Bool.and_eq_true, repeatApplies_iff]) rfl rfl
  · rw [exec_sirenRunExpiry, sirenExpires_early fun d same => by
      obtain rfl := Siren.sounding.inj (sounds.symm.trans same)
      exact early]
  · have warning := startSiren_warning s
    rw [exec_repeatExpiry, repeatExpires_due waits due]
    refine ⟨_, rfl, ?_, ?_, ?_, (requestWarn_heads _).1, fun busy => requestWarn_busy busy⟩
    · rw [startSiren_eq, warning]
      rfl
    · rw [warning]
    · rw [warning]
      rfl
  · rw [exec_repeatExpiry, repeatExpires_early fun d same => by
      obtain rfl := Siren.repeatWait.inj (waits.symm.trans same)
      exact early]
  · rw [exec_sirenRunExpiry, sirenExpires_early fun d same => absurd same (silent d)]
  · rw [exec_repeatExpiry, repeatExpires_early fun d same => absurd same (idle d)]

/-! ## WARNING_SET (R97) -/

/-- R97: the siren judged against new settings. -/
def sirenUnder (x : WarningSettings) (s : State) : State :=
  if sirenSounds s && decide (s.warning.level < x.sirenLevel) then
    stopSiren .off (s.setWarning { s.warning with settings := x })
  else s.setWarning { s.warning with settings := x }

theorem applyWarning_eq (x : WarningSettings) (s : State) : applyWarning x s = judgeWithdraw (sirenUnder x s) := rfl

/-- R97: the warning unit under new settings. -/
theorem sirenUnder_eq (x : WarningSettings) (s : State) : sirenUnder x s = (s.setWarning { s.warning with
    settings := x
    siren := match s.warning.siren with
      | .sounding e => if s.warning.level < x.sirenLevel then .off else .sounding e
      | y => y }).setField (sirenUnder x s).field := by
  unfold sirenUnder sirenSounds
  cases siren : s.warning.siren
  case sounding e =>
    by_cases below : s.warning.level < x.sirenLevel
    · simp only [below, decide_true, Bool.and_self, if_true]
      rw [stopSiren_eq]
      rfl
    · simp only [below, decide_false, Bool.and_false, if_false, Bool.false_eq_true]
      rw [← siren]
      rfl
  case off | repeatWait =>
    simp only [Bool.false_and, if_false, Bool.false_eq_true]
    rw [← siren]
    rfl

theorem heldWarning_eq (a : WarningSetArgs) : heldWarning a
    = { sirenLevel := a.sirenLevel, sirenRun := max 10 (min 600 a.sirenRun), repeatInterval := min 3600 a.repeatInterval
        withdrawLevel := a.withdrawLevel } := by
  simp [heldWarning, clampNat]

/-- Settles O25: the settings held, the siren judged, a run withdrawn, and the refusals. -/
theorem warningSet : Obligations.WarningSet := by
  unfold Obligations.WarningSet
  intro s tag a calm
  refine ⟨fun least most least' most' => ⟨fun idle => ?_, fun saves => ?_⟩, fun outside => ?_⟩
  · have inRange : ¬ (a.sirenLevel = 0 ∨ 3 < a.sirenLevel ∨ a.withdrawLevel = 0 ∨ 3 < a.withdrawLevel) := by omega
    have arrival := keeps_takenAt (requestFrame tag (.warningSet a)) s
    have inHand : (takenAt (requestFrame tag (.warningSet a)) s).link.inHand
        = some { kind := requestKind (.warningSet a), tag := tag } := by simp [requestFrame]
    have notSaving : ¬ (takenAt (requestFrame tag (.warningSet a)) s).saveRuns = true := by simp [saveRuns_of_none idle]
    generalize u_eq : takenAt (requestFrame tag (.warningSet a)) s = u at arrival inHand notSaving
    have takes : answer (.warningSet a) (takenAt (requestFrame tag (.warningSet a)) s)
        = (judgeWithdraw (sirenUnder (heldWarning a) u), .reply (warningSettingFields (heldWarning a))) := by
      rw [u_eq]
      show takeWarningSet a u = _
      unfold takeWarningSet
      rw [if_neg inRange, if_neg notSaving, applyWarning_eq]
    have under := sirenUnder_eq (heldWarning a) u
    have only := RunOnly.judgeWithdraw (sirenUnder (heldWarning a) u)
    have link : (sirenUnder (heldWarning a) u).link = u.link := by rw [under]; rfl
    have gauging : (sirenUnder (heldWarning a) u).gauging = s.gauging := by
      rw [under]
      exact arrival.gauging
    have level : (sirenUnder (heldWarning a) u).warning.level = s.warning.level := by
      rw [under]
      exact arrival.warning.level
    have settings : (sirenUnder (heldWarning a) u).warning.settings = heldWarning a := by
      rw [under]
      rfl
    obtain ⟨t, next, kept, answered⟩ := taken_request tag (.warningSet a) s _ _ calm _ takes
      (by rw [only.link]; exact (congrArg HostLink.inHand link).trans inHand) (Keeps.refl _)
    have warning : sameBut (sirenUnder (heldWarning a) u).warning t.warning := by
      rw [← only.warning]
      exact kept.warning
    refine ⟨t, next, ?_, ?_, ?_, ?_, ?_, ?_, ?_, fun stands => ?_, fun active reaches => ?_, ?_⟩
    · rw [warning.settings, settings]
      exact heldWarning_eq a
    · rw [warning.siren, under]
      show (match u.warning.siren with
        | .sounding e => if u.warning.level < a.sirenLevel then Siren.off else .sounding e
        | y => y) = _
      rw [arrival.warning.siren, arrival.warning.level] <;> (cases s.warning.siren <;> rfl)
    · rw [warning.level, level]
    · rw [warning.rules, under]
      exact arrival.warning.rules
    · rw [kept.supervisor, only.supervisor, under]
      exact arrival.supervisor
    · rw [kept.channels, only.channels, under]
      exact arrival.channels
    · rw [kept.stage, only.stage, under]
      exact arrival.stage
    · have still : judgeWithdraw (sirenUnder (heldWarning a) u) = sirenUnder (heldWarning a) u := by
        refine judgeWithdraw_stands ?_
        rw [State.run, gauging, level, settings]
        exact stands
      rw [still] at kept
      have base : ((s.setWarning t.warning).setField t.field).Keeps (sirenUnder (heldWarning a) u) := by
        obtain ⟨time, -, channels, stage, -, rest⟩ := arrival
        have line := kept.field
        have settled := kept.warning.symm
        rw [under] at line settled ⊢
        exact ⟨time, line.symm, channels, stage, settled, rest⟩
      exact Keeps.trans base kept
    · have withdrawn : judgeWithdraw (sirenUnder (heldWarning a) u)
          = abortRun .withdraw (sirenUnder (heldWarning a) u) := by
        refine judgeWithdraw_active ?_ ?_
        · rw [State.run, gauging]
          exact active
        · rw [level, settings]
          exact reaches
      obtain ⟨state, reason, -, -⟩ := abortRun_aborted .withdraw (sirenUnder (heldWarning a) u)
      rw [State.run, kept.gauging, withdrawn]
      exact ⟨state, reason⟩
    · rw [warning.settings, settings]
      exact answered
  · have inRange : ¬ (a.sirenLevel = 0 ∨ 3 < a.sirenLevel ∨ a.withdrawLevel = 0 ∨ 3 < a.withdrawLevel) := by omega
    refine refused_request tag (.warningSet a) s calm .busy ?_
    show takeWarningSet a _ = _
    unfold takeWarningSet
    rw [if_neg inRange, if_pos (by simpa using saveRuns_of_ne_none saves)]
  · exact refused_request tag (.warningSet a) s calm .range (if_pos outside)

/-! ## The monitor (R98 to R100) -/

theorem monitorExpires_early {s : State} (early : ∀ e, s.warning.monitor = .running e → s.now < e) :
    monitorExpires s = s := by
  refine if_neg ?_
  unfold monitorDue
  split
  case h_1 e runs => simpa using early e runs
  case h_2 => exact Bool.false_ne_true

theorem monitorExpires_due {s : State} {e : Nat} (runs : s.warning.monitor = .running e) (due : e ≤ s.now) :
    monitorExpires s = enterAutonomous s := by
  have isDue : monitorDue s = true := by
    rw [monitorDue, runs]
    exact decide_eq_true due
  exact if_pos isDue

/-- R100: the warning unit as the part enters AUTONOMOUS. -/
theorem takeUpSiren_beginSpell (s : State) : takeUpSiren (beginSpell s) = s.setWarning { s.warning with
    monitor := .stopped, autonomous := true
    spell := some
      { enteredRunTime := s.now, enteredStation := s.time.stationTime, leftRunTime := none, leftStation := none
        highest := s.warning.level, atDeparture := none, sirenStarts := 0 }
    siren := if s.warning.siren = .off ∧ s.warning.settings.repeatInterval ≠ 0
        ∧ s.warning.settings.sirenLevel ≤ s.warning.level
      then .repeatWait (s.now + s.warning.settings.repeatInterval * 1000) else s.warning.siren } := by
  have siren : (beginSpell s).warning.siren = s.warning.siren := rfl
  unfold takeUpSiren
  rw [siren]
  cases off : s.warning.siren
  case off =>
    dsimp only
    by_cases applies : repeatApplies s.warning = true
    · rw [if_pos (show repeatApplies (beginSpell s).warning = true from applies),
        if_pos ⟨rfl, (repeatApplies_iff _).1 applies⟩]
      rfl
    · rw [if_neg (show ¬ repeatApplies (beginSpell s).warning = true from applies),
        if_neg fun both => applies ((repeatApplies_iff _).2 both.2), ← off]
      rfl
  case sounding | repeatWait =>
    dsimp only
    rw [if_neg (fun both => nomatch both.1), ← off]
    rfl

/-- Settles O26: MONITOR_SET, and the entry into AUTONOMOUS. -/
theorem hostSilence : Obligations.HostSilence := by
  unfold Obligations.HostSilence
  refine ⟨fun s tag enable n calm two => ⟨fun idle => ?_, fun saves => ?_⟩,
    fun s e runs => ⟨fun due => ?_, fun early => ?_⟩, fun s idle => ?_⟩
  · have same := takenAt_warning_eq (requestFrame tag (.monitorSet enable n)) s
    have takes : answer (.monitorSet enable n) (takenAt (requestFrame tag (.monitorSet enable n)) s)
        = ((takenAt (requestFrame tag (.monitorSet enable n)) s).setWarning { s.warning with
            monitorSettings := { enable := enable == 1, exponent := min n 7 }
            monitor := if enable = 1 then .running (s.now + 15000 * 2 ^ min n 7) else .off },
          .reply ([.flag (enable == 1), .num 1 ((min n 7 : Nat) : Int), .num 2 (15 * 2 ^ min n 7)]
            ++ optTime (if enable = 1 then some (s.now + 15000 * 2 ^ min n 7) else none))) := by
      show takeMonitorSet enable n _ = _
      unfold takeMonitorSet
      rw [onOff_of_le two]
      dsimp only
      rw [if_neg (by simp [saveRuns_of_none idle]), same, takenAt_now]
      obtain rfl | rfl := Nat.le_one_iff_eq_zero_or_eq_one.1 two
      · rfl
      · rfl
    obtain ⟨t, next, placed, answered⟩ := answered_request tag (.monitorSet enable n) s _ calm _ takes (by simp [requestFrame])
    have warning : t.warning = { s.warning with
        monitorSettings := { enable := enable == 1, exponent := min n 7 }
        monitor := if enable = 1 then .running (s.now + 15000 * 2 ^ min n 7) else .off } := by
      rw [placed, placeReply_warning]
      rfl
    refine ⟨t, next, ?_, warning, ?_⟩
    · rw [warning, placed]
      refine keeps_placeReply _ _ _ ?_
      obtain ⟨time, field, channels, stage, -, rest⟩ := keeps_takenAt (requestFrame tag (.monitorSet enable n)) s
      exact ⟨time, field, channels, stage, sameBut_refl _, rest⟩
    · rw [Nat.cast_min] at answered
      exact answered
  · refine refused_request tag (.monitorSet enable n) s calm .busy ?_
    show takeMonitorSet enable n _ = _
    unfold takeMonitorSet
    rw [onOff_of_le two]
    exact if_pos (by simpa using saveRuns_of_ne_none saves)
  · have begun := takeUpSiren_beginSpell s
    have warn := requestWarn_eq (takeUpSiren (beginSpell s))
    have heads := (requestWarn_heads (takeUpSiren (beginSpell s))).1
    have only := RunOnly.judgeAutonomy (requestWarn (takeUpSiren (beginSpell s)))
    have warning : (enterAutonomous s).warning = (takeUpSiren (beginSpell s)).warning :=
      only.warning.trans (requestWarn_warning _)
    have gauging : (requestWarn (takeUpSiren (beginSpell s))).gauging = s.gauging := by
      rw [requestWarn_gauging, begun]
      rfl
    rw [exec_monitorExpiry, monitorExpires_due runs due]
    refine ⟨_, rfl, ?_, ?_, ?_, ?_, ?_, ?_, ?_, ?_, ?_, ?_, fun idle => ?_, fun active => ?_⟩
    · rw [warning, begun]; rfl
    · rw [warning, begun]; rfl
    · rw [warning, begun]; rfl
    · rw [warning, begun]; rfl
    · rw [warning, begun]; rfl
    · rw [warning, begun]; rfl
    · rw [enterAutonomous, only.stage, requestWarn_stage, begun]; rfl
    · rw [enterAutonomous, only.channels, requestWarn_channels, begun]; rfl
    · rw [enterAutonomous, only.supervisor, requestWarn_supervisor, begun]; rfl
    · rw [enterAutonomous, only.field, heads, begun]; rfl
    · rw [enterAutonomous, judgeAutonomy_idle (by rw [State.run, gauging]; exact idle), gauging, requestWarn_cable,
        requestWarn_time, begun]
      exact ⟨rfl, rfl, rfl⟩
    · have aborted := abortRun_aborted .linkSilent (requestWarn (takeUpSiren (beginSpell s)))
      rw [enterAutonomous, judgeAutonomy_active (by rw [State.run, gauging]; exact active)]
      exact ⟨aborted.1, aborted.2.1⟩
  · rw [exec_monitorExpiry, monitorExpires_early fun d same => by
      obtain rfl := Monitor.running.inj (runs.symm.trans same)
      exact early]
  · rw [exec_monitorExpiry, monitorExpires_early fun d same => absurd same (idle d)]

end Sys2Proof.Machine

namespace Sys2Proof.Machine

/-! ## The carriage as an order leaves it (R109 to R118)

Each step of the cableway controller sets the carriage alone. What it sets is a function of the carriage and of run time. -/

namespace Cableway

/-- R109, R110: the carriage with exactly this output driven, or none. -/
def driven (now : Nat) (d : Option Drive) (c : Cableway) : Cableway :=
  { c with drive := d, stall := if c.drive = d then c.stall else d.map fun _ => now + c.settings.stallTime * 1000 }

/-- R118: the carriage as RAISE takes it with the weight down. -/
def raisingUp (now : Nat) (c : Cableway) : Cableway :=
  { c with
    motion := .raising, drive := some .reelUp, stall := some (now + c.settings.stallTime * 1000), hold := none
    settle := none }

/-- R117: the carriage as AT_POINT begins. -/
def atPoint (now : Nat) (bed : Bool) (c : Cableway) : Cableway :=
  { driven now none c with
    motion := .atPoint, settle := some (now + c.settings.settleTime * 1000), pointDepth := depthMm c, bedStop := bed }

/-- R115: the carriage as HOLD begins. -/
def holding (now : Nat) (c : Cableway) : Cableway :=
  { driven now none c with motion := .seekingBottom .hold, hold := some (now + Config.bottomHold) }

/-- R113: the carriage arrived. -/
def arrived (now : Nat) (c : Cableway) : Cableway :=
  { driven now none c with motion := .atVertical, arrival := some (millimetres c.traverseCount) }

/-- R111, R118: the carriage at home. -/
def home (now : Nat) (c : Cableway) : Cableway :=
  { driven now none c with traverseCount := 0, positionKnown := true, motion := .parked }

theorem driven_of_ne {now : Nat} {d : Option Drive} {c : Cableway} (other : c.drive ≠ d) : driven now d c
    = { c with drive := d, stall := d.map fun _ => now + c.settings.stallTime * 1000 } := by
  rw [driven, if_neg other]

theorem driven_of_eq {now : Nat} {d : Option Drive} {c : Cableway} (same : c.drive = d) : driven now d c = c := by
  rw [driven, if_pos same, ← same]

theorem driven_none {now : Nat} {d : Drive} {c : Cableway} (drives : c.drive = some d) :
    driven now none c = { c with drive := none, stall := none } :=
  driven_of_ne (by rw [drives]; exact nofun)

theorem driven_some_of_none {now : Nat} {d : Drive} {c : Cableway} (still : c.drive = none) :
    driven now (some d) c = { c with drive := some d, stall := some (now + c.settings.stallTime * 1000) } :=
  driven_of_ne (by rw [still]; exact nofun)

end Cableway

theorem setDrive_eq (d : Option Drive) (s : State) : setDrive d s = s.setCable (s.cable.driven s.now d) := by
  by_cases same : s.cable.drive = d
  · rw [setDrive_of_eq same, Cableway.driven_of_eq same]
    rfl
  · rw [setDrive_of_ne same, Cableway.driven_of_ne same]
    rfl

theorem stillCarriage_eq (s : State) :
    stillCarriage s = s.setCable { s.cable.driven s.now none with hold := none, settle := none } := by
  unfold stillCarriage
  rw [setDrive_eq]
  rfl

theorem enterAtPoint_eq (bed : Bool) (s : State) : enterAtPoint bed s = s.setCable (s.cable.atPoint s.now bed) := by
  unfold enterAtPoint
  rw [setDrive_eq]
  rfl

theorem enterHold_eq (s : State) : enterHold s = s.setCable (s.cable.holding s.now) := by
  unfold enterHold
  rw [setDrive_eq]
  rfl

theorem arrive_eq (s : State) :
    arrive s = (s.setCable (s.cable.arrived s.now), some (.arrived (millimetres s.cable.traverseCount))) := by
  unfold arrive
  rw [setDrive_eq]
  rfl

theorem reachHome_eq (s : State) : reachHome s = s.setCable (s.cable.home s.now) := by
  unfold reachHome
  rw [setDrive_eq]
  rfl

/-! ## The exchange of orders and completions (R112) -/

theorem handOrder_none (s : State) : handOrder (s, none) = s := rfl

theorem handOrder_some (s : State) (o : Order) : handOrder (s, some o) = handCompletion (cablewayTakes o s) := rfl

/-- R112: a completion that leads to no order. -/
theorem handCompletion_ends {s s' : State} {c : Completion} (takes : sequencerTakes c s = (s', none)) :
    handCompletion (s, some c) = s' := by
  show settleOrders (239 + 1) (some c) s = _
  unfold settleOrders
  rw [takes]

/-- R112: a completion whose order the controller takes and is at work on. -/
theorem handCompletion_orders {s s' u : State} {c : Completion} {o : Order} (takes : sequencerTakes c s = (s', some o))
    (works : cablewayTakes o s' = (u, none)) : handCompletion (s, some c) = u := by
  show settleOrders (239 + 1) (some c) s = _
  unfold settleOrders
  rw [takes]
  dsimp only
  rw [works]
  rfl

/-- A completion that the sequencer does not await. -/
theorem sequencerTakes_idle {s : State} (c : Completion) (idle : s.run.state ≠ .active)
    (retracts : c = .retracted → s.run.state ≠ .returning ∧ (s.run.state = .aborted → s.run.outcome ≠ some .inProgress)) :
    sequencerTakes c s = (s, none) := by
  unfold sequencerTakes
  split
  case h_1 state _ | h_2 state _ | h_3 state _ | h_4 state _ | h_5 state _ | h_6 state _ => exact absurd state idle
  case h_7 state => exact absurd state (retracts rfl).1
  case h_8 state => exact if_neg ((retracts rfl).2 state)
  case h_9 => rfl

theorem handCompletion_idle {s : State} (c : Completion) (idle : s.run.state ≠ .active)
    (retracts : c = .retracted → s.run.state ≠ .returning ∧ (s.run.state = .aborted → s.run.outcome ≠ some .inProgress)) :
    handCompletion (s, some c) = s :=
  handCompletion_ends (sequencerTakes_idle c idle retracts)

/-! ## RAISE (R118) -/

/-- R118: the motions that take RAISE with the weight down. -/
def lowersOrHolds (m : Motion) : Prop :=
  (∃ x, m = .seekingSurface x) ∨ (∃ x, m = .seekingBottom x) ∨ (∃ x, m = .toPoint x) ∨ m = .atPoint

theorem beginRaise_down {s : State} (down : s.cable.switches.reelTop = false) :
    beginRaise s = (s.setCable (s.cable.raisingUp s.now), none) := by
  have up : (setMotion .raising (stillCarriage s)).cable.switches.reelTop = false := by
    rw [stillCarriage_eq]
    exact down
  have still : (setMotion .raising (stillCarriage s)).cable.drive = none := by
    rw [stillCarriage_eq]
    rfl
  unfold beginRaise
  dsimp only
  rw [if_neg (by rw [up]; exact Bool.false_ne_true), setDrive_eq, Cableway.driven_some_of_none still, stillCarriage_eq]
  rfl

theorem cablewayTakes_raise {s : State} (holds : lowersOrHolds s.cable.motion)
    (down : s.cable.switches.reelTop = false) :
    cablewayTakes .raise s = (s.setCable (s.cable.raisingUp s.now), none) := by
  rw [← beginRaise_down down]
  unfold cablewayTakes
  obtain ⟨x, motion⟩ | ⟨x, motion⟩ | ⟨x, motion⟩ | motion := holds <;> rw [motion]

theorem handOrder_raise {s : State} (holds : lowersOrHolds s.cable.motion) (down : s.cable.switches.reelTop = false) :
    handOrder (s, some .raise) = s.setCable (s.cable.raisingUp s.now) := by
  rw [handOrder_some, cablewayTakes_raise holds down, handCompletion_none]

/-! ## TO_POINT (R117) -/

/-- R117: the carriage as TO_POINT is taken, before anything is driven. -/
def Cableway.placing (target : Int) (c : Cableway) : Cableway :=
  { c with motion := .toPoint target, hold := none, settle := none }

theorem takeToPoint_there {s : State} {target d : Int} (depth : reelDepth s.cable = some d) (there : d = target * 1000) :
    takeToPoint target s = s.setCable ((s.cable.placing target).atPoint s.now false) := by
  unfold takeToPoint
  simp only [depth]
  rw [if_pos there, enterAtPoint_eq]
  rfl

theorem takeToPoint_bed {s : State} {target d : Int} (depth : reelDepth s.cable = some d) (above : d < target * 1000)
    (bed : s.cable.switches.bottom = true) :
    takeToPoint target s = s.setCable ((s.cable.placing target).atPoint s.now true) := by
  unfold takeToPoint
  simp only [depth]
  rw [if_neg (by omega), if_pos above, if_pos bed, enterAtPoint_eq]
  rfl

theorem takeToPoint_up {s : State} {target d : Int} (depth : reelDepth s.cable = some d) (below : target * 1000 < d) :
    takeToPoint target s = s.setCable ((s.cable.placing target).driven s.now (some .reelUp)) := by
  unfold takeToPoint
  simp only [depth]
  rw [if_neg (by omega), if_neg (by omega), setDrive_eq]
  rfl

theorem takeToPoint_down {s : State} {target d : Int} (depth : reelDepth s.cable = some d) (above : d < target * 1000)
    (clear : s.cable.switches.bottom = false) : takeToPoint target s
      = judgeDepthLimit (s.setCable ((s.cable.placing target).driven s.now (some .reelDown))) := by
  unfold takeToPoint
  simp only [depth]
  rw [if_neg (by omega), if_pos above, if_neg (by rw [clear]; exact Bool.false_ne_true), setDrive_eq]
  rfl

/-- R117: the states that take TO_POINT. -/
def takesPoint (c : Cableway) : Prop :=
  ((∃ x, c.motion = .seekingSurface x) ∧ c.drive = none) ∨ (c.motion = .seekingBottom .hold ∧ c.hold = none)
    ∨ c.motion = .atPoint

theorem cablewayTakes_toPoint {s : State} (takes : takesPoint s.cable) (target : Int) :
    cablewayTakes (.toPoint target) s = (takeToPoint target s, none) := by
  unfold cablewayTakes
  obtain ⟨⟨x, motion⟩, still⟩ | ⟨motion, ended⟩ | motion := takes <;> rw [motion]
  · exact if_pos still
  · exact if_pos ended

theorem handOrder_toPoint {s : State} (takes : takesPoint s.cable) (target : Int) :
    handOrder (s, some (.toPoint target)) = takeToPoint target s := by
  rw [handOrder_some, cablewayTakes_toPoint takes, handCompletion_none]

/-- R119: when the depth limit is exceeded. -/
theorem depthExceeded_iff (c : Cableway) : depthExceeded c = true ↔ c.drive = some .reelDown ∧ c.switches.bottom = false
    ∧ ∃ (d : Int) (limit : Nat), reelDepth c = some d ∧ c.settings.maxDepth = some limit ∧ (limit : Int) * 1000 < d := by
  unfold depthExceeded
  split
  case h_1 d limit depth most => simp [depth, most, and_assoc]
  case h_2 absent =>
    refine ⟨fun h => by simp at h, fun ⟨_, _, d, limit, depth, most, _⟩ => absurd most (absent d limit depth)⟩

theorem judgeDepthLimit_within {s : State} (within : ¬ depthExceeded s.cable = true) : judgeDepthLimit s = s := if_neg within

theorem judgeDepthLimit_beyond {s : State} (beyond : depthExceeded s.cable = true) :
    judgeDepthLimit s = takeFault .depthLimit s := if_pos beyond

/-! ## TRAVEL (R113) -/

theorem withinTolerance_iff (c : Cableway) (target : Nat) : withinTolerance c target = true ↔ c.positionKnown = true
    ∧ (c.traverseCount - (target : Int) * 1000).natAbs ≤ c.settings.tolerance * 1000 := by
  rw [withinTolerance, Bool.and_eq_true, decide_eq_true_iff]

theorem driveToTarget_out {s : State} {target : Nat} (beyond : ¬ withinTolerance s.cable target = true)
    (out : s.cable.traverseCount ≤ (target : Int) * 1000) (clear : s.cable.switches.farLimit = false) :
    driveToTarget target s = (s.setCable (s.cable.driven s.now (some .traverseOut)), none) := by
  unfold driveToTarget
  rw [if_neg beyond, if_neg (by omega), if_neg (by rw [clear]; exact Bool.false_ne_true), setDrive_eq]

theorem cablewayTakes_travel {s : State} {target : Nat} (stands : s.cable.motion = .parked ∨ s.cable.motion = .atVertical)
    (beyond : ¬ withinTolerance s.cable target = true) :
    cablewayTakes (.travel target) s = pursue (setMotion (.travelling target) s) := by
  unfold cablewayTakes
  rcases stands with motion | motion <;> rw [motion] <;> exact if_neg beyond

/-- R113: the carriage on its way out to a target, the reel first while REEL_TOP is open. -/
def Cableway.travelling (now : Nat) (target : Nat) (c : Cableway) : Cableway :=
  { c with
    motion := .travelling target, drive := some (if c.switches.reelTop = true then .traverseOut else .reelUp)
    stall := some (now + c.settings.stallTime * 1000) }

theorem pursue_travelOut {s : State} {target : Nat} (motion : s.cable.motion = .travelling target)
    (still : s.cable.drive = none)
    (beyond : s.cable.traverseCount + s.cable.settings.tolerance * 1000 < (target : Int) * 1000)
    (clear : s.cable.switches.farLimit = false) : pursue s = (s.setCable (s.cable.travelling s.now target), none) := by
  have outside : ¬ withinTolerance s.cable target = true := by
    rw [withinTolerance_iff]
    rintro ⟨-, near⟩
    omega
  unfold pursue
  rw [motion]
  dsimp only
  cases top : s.cable.switches.reelTop
  case false =>
    rw [if_pos (by exact rfl), setDrive_eq, Cableway.driven_some_of_none still, Cableway.travelling, top, ← motion]
    rfl
  case true =>
    rw [if_neg (by exact nofun), driveToTarget_out outside (by omega) clear, Cableway.driven_some_of_none still,
      Cableway.travelling, top, ← motion]
    rfl

theorem cablewayTakes_travelOut {s : State} {target : Nat}
    (stands : s.cable.motion = .parked ∨ s.cable.motion = .atVertical) (still : s.cable.drive = none)
    (beyond : s.cable.traverseCount + s.cable.settings.tolerance * 1000 < (target : Int) * 1000)
    (clear : s.cable.switches.farLimit = false) :
    cablewayTakes (.travel target) s = (s.setCable (s.cable.travelling s.now target), none) := by
  have outside : ¬ withinTolerance s.cable target = true := by
    rw [withinTolerance_iff]
    rintro ⟨-, near⟩
    omega
  rw [cablewayTakes_travel stands outside, pursue_travelOut (s := setMotion (.travelling target) s) rfl still beyond clear]
  rfl

/-! ## The run and the carriage moved, everything else kept -/

/-- What the sequencer and the controller do keeps every other block. -/
theorem RunOnly.keepsTimed {s t : State} (h : RunOnly s t) :
    (((s.setGauging t.gauging).setCable t.cable).setTime t.time).Keeps t := by
  refine ⟨rfl, h.field, h.channels, h.stage, ?_, rfl, rfl, h.supervisor, h.noticeSettings, h.hold, ?_, ?_, ?_, ?_, h.freeCount,
    h.pending⟩
  · rw [h.warning]
    exact sameBut_refl _
  · rw [h.link]; rfl
  · rw [h.link]; rfl
  · rw [h.link]; rfl
  · rw [h.link]; rfl

theorem RunOnly.keeps {s t : State} (h : RunOnly s t) (time : t.time = s.time) :
    ((s.setGauging t.gauging).setCable t.cable).Keeps t := by
  obtain ⟨-, rest⟩ := h.keepsTimed
  exact ⟨time, rest⟩

theorem State.Told.congr {s s' t t' : State} {src : NoticeSource} {c : List Field} (h : s.Told t src c)
    (link : s'.link.notice = s.link.notice) (before : s'.notices = s.notices) (after : t'.notices = t.notices) :
    s'.Told t' src c := by
  intro occupied
  rw [after, before]
  exact h (by rw [← link]; exact occupied)

theorem progressOf_congr {s s' : State} (start : s'.run.start = s.run.start)
    (verticals : s'.run.verticals = s.run.verticals) (plan : s'.gauging.plan = s.gauging.plan) (time : s'.time = s.time)
    (v : VerticalResult) (r : RunState) : s'.progressOf v r = s.progressOf v r := by
  have now : s'.now = s.now := congrArg TimeBase.runTime time
  rw [State.progressOf, State.progressOf, start, verticals, plan, now, time]

end Sys2Proof.Machine

namespace Sys2Proof.Machine

/-! ## A request that the sequencer takes -/

theorem taken_run (tag : Byte) (q : Request) {s act : State} (calm : s.Calm) {p : List Field}
    (takes : answer q (takenAt (requestFrame tag q) s) = (act, .reply p))
    (only : RunOnly (takenAt (requestFrame tag q) s) act)
    (raises : RaisesOnly runSources (takenAt (requestFrame tag q) s) act) :
    ∃ t, exec (requestCommand tag q) s = .next t ∧ (((s.setGauging t.gauging).setCable t.cable).setTime t.time).Keeps t
      ∧ t.gauging = act.gauging ∧ t.cable = act.cable ∧ t.time = act.time
      ∧ (s.link.notice ≠ none → t.notices = act.notices) ∧ t.Answered (requestKind q) tag p := by
  have inHand : act.link.inHand = some { kind := requestKind q, tag := tag } := by
    rw [only.link]
    simp [requestFrame]
  obtain ⟨t, next, placed, answered⟩ := answered_request tag q s act calm p takes inHand
  have keeps := keeps_placeReply (requestFrame tag q) (act, .reply p) _
    (Keeps.trans ((((keeps_takenAt (requestFrame tag q) s).setGauging act.gauging).setCable act.cable).setTime act.time)
      only.keepsTimed)
  rw [← placed] at keeps
  have gauging : t.gauging = act.gauging := keeps.gauging
  have cable : t.cable = act.cable := keeps.cable
  have time : t.time = act.time := keeps.time
  refine ⟨t, next, ?_, gauging, cable, time, fun occupied => ?_, answered⟩
  · rw [gauging, cable, time]
    exact keeps
  · rw [placed]
    exact (placeReply_notices _ (raises.occupied (by rw [takenAt_link]; exact occupied))).1

theorem entryInHand_congr {s t : State} (same : t.gauging = s.gauging) : entryInHand t = entryInHand s := by
  simp only [entryInHand, planEntry, State.run, same]

theorem skippable_congr {s t : State} (same : t.gauging = s.gauging) : skippable t = skippable s := by
  simp only [skippable, runActive, entryInHand_congr same, State.run, same]

theorem skippable_iff (s : State) : skippable s = true ↔ s.run.state = .active ∧ (entryInHand s).method ≠ .edge
    ∧ s.run.vertical.skipMark = false ∧ s.run.vertical.marked = none ∧ s.run.phase ≠ some .raise := by
  simp [skippable, runActive_iff, and_assoc]

/-! ## RUN_SKIP past TRAVEL (R137) -/

/-- R137: the vertical in hand marked, its exposure abandoned. -/
def skipMarked (s : State) : State :=
  setPhase .raise (setVertical { (abandonExposure s).run.vertical with marked := some .byRequest } (abandonExposure s))

theorem skipMarked_run (s : State) : (skipMarked s).run = { s.run with
    exposure := none, phase := some .raise, vertical := { s.run.vertical with marked := some .byRequest } } := by
  show { (abandonExposure s).run with
    vertical := { (abandonExposure s).run.vertical with marked := some .byRequest }, phase := some .raise } = _
  rw [abandonExposure_run]

theorem skipMarked_cable (s : State) : (skipMarked s).cable = s.cable := abandonExposure_cable s

theorem skipMarked_time (s : State) : (skipMarked s).time
    = if s.run.exposure = none then s.time else { s.time with exposureSpan := none } := abandonExposure_time s

theorem skipVertical_later {s : State} (late : s.run.phase ≠ some .travel) (holds : lowersOrHolds s.cable.motion)
    (down : s.cable.switches.reelTop = false) :
    skipVertical s = (skipMarked s).setCable (s.cable.raisingUp s.now) := by
  have raised := handOrder_raise (s := skipMarked s) (by rwa [skipMarked_cable]) (by rwa [skipMarked_cable])
  have now : (skipMarked s).now = s.now := abandonExposure_now s
  rw [skipMarked_cable, now] at raised
  rw [← raised]
  unfold skipVertical
  split
  case h_1 travel => exact absurd travel late
  case h_2 => rfl

/-! ## What an abort leaves of the notices -/

theorem abortCore_untold (r : AbortReason) {src : NoticeSource} (s : State) (other : src ≠ .runProgress) :
    s.Untold (abortCore r s) src := by
  intro occupied
  rcases phase : s.run.phase with _ | p
  · rw [(abortCore_unstored (.inl phase)).2.1]
  · by_cases travel : p = .travel
    · rw [(abortCore_unstored (.inr (travel ▸ phase))).2.1]
    · have link : (abortMarked r s).link = s.link := abandonExposure_link _
      have notices : (abortMarked r s).notices = s.notices := abandonExposure_notices _
      rw [abortCore_later phase travel, abortEnded, State.setRun_notices, storeVertical_eq_raise,
        raise_slot_ne _ _ (by decide) other.symm (by rw [State.setRun_link, link]; exact occupied), State.setRun_notices,
        notices]

/-- R118, R138: a RETRACT ordered at an abort moves the carriage, and ends the return where home is reached at once. -/
theorem retract_cases {s : State} (aborted : s.run.state = .aborted) (returns : s.run.outcome = some .inProgress) :
    ∃ c : Cableway, handOrder (s, some .retract) = s.setCable c
      ∨ handOrder (s, some .retract) = endAbortedReturn .parked (s.setCable c) := by
  by_cases parked : s.cable.motion = .parked
  · rw [retract_parked aborted returns parked]
    exact ⟨s.cable, .inr rfl⟩
  · by_cases idle : s.cable.motion = .unreferenced ∨ s.cable.motion = .homing ∨ s.cable.motion = .faulted
        ∨ s.cable.motion = .retracting
    · rw [retract_idle idle]
      exact ⟨s.cable, .inl rfl⟩
    · simp only [not_or] at idle
      obtain ⟨known, notHoming, sound, other⟩ := idle
      rw [retract_begins parked known notHoming sound other]
      rcases pursue_retracting_cases s with up | home | back
      · rw [up, handCompletion_none, setDrive_eq, retracting, stillCarriage_eq]
        exact ⟨_, .inl rfl⟩
      · have run : (reachHome (retracting s)).run = s.run := (reachHome_run _).trans (retracting_run s)
        rw [home, handCompletion_retracted (by rw [run]; exact aborted) (by rw [run]; exact returns), reachHome_eq,
          retracting, stillCarriage_eq]
        exact ⟨_, .inr rfl⟩
      · rw [back, handCompletion_none, setDrive_eq, retracting, stillCarriage_eq]
        exact ⟨_, .inl rfl⟩

theorem endAbortedReturn_untold (o : ReturnOutcome) (s : State) : s.Untold (endAbortedReturn o s) .runProgress :=
  untold_raise (src := .runEnd) _ (s.setRun { s.run with outcome := some o }) (by decide) (by decide)

theorem retract_untold {s : State} (aborted : s.run.state = .aborted) (returns : s.run.outcome = some .inProgress) :
    s.Untold (handOrder (s, some .retract)) .runProgress := by
  obtain ⟨c, moved | ended⟩ := retract_cases aborted returns
  · rw [moved]
    exact fun _ => rfl
  · rw [ended]
    exact endAbortedReturn_untold .parked (s.setCable c)

theorem retractOrdered_state (r : AbortReason) (s : State) : (retractOrdered r s).run.state = .aborted := by
  show (abortCore r s).run.state = _
  rw [abortCore_run]

theorem retractOrdered_cable (r : AbortReason) (s : State) : (retractOrdered r s).cable = s.cable := by
  show (abortCore r s).cable = _
  exact abortCore_cable r s

/-- R138: the abort's raise of RUN_PROGRESS stands after the return has been ordered. -/
theorem abortRun_progress (r : AbortReason) (s : State) (occupied : s.link.notice ≠ none) :
    (abortRun r s).notices.slots[sourcePlace .runProgress] = (abortCore r s).notices.slots[sourcePlace .runProgress] := by
  rw [abortRun_eq]
  exact retract_untold (retractOrdered_state r s) rfl (abortCore_occupied r occupied)

/-- R138: an abort with the weight down and no motion that holds RETRACT off. -/
theorem abortRun_down (r : AbortReason) {s : State} (notParked : s.cable.motion ≠ .parked)
    (known : s.cable.motion ≠ .unreferenced) (notHoming : s.cable.motion ≠ .homing) (sound : s.cable.motion ≠ .faulted)
    (other : s.cable.motion ≠ .retracting) (down : s.cable.switches.reelTop = false) :
    abortRun r s = setDrive (some .reelUp) (retracting (retractOrdered r s)) := by
  have cable := retractOrdered_cable r s
  rw [abortRun_eq, retract_begins (by rwa [cable]) (by rwa [cable]) (by rwa [cable]) (by rwa [cable]) (by rwa [cable]),
    pursue_retracting_down (by rwa [cable]), handCompletion_none]

/-- R138, R118: an abort with the carriage PARKED. -/
theorem abortRun_parked (r : AbortReason) {s : State} (parked : s.cable.motion = .parked) :
    abortRun r s = endAbortedReturn .parked (retractOrdered r s) := by
  rw [abortRun_eq, retract_parked (retractOrdered_state r s) rfl (by rwa [retractOrdered_cable])]

theorem endAbortedReturn_told (o : ReturnOutcome) (s : State) :
    s.Told (endAbortedReturn o s) .runEnd (endOf (endAbortedReturn o s).run) := by
  have content := runEndContent_eq (s.setRun { s.run with outcome := some o })
  rw [endAbortedReturn_run]
  rw [State.setRun_run] at content
  rw [← content]
  exact told_raise .runEnd _ (s.setRun { s.run with outcome := some o }) (by decide)

theorem abortRun_time (r : AbortReason) (s : State) : (abortRun r s).time
    = if s.run.exposure = none then s.time else { s.time with exposureSpan := none } := by
  rw [← abortCore_time r s, abortRun_eq]
  obtain ⟨c, moved | ended⟩ := retract_cases (retractOrdered_state r s) rfl
  · rw [moved]
    rfl
  · rw [ended]
    exact raise_time _ _ _

end Sys2Proof.Machine

namespace Sys2Proof.Machine

/-! ## RUN_SKIP and RUN_ABORT (R137 to R139) -/

theorem taken_runSkip_travel {s : State} (tag : Byte) (calm : s.Calm) (ok : skippable s = true)
    (travel : s.run.phase = some .travel) :
    ∃ t, exec (.runSkip tag) s = .next t ∧ (s.setGauging t.gauging).Keeps t
      ∧ t.gauging = { s.gauging with run := { s.run with vertical := { s.run.vertical with skipMark := true } } }
      ∧ t.Answered 0x30 tag [.num 1 s.run.vertical.index] := by
  have same := takenAt_gauging (requestFrame tag .runSkip) s
  refine taken_gauging (q := .runSkip) calm ?_
  show takeRunSkip _ = _
  unfold takeRunSkip skipVertical
  rw [if_pos (by rw [skippable_congr same]; exact ok), takenAt_run, travel]
  dsimp only [setVertical, State.setRun]
  rw [takenAt_run, same]

theorem taken_runSkip_later {s : State} (tag : Byte) (calm : s.Calm) (ok : skippable s = true)
    (late : s.run.phase ≠ some .travel) (holds : lowersOrHolds s.cable.motion) (down : s.cable.switches.reelTop = false) :
    ∃ t, exec (.runSkip tag) s = .next t ∧ (((s.setGauging t.gauging).setCable t.cable).setTime t.time).Keeps t
      ∧ t.run = { s.run with
          exposure := none, phase := some .raise, vertical := { s.run.vertical with marked := some .byRequest } }
      ∧ t.cable = s.cable.raisingUp s.now
      ∧ t.time = (if s.run.exposure = none then s.time else { s.time with exposureSpan := none })
      ∧ t.Answered 0x30 tag [.num 1 s.run.vertical.index] := by
  let u := takenAt (requestFrame tag .runSkip) s
  have gauging : u.gauging = s.gauging := takenAt_gauging _ _
  have cable : u.cable = s.cable := takenAt_cable _ _
  have run : u.run = s.run := takenAt_run _ _
  have takes : answer .runSkip u = (skipVertical u, .reply [.num 1 s.run.vertical.index]) := by
    show takeRunSkip u = _
    unfold takeRunSkip
    rw [if_pos (by rw [skippable_congr gauging]; exact ok), run]
  have leaves : RaisesOnly runSources u (skipVertical u) :=
    (RaisesOnly.runLeaves (List.Subset.refl _) u).skipVertical (RaisesOnly.refl _ u)
  have skipped := skipVertical_later (s := u) (by rwa [run]) (by rwa [cable]) (by rwa [cable])
  have marked : RunOnly u (skipMarked u) := (RunOnly.abandonExposure u).trans (RunOnly.setRun _ _)
  have only : RunOnly u (skipVertical u) := by
    rw [skipped]
    exact marked.trans (RunOnly.setCable (skipMarked u) _ (by rw [skipMarked_cable]; rfl) (by rw [skipMarked_cable]; rfl))
  obtain ⟨t, next, keeps, toGauging, toCable, toTime, -, answered⟩ := taken_run tag .runSkip calm takes only leaves
  refine ⟨t, next, keeps, ?_, ?_, ?_, answered⟩
  · have marked := skipMarked_run u
    rw [run] at marked
    rw [State.run, toGauging, skipped]
    exact marked
  · rw [toCable, skipped, State.setCable_cable, cable, show u.now = s.now from takenAt_now _ _]
  · have marked := skipMarked_time u
    rw [run, show u.time = s.time from takenAt_time _ _] at marked
    rw [toTime, skipped]
    exact marked

/-- R139: RUN_ABORT of an ACTIVE run, with the part as the frame's arrival leaves it. -/
theorem taken_runAbort {s : State} (tag : Byte) (calm : s.Calm) (active : s.run.state = .active) :
    ∃ t u : State, exec (.runAbort tag) s = .next t ∧ u = takenAt (requestFrame tag .runAbort) s
      ∧ (((s.setGauging t.gauging).setCable t.cable).setTime t.time).Keeps t
      ∧ t.gauging = (abortRun .byRequest u).gauging ∧ t.cable = (abortRun .byRequest u).cable
      ∧ t.time = (abortRun .byRequest u).time
      ∧ (s.link.notice ≠ none → t.notices = (abortRun .byRequest u).notices)
      ∧ t.Answered 0x31 tag [.num 1 s.run.vertical.index,
          outcomeField ((abortRun .byRequest u).run.outcome.getD .inProgress)] := by
  let u := takenAt (requestFrame tag .runAbort) s
  have run : u.run = s.run := takenAt_run _ _
  have takes : answer .runAbort u = (abortRun .byRequest u, .reply [.num 1 s.run.vertical.index,
      outcomeField ((abortRun .byRequest u).run.outcome.getD .inProgress)]) := by
    show takeRunAbort u = _
    unfold takeRunAbort
    rw [if_pos ((runActive_iff u).2 (by rw [run]; exact active)), run]
  obtain ⟨t, next, rest⟩ := taken_run tag .runAbort calm takes (RunOnly.abortRun u .byRequest)
    ((RaisesOnly.runLeaves (List.Subset.refl _) u).abortRun (RaisesOnly.refl _ u) _)
  exact ⟨t, u, next, rfl, rest⟩

/-- Settles O31: RUN_SKIP and RUN_ABORT. -/
theorem runSkipAndAbort : Obligations.RunSkipAndAbort := by
  unfold Obligations.RunSkipAndAbort
  refine ⟨fun s tag calm => ⟨fun active notEdge unmarked unskipped => ?_, fun unfit => ?_⟩,
    fun s tag calm => ⟨fun active => ?_, fun idle => ?_⟩⟩
  · have ok (phase : s.run.phase ≠ some .raise) : skippable s = true :=
      (skippable_iff s).2 ⟨active, notEdge, unmarked, unskipped, phase⟩
    refine ⟨fun travel => taken_runSkip_travel tag calm (ok (by rw [travel]; decide)) travel, fun phase holds down => ?_⟩
    have late : s.run.phase ≠ some .travel ∧ s.run.phase ≠ some .raise := by
      rcases phase with phase | phase | phase <;> rw [phase] <;> decide
    obtain ⟨t, next, keeps, run, cable, time, answered⟩ := taken_runSkip_later tag calm (ok late.2) late.1 holds down
    refine ⟨t, next, keeps, ?_, ?_, ?_, ?_, ?_, ?_, ?_, ?_, ?_, fun exposed => ?_, fun unexposed => ?_, answered⟩
    · rw [run]; exact active
    · rw [run]
    · rw [run]
    · rw [run]
    · rw [run]
    · rw [cable]; rfl
    · rw [cable]; rfl
    · rw [cable]; rfl
    · rw [cable]; rfl
    · rw [time, if_neg exposed]
    · rw [time, if_pos unexposed]
  · refine refused_request tag .runSkip s calm .state ?_
    show takeRunSkip _ = _
    refine if_neg fun ok => ?_
    rw [skippable_congr (takenAt_gauging _ _), skippable_iff] at ok
    obtain ⟨active, notEdge, unmarked, unskipped, phase⟩ := ok
    rcases unfit with other | edge | marked | skipped | raises
    · exact other active
    · exact notEdge edge
    · exact nomatch unmarked.symm.trans marked
    · exact skipped unskipped
    · exact phase raises
  · obtain ⟨t, u, next, taken, keeps, gauging, cable, time, notices, answered⟩ := taken_runAbort tag calm active
    have uRun : u.run = s.run := by rw [taken, takenAt_run]
    have uCable : u.cable = s.cable := by rw [taken, takenAt_cable]
    have uGauging : u.gauging = s.gauging := by rw [taken, takenAt_gauging]
    have uTime : u.time = s.time := by rw [taken, takenAt_time]
    have uStage : u.stage = s.stage := by rw [taken, takenAt_stage]
    have uNotices : u.notices = s.notices := by rw [taken, takenAt_notices]
    have uNotice : u.link.notice = s.link.notice := by rw [taken, takenAt_link]
    have run : t.run = (abortRun .byRequest u).run := congrArg Gauging.run gauging
    have core := abortCore_run .byRequest u
    rw [uRun, show u.now = s.now from congrArg TimeBase.runTime uTime, uTime, uStage] at core
    have ended := (abortRun_run .byRequest u).1
    have verticals : t.run.verticals = (abortCore .byRequest u).run.verticals := by rw [run, ended]
    have only := RunOnly.abortRun u .byRequest
    have progress (occupied : s.link.notice ≠ none) : t.notices.slots[sourcePlace .runProgress]
        = (abortCore .byRequest u).notices.slots[sourcePlace .runProgress] := by
      rw [notices occupied, abortRun_progress _ _ (by rw [uNotice]; exact occupied)]
    refine ⟨t, next, keeps, ?_, ?_, ?_, ?_, ?_, ?_, ?_, ?_, fun travel => ?_, fun late => ?_,
      fun notParked known notHoming sound other down => ?_, fun parked => ?_⟩
    · rw [run, ended, core]
    · rw [run, ended, core]
    · rw [run, ended, core]
    · rw [run, ended, core]
    · rw [run, ended, core]
    · rw [run, ended, core]
    · rw [gauging, only.plan, uGauging]
    · rw [gauging, only.rating, uGauging]
    · have unstored := abortCore_unstored (r := .byRequest) (s := u) (.inr (by rw [uRun]; exact travel))
      refine ⟨by rw [verticals, unstored.1, uRun], fun occupied => ?_⟩
      rw [progress occupied, unstored.2.1, uNotices]
    · obtain ⟨p, phase, notTravel⟩ : ∃ p, u.run.phase = some p ∧ p ≠ .travel := by
        rw [uRun]
        rcases late with phase | phase | phase | phase <;> exact ⟨_, phase, by decide⟩
      obtain ⟨v, stored, index, depth, points, mean, skip, told⟩ :=
        abortCore_stored (r := .byRequest) (s := u) phase notTravel
      rw [uRun] at index depth points stored skip
      refine ⟨v, by rw [verticals, stored], index, depth, points, mean, skip, fun occupied => ?_⟩
      have told := told (by rw [uNotice]; exact occupied)
      rw [progressOf_congr (by rw [uRun]) (by rw [uRun]) (by rw [uGauging]) uTime, uNotices] at told
      rw [progress occupied, told]
    · have downed := abortRun_down .byRequest (s := u) (by rwa [uCable]) (by rwa [uCable]) (by rwa [uCable]) (by rwa [uCable])
        (by rwa [uCable]) (by rwa [uCable])
      have outcome : (abortRun .byRequest u).run.outcome = some .inProgress := by
        rw [downed, setDrive_run, retracting_run]
        rfl
      rw [outcome] at answered
      refine ⟨?_, ?_, ?_, ?_, ?_, answered⟩
      · rw [cable, downed, setDrive_motion]; rfl
      · rw [cable, downed, setDrive_drive]
      · rw [cable, downed, setDrive_eq, retracting, stillCarriage_eq]; rfl
      · rw [cable, downed, setDrive_eq, retracting, stillCarriage_eq]; rfl
      · rw [run, outcome]
    · have stopped := abortRun_parked .byRequest (s := u) (by rwa [uCable])
      have outcome : (abortRun .byRequest u).run.outcome = some .parked := by
        rw [stopped, endAbortedReturn_run]
      have told := endAbortedReturn_told .parked (retractOrdered .byRequest u)
      rw [← stopped] at told
      rw [outcome] at answered
      refine ⟨?_, ?_, fun occupied => ?_, answered⟩
      · rw [cable, stopped, endAbortedReturn_cable, retractOrdered_cable, uCable]
      · rw [run, outcome]
      · have before := abortCore_untold .byRequest (src := .runEnd) u (by decide) (by rw [uNotice]; exact occupied)
        have told := told (abortCore_occupied _ (by rw [uNotice]; exact occupied))
        rw [show (retractOrdered .byRequest u).notices = (abortCore .byRequest u).notices from rfl, before, uNotices] at told
        rw [notices occupied, run, told]
  · refine refused_request tag .runAbort s calm .state ?_
    show takeRunAbort _ = _
    exact if_neg (by rw [takenAt_runActive, runActive_iff]; exact idle)

end Sys2Proof.Machine

namespace Sys2Proof.Machine

/-! ## Discharge (R141, R142) -/

/-- R141: the doubled width at place `k`, with the neighbour before the first at `before`. -/
def widthAt (before : Nat) (vs : List VerticalResult) (k : Nat) : Nat :=
  ((vs[min (k + 1) (vs.length - 1)]?.map (·.distance)).getD 0)
    - (match k with
      | 0 => before
      | j + 1 => (vs[j]?.map (·.distance)).getD 0)

theorem widthAt_zero (before : Nat) (v : VerticalResult) (rest : List VerticalResult) :
    widthAt before (v :: rest) 0 = (rest.map (·.distance)).headD v.distance - before := by
  cases rest with
  | nil => simp [widthAt]
  | cons w more => simp [widthAt]

theorem widthAt_succ (before : Nat) (v : VerticalResult) {rest : List VerticalResult} {k : Nat} (stands : k < rest.length) :
    widthAt before (v :: rest) (k + 1) = widthAt v.distance rest k := by
  have next : min (k + 1 + 1) ((v :: rest).length - 1) = min (k + 1) (rest.length - 1) + 1 := by
    rw [List.length_cons]
    omega
  unfold widthAt
  rw [next, List.getElem?_cons_succ]
  cases k with
  | zero => rfl
  | succ j => rfl

/-- R141: the terms of the two sums at place `k`. -/
def partialDischarge (vs : List VerticalResult) (width : Nat → Nat) (k : Nat) : Nat :=
  ((vs[k]?.bind (·.mean)).getD 0) * ((vs[k]?.bind (·.depth)).getD 0) * width k

def partialArea (vs : List VerticalResult) (width : Nat → Nat) (k : Nat) : Nat :=
  ((vs[k]?.bind (·.depth)).getD 0) * width k

theorem doubledWidths_fold (vs : List VerticalResult) (before : Nat) (acc : Nat × Nat) :
    (vs.zip (doubledWidths before (vs.map (·.distance)))).foldl
      (fun acc p => (acc.1 + p.1.mean.getD 0 * p.1.depth.getD 0 * p.2, acc.2 + p.1.depth.getD 0 * p.2)) acc
    = (acc.1 + ∑ k ∈ Finset.range vs.length, partialDischarge vs (widthAt before vs) k,
        acc.2 + ∑ k ∈ Finset.range vs.length, partialArea vs (widthAt before vs) k) := by
  induction vs generalizing before acc with
  | nil => simp
  | cons v rest ih =>
    have discharge : ∑ k ∈ Finset.range rest.length, partialDischarge (v :: rest) (widthAt before (v :: rest)) (k + 1)
        = ∑ k ∈ Finset.range rest.length, partialDischarge rest (widthAt v.distance rest) k := by
      refine Finset.sum_congr rfl fun k inside => ?_
      rw [partialDischarge, widthAt_succ before v (Finset.mem_range.1 inside), List.getElem?_cons_succ, partialDischarge]
    have area : ∑ k ∈ Finset.range rest.length, partialArea (v :: rest) (widthAt before (v :: rest)) (k + 1)
        = ∑ k ∈ Finset.range rest.length, partialArea rest (widthAt v.distance rest) k := by
      refine Finset.sum_congr rfl fun k inside => ?_
      rw [partialArea, widthAt_succ before v (Finset.mem_range.1 inside), List.getElem?_cons_succ, partialArea]
    rw [List.map_cons, doubledWidths, List.zip_cons_cons, List.foldl_cons, ih, List.length_cons, Finset.sum_range_succ',
      Finset.sum_range_succ', discharge, area, partialDischarge, partialArea, widthAt_zero]
    simp only [List.getElem?_cons_zero, Option.bind_some]
    congr 1 <;> omega

/-- R141: the two sums, over the places of the counted verticals. -/
theorem doubledSums_eq (vs : List VerticalResult) (width : Nat → Nat)
    (widths : width = fun k => ((vs[min (k + 1) (vs.length - 1)]?.map (·.distance)).getD 0)
      - ((vs[k - 1]?.map (·.distance)).getD 0)) :
    doubledSums vs = (∑ k ∈ Finset.range vs.length, partialDischarge vs width k,
      ∑ k ∈ Finset.range vs.length, partialArea vs width k) := by
  have same (k : Nat) : widthAt ((vs.map (·.distance)).headD 0) vs k = width k := by
    rw [widths]
    cases k with
    | zero => cases vs <;> rfl
    | succ j => rfl
  unfold doubledSums
  dsimp only
  rw [doubledWidths_fold, Nat.zero_add, Nat.zero_add, funext same]

theorem gaugeHeight_absent {a b : Option Int} (absent : a = none ∨ b = none) : gaugeHeight a b = none := by
  unfold gaugeHeight
  split
  · simp at absent
  · rfl

theorem stageChanged_absent {a b : Option Int} (limit : Nat) (absent : a = none ∨ b = none) :
    stageChanged a b limit = false := by
  unfold stageChanged
  split
  · simp at absent
  · rfl

/-! ## A run that completes (R136) -/

/-- R136: the run that a return ending now completes. -/
def completedRun (o : ReturnOutcome) (s : State) : Run :=
  let r := { s.run with outcome := some o, finish := some (presentMoment s) }
  { r with
    results := runResults r
    tooFew := decide ((countedVerticals r).length < 3)
    stageChanging := stageChanged (r.start.bind (·.stage)) (r.finish.bind (·.stage)) s.gauging.plan.changeLimit
    state := .complete }

theorem completeRun_eq (o : ReturnOutcome) (s : State) :
    completeRun o s = raiseRunEnd (s.setRun (completedRun o s)) := rfl

theorem completeRun_run (o : ReturnOutcome) (s : State) : (completeRun o s).run = completedRun o s := by
  rw [completeRun_eq, raiseRunEnd, raise_run]
  rfl

theorem completeRun_time (o : ReturnOutcome) (s : State) : (completeRun o s).time = s.time := by
  rw [completeRun_eq, raiseRunEnd, raise_time]
  rfl

theorem completeRun_told (o : ReturnOutcome) (s : State) :
    s.Told (completeRun o s) .runEnd (endOf (completeRun o s).run) := by
  have content := runEndContent_eq (s.setRun (completedRun o s))
  rw [completeRun_run, completeRun_eq]
  rw [State.setRun_run] at content
  rw [← content]
  exact told_raise .runEnd _ (s.setRun (completedRun o s)) (by decide)

/-- R136: RETRACTED ends the return of a RETURNING run. -/
theorem handCompletion_returned {s : State} (returning : s.run.state = .returning) :
    handCompletion (s, some .retracted) = completeRun .parked s := by
  refine handCompletion_ends ?_
  unfold sequencerTakes
  rw [returning]

theorem exec_homeLimitClose (s : State) : exec .homeLimitClose s = .next (homeLimitCloses s) := rfl

/-- R118: the carriage as HOME_LIMIT finds it at the end of its way in. -/
def Cableway.homed (c : Cableway) : Cableway :=
  { c with
    switches := { c.switches with homeLimit := true }
    motion := .parked, drive := none, stall := none, traverseCount := 0, positionKnown := true }

/-- R118: HOME_LIMIT closes on a carriage that retracts. -/
theorem homeLimitCloses_retracting {s : State} (clear : s.cable.switches.homeLimit = false)
    (motion : s.cable.motion = .retracting) (inward : s.cable.drive = some .traverseIn) :
    homeLimitCloses s = handCompletion (s.setCable s.cable.homed, some .retracted) := by
  unfold homeLimitCloses
  rw [if_neg (by rw [clear]; exact Bool.false_ne_true), motion, inward]
  dsimp only
  rw [reachHome_eq, Cableway.home,
    Cableway.driven_none (c := (setSwitches _ s).cable) (d := .traverseIn) inward]
  rfl

/-! ### Its results -/

theorem runResults_few {r : Run} (few : (countedVerticals r).length < 3) : (runResults r).discharge = none
    ∧ (runResults r).area = none ∧ (runResults r).mean = none := by
  unfold runResults
  dsimp only
  rw [if_pos few]
  exact ⟨rfl, rfl, rfl⟩

theorem runResults_gaugeHeight (r : Run) :
    (runResults r).gaugeHeight = gaugeHeight (r.start.bind (·.stage)) (r.finish.bind (·.stage)) := by
  unfold runResults
  dsimp only
  split <;> rfl

theorem runResults_many {r : Run} (many : ¬ (countedVerticals r).length < 3) {q a : Nat}
    (sums : doubledSums (countedVerticals r) = (q, a)) : (runResults r).discharge = some (divHalfUp q 2000000)
      ∧ (runResults r).area = some (divHalfUp a 200)
      ∧ (runResults r).mean = if a = 0 then none else some (divHalfUp q a) := by
  unfold runResults
  dsimp only
  rw [if_neg many, sums]
  exact ⟨rfl, rfl, rfl⟩

theorem stageChanged_some (a b : Int) (limit : Nat) :
    stageChanged (some a) (some b) limit = true ↔ limit < (b - a).natAbs := decide_eq_true_iff

/-- R141, R142: the results of a run of at least three counted verticals. -/
theorem completedRun_discharge {o : ReturnOutcome} {s : State} {vs : List VerticalResult} {width : Nat → Nat} {q a : Nat}
    (counted : vs = s.run.verticals.filter fun v => v.skip.isNone) (three : 3 ≤ vs.length)
    (widths : width = fun k => ((vs[min (k + 1) (vs.length - 1)]?.map (·.distance)).getD 0)
      - ((vs[k - 1]?.map (·.distance)).getD 0))
    (discharge : q = ∑ k ∈ Finset.range vs.length, partialDischarge vs width k)
    (area : a = ∑ k ∈ Finset.range vs.length, partialArea vs width k) :
    (completedRun o s).tooFew = false
      ∧ (∃ x, (completedRun o s).results.discharge = some x ∧ 2000000 * x ≤ q + 1000000
        ∧ q + 1000000 < 2000000 * (x + 1))
      ∧ (∃ x, (completedRun o s).results.area = some x ∧ 200 * x ≤ a + 100 ∧ a + 100 < 200 * (x + 1))
      ∧ (a = 0 → (completedRun o s).results.mean = none)
      ∧ (0 < a → ∃ x, (completedRun o s).results.mean = some x ∧ 2 * (x * a) ≤ 2 * q + a
        ∧ 2 * q + a < 2 * (x * a) + 2 * a) := by
  let r : Run := { s.run with outcome := some o, finish := some (presentMoment s) }
  have same : countedVerticals r = vs := counted.symm
  have many : ¬ (countedVerticals r).length < 3 := by
    rw [same]
    omega
  obtain ⟨toDischarge, toArea, toMean⟩ := runResults_many many
    (by rw [same, doubledSums_eq vs width widths, ← discharge, ← area] : doubledSums (countedVerticals r) = (q, a))
  refine ⟨decide_eq_false many, ⟨_, toDischarge, ?_, ?_⟩, ⟨_, toArea, ?_, ?_⟩, fun zero => ?_, fun positive => ?_⟩
  · have error := divHalfUp_error q (b := 2000000) (by decide)
    omega
  · have error := divHalfUp_error q (b := 2000000) (by decide)
    omega
  · have error := divHalfUp_error a (b := 200) (by decide)
    omega
  · have error := divHalfUp_error a (b := 200) (by decide)
    omega
  · exact toMean.trans (if_pos zero)
  · have error := divHalfUp_error q positive
    refine ⟨_, toMean.trans (if_neg (by omega)), ?_, ?_⟩
    · omega
    · omega

/-- Settles O50: the return of a run ends at home. -/
theorem runCompletes : Obligations.RunCompletes := by
  intro s returning motion inward clear
  have home := homeLimitCloses_retracting clear motion inward
  have ended := handCompletion_returned (s := s.setCable s.cable.homed) returning
  have run : (completeRun .parked (s.setCable s.cable.homed)).run = completedRun .parked s := completeRun_run _ _
  have cable := completeRun_cable .parked (s.setCable s.cable.homed)
  have keeps := (RunOnly.completeRun (s.setCable s.cable.homed) .parked).keeps (completeRun_time _ _)
  have told := completeRun_told .parked (s.setCable s.cable.homed)
  rw [exec_homeLimitClose, home, ended]
  refine ⟨_, rfl, keeps, ?_, ?_, ?_, ?_, ?_, ?_, ?_, ?_, ?_, ?_, fun a b start finish => ?_, fun few => ?_, fun absent => ?_,
    fun vs width q a counted three widths discharge area => ?_, told.congr rfl rfl rfl⟩
  · rw [cable]; rfl
  · rw [cable]; rfl
  · rw [cable]; rfl
  · rw [cable]; rfl
  · rw [run]; rfl
  · rw [run]; rfl
  · rw [run]; rfl
  · rw [run]; rfl
  · rw [run]; rfl
  · rw [run]; rfl
  · have height : (completedRun .parked s).results.gaugeHeight = gaugeHeight (some a) (some b) :=
      (runResults_gaugeHeight _).trans (congrArg₂ gaugeHeight start finish)
    have changing : (completedRun .parked s).stageChanging = stageChanged (some a) (some b) s.gauging.plan.changeLimit :=
      congrArg₂ (stageChanged · · s.gauging.plan.changeLimit) start finish
    rw [run, height, changing]
    exact ⟨rfl, stageChanged_some a b _⟩
  · rw [run]
    exact ⟨decide_eq_true few, runResults_few few⟩
  · have height : (completedRun .parked s).results.gaugeHeight = gaugeHeight (s.run.start.bind (·.stage)) s.stage.stage :=
      runResults_gaugeHeight _
    rw [run, height]
    exact ⟨gaugeHeight_absent absent, stageChanged_absent _ absent⟩
  · rw [run]
    exact completedRun_discharge counted three widths discharge area

end Sys2Proof.Machine

namespace Sys2Proof.Machine

/-! ## Working a vertical (R130, R131) -/

/-- R131: the next of the points still to come. -/
theorem placeNext_point {s : State} {f : Fraction} {rest : List Fraction} {x : Nat} {held : Bool}
    (remaining : s.run.vertical.remaining = f :: rest)
    (meter : (x, held) = meterDepth f (s.run.vertical.depth.getD 0) s.cable.settings.weightOffset) : placeNext s
      = (s.setRun { s.run with
          phase := some .place
          vertical := { s.run.vertical with
            remaining := rest
            point := some { fraction := f, meterDepth := x, clamped := held, bedStop := false } } },
        some (.toPoint ((x + s.cable.settings.weightOffset : Nat) : Int))) := by
  unfold placeNext
  dsimp only
  rw [remaining]
  dsimp only
  rw [← meter]
  rfl

/-- R131: after the last point the weight is raised. -/
theorem placeNext_last {s : State} (remaining : s.run.vertical.remaining = []) : placeNext s
    = (s.setRun { s.run with phase := some .raise, vertical := { s.run.vertical with point := none } }, some .raise) := by
  unfold placeNext
  dsimp only
  rw [remaining]
  rfl

theorem judgeDepth_shallow {s : State} (method : (entryInHand s).method ≠ .surface)
    (shallow : s.run.vertical.depth.getD 0 ≤ s.cable.settings.weightOffset) : judgeDepth s
      = (s.setRun { s.run with phase := some .raise, vertical := { s.run.vertical with marked := some .shallow } },
        some .raise) :=
  if_pos ⟨method, shallow⟩

theorem judgeDepth_place {s : State} {f : Fraction} {rest : List Fraction} {x : Nat} {held : Bool}
    (deep : (entryInHand s).method = .surface ∨ s.cable.settings.weightOffset < s.run.vertical.depth.getD 0)
    (first : fractions (entryInHand s).method = f :: rest)
    (meter : (x, held) = meterDepth f (s.run.vertical.depth.getD 0) s.cable.settings.weightOffset) : judgeDepth s
      = (s.setRun { s.run with
          phase := some .place
          vertical := { s.run.vertical with
            remaining := rest
            point := some { fraction := f, meterDepth := x, clamped := held, bedStop := false } } },
        some (.toPoint ((x + s.cable.settings.weightOffset : Nat) : Int))) := by
  have placed := placeNext_point (s := setVertical { s.run.vertical with remaining := f :: rest } s) rfl meter
  unfold judgeDepth
  rw [if_neg, first, placed]
  · rfl
  · rintro ⟨other, shallow⟩
    rcases deep with surface | deep
    · exact other surface
    · omega

/-- R131: the first point of a method. -/
def firstPoint (m : Method) (f : Fraction) (rest : List Fraction) : Prop :=
  (m = .onePoint ∧ f = .six ∧ rest = []) ∨ (m = .twoPoint ∧ f = .eight ∧ rest = [.two])
    ∨ (m = .threePoint ∧ f = .eight ∧ rest = [.six, .two]) ∨ (m = .surface ∧ f = .surface ∧ rest = [])

theorem fractions_of_firstPoint {m : Method} {f : Fraction} {rest : List Fraction} (first : firstPoint m f rest) :
    fractions m = f :: rest := by
  obtain ⟨rfl, rfl, rfl⟩ | ⟨rfl, rfl, rfl⟩ | ⟨rfl, rfl, rfl⟩ | ⟨rfl, rfl, rfl⟩ := first <;> rfl

theorem sequencerTakes_surfaceFound {s : State} (active : s.run.state = .active) (sound : s.run.phase = some .sound) :
    sequencerTakes .surfaceFound s = judgeDepth (setVertical { s.run.vertical with
      depth := some ((entryInHand s).depth.getD 0), depthSource := some .override } s) := by
  unfold sequencerTakes
  rw [active, sound]

theorem sequencerTakes_sounded {s : State} (active : s.run.state = .active) (sound : s.run.phase = some .sound)
    (depth failed : Nat) : sequencerTakes (.sounded depth failed) s = judgeDepth (setVertical { s.run.vertical with
      depth := some depth, depthSource := some .sounded, failed := some failed } s) := by
  unfold sequencerTakes
  rw [active, sound]

theorem sequencerTakes_noBottom {s : State} (active : s.run.state = .active) (sound : s.run.phase = some .sound)
    (failed : Nat) : sequencerTakes (.noBottom failed) s
      = (s.setRun { s.run with
          phase := some .raise
          vertical := { s.run.vertical with failed := some failed, marked := some .noBottom } }, some .raise) := by
  unfold sequencerTakes
  rw [active, sound]
  rfl

/-! ## The contacts of the weight (R114, R115, R117) -/

theorem seekingMode_some {c : Cableway} {mode : SoundMode} (motion : c.motion = .seekingSurface mode)
    (down : c.drive = some .reelDown) : seekingMode c = some mode := by
  unfold seekingMode
  rw [motion, down]

theorem exec_surfaceContactClose (s : State) : exec .surfaceContactClose s = .next (surfaceCloses s) := rfl

theorem exec_bottomCloses {s : State} (clear : s.cable.switches.bottom = false) :
    exec (.bottomContactChange true) s = .next (bottomCloses s) := by
  have closes : bottomChanges true s = bottomCloses s := by simp [bottomChanges, clear]
  exact congrArg Host.Outcome.next closes

theorem exec_bottomOpens {s : State} (closed : s.cable.switches.bottom = true) :
    exec (.bottomContactChange false) s = .next (bottomOpens s) := by
  have opens : bottomChanges false s = bottomOpens s := by simp [bottomChanges, closed]
  exact congrArg Host.Outcome.next opens

/-- R114: the surface contact closes where the surface is sought. -/
theorem surfaceCloses_seeking {s : State} {mode : SoundMode} (clear : s.cable.switches.surface = false)
    (motion : s.cable.motion = .seekingSurface mode) (down : s.cable.drive = some .reelDown) :
    surfaceCloses s = handCompletion (surfaceFound mode (setSwitches (fun x => { x with surface := true }) s)) := by
  unfold surfaceCloses
  rw [if_neg (by rw [clear]; exact Bool.false_ne_true)]
  dsimp only
  rw [seekingMode_some (c := (setSwitches _ s).cable) motion down]

/-- R114: the bottom contact closes where the surface is sought. -/
theorem bottomCloses_seeking {s : State} {mode : SoundMode} (motion : s.cable.motion = .seekingSurface mode)
    (down : s.cable.drive = some .reelDown) :
    bottomCloses s = handCompletion (surfaceFound mode (setSwitches (fun x => { x with bottom := true }) s)) := by
  unfold bottomCloses
  dsimp only
  rw [seekingMode_some (c := (setSwitches _ s).cable) motion down]

theorem bottomCloses_seek {s : State} (motion : s.cable.motion = .seekingBottom .seek)
    (down : s.cable.drive = some .reelDown) :
    bottomCloses s = enterHold (setSwitches (fun x => { x with bottom := true }) s) := by
  have elsewhere : seekingMode (setSwitches (fun x => { x with bottom := true }) s).cable = none :=
    seekingMode_none (.inl fun x => by show s.cable.motion ≠ _; rw [motion]; exact nofun)
  unfold bottomCloses
  dsimp only
  rw [elsewhere, motion, down]

theorem bottomCloses_toPoint {s : State} {target : Int} (motion : s.cable.motion = .toPoint target)
    (down : s.cable.drive = some .reelDown) :
    bottomCloses s = enterAtPoint true (setSwitches (fun x => { x with bottom := true }) s) := by
  have elsewhere : seekingMode (setSwitches (fun x => { x with bottom := true }) s).cable = none :=
    seekingMode_none (.inl fun x => by show s.cable.motion ≠ _; rw [motion]; exact nofun)
  unfold bottomCloses
  dsimp only
  rw [elsewhere, motion, down]

theorem enterSeek_bottom {s : State} (bottom : s.cable.switches.bottom = true) :
    enterSeek s = s.setCable (s.cable.holding s.now) := by
  unfold enterSeek
  rw [if_pos bottom, enterHold_eq]

/-- R115: the carriage as SEEK begins with the bottom contact open. -/
def Cableway.seeking (now : Nat) (c : Cableway) : Cableway :=
  ({ c with motion := .seekingBottom .seek } : Cableway).driven now (some .reelDown)

theorem enterSeek_clear {s : State} (clear : s.cable.switches.bottom = false) :
    enterSeek s = judgeDepthLimit (s.setCable (s.cable.seeking s.now)) := by
  unfold enterSeek
  rw [if_neg (by rw [clear]; exact Bool.false_ne_true), setDrive_eq]
  rfl

/-- R119: at the surface point itself no depth limit is exceeded. -/
theorem depthExceeded_at_surface {c : Cableway} (point : c.surfacePoint = some c.reelCount) : ¬ depthExceeded c = true := by
  rw [depthExceeded_iff, reelDepth, point]
  rintro ⟨-, -, d, limit, depth, -, deep⟩
  rw [Option.map_some, Option.some_inj] at depth
  omega

/-- R114: the carriage where the surface has been found and the reel stopped. -/
def Cableway.surfaced (c : Cableway) : Cableway :=
  { c with surfacePoint := some c.reelCount, drive := none, stall := none }

theorem surfaceFound_surface {s : State} (down : s.cable.drive = some .reelDown) : surfaceFound .surface s
    = (s.setCable s.cable.surfaced, some .surfaceFound) := by
  have drive : (s.setCable { s.cable with surfacePoint := some s.cable.reelCount }).cable.drive = some .reelDown := down
  unfold surfaceFound
  dsimp only
  rw [setDrive_eq, Cableway.driven_none drive]
  rfl

theorem surfaceFound_full_clear {s : State} (down : s.cable.drive = some .reelDown)
    (clear : s.cable.switches.bottom = false) : surfaceFound .full s
      = (s.setCable { s.cable with surfacePoint := some s.cable.reelCount, motion := .seekingBottom .seek }, none) := by
  have seeks : (s.setCable { s.cable with surfacePoint := some s.cable.reelCount }).cable.seeking s.now
      = { s.cable with surfacePoint := some s.cable.reelCount, motion := .seekingBottom .seek } :=
    Cableway.driven_of_eq down
  have within := judgeDepthLimit_within (s := s.setCable { s.cable with
    surfacePoint := some s.cable.reelCount, motion := .seekingBottom .seek }) (depthExceeded_at_surface rfl)
  unfold surfaceFound
  dsimp only
  rw [enterSeek_clear (s := s.setCable { s.cable with surfacePoint := some s.cable.reelCount }) clear]
  exact congrArg (·, none) ((congrArg (fun c => judgeDepthLimit (s.setCable c)) seeks).trans within)

theorem surfaceFound_full_bottom {s : State} (down : s.cable.drive = some .reelDown)
    (bottom : s.cable.switches.bottom = true) : surfaceFound .full s
      = (s.setCable { s.cable with
          surfacePoint := some s.cable.reelCount, motion := .seekingBottom .hold, drive := none, stall := none
          hold := some (s.now + 1000) }, none) := by
  have drive : (s.setCable { s.cable with surfacePoint := some s.cable.reelCount }).cable.drive = some .reelDown := down
  unfold surfaceFound
  dsimp only
  rw [enterSeek_bottom (s := s.setCable { s.cable with surfacePoint := some s.cable.reelCount }) bottom, Cableway.holding,
    Cableway.driven_none drive]
  rfl

/-! ### The hold (R115) -/

theorem bottomOpens_hold {s : State} {e : Nat} (motion : s.cable.motion = .seekingBottom .hold)
    (hold : s.cable.hold = some e) :
    bottomOpens s = handCompletion (attemptFails (setSwitches (fun x => { x with bottom := false }) s)) := by
  unfold bottomOpens
  dsimp only
  rw [motion, hold]

theorem failedAttempts_eq {c : Cableway} {n : Nat} {depth : Option Nat}
    (sounding : c.sounding = some { failed := n, depth := depth }) : failedAttempts c = n := by
  rw [failedAttempts, sounding]
  rfl

/-- R115: one of the first two attempts that fail lifts the weight. -/
theorem attemptFails_bounce {s : State} {n : Nat} {d : Int} (sounding : s.cable.sounding = some { failed := n, depth := none })
    (few : n < 2) (depth : reelDepth s.cable = some d) (below : 0 < d) (still : s.cable.drive = none) : attemptFails s
      = (s.setCable { s.cable with
          hold := none, sounding := some { failed := n + 1, depth := none }
          motion := .seekingBottom (.bounce d), drive := some .reelUp
          stall := some (s.now + s.cable.settings.stallTime * 1000) }, none) := by
  have stays (c : Cableway) (same : reelDepth c = some d) : ¬ bounceOver d c = true := by
    unfold bounceOver
    rw [same]
    refine fun ended => ?_
    have reached : d ≤ d - 300000 ∨ d ≤ 0 := of_decide_eq_true ended
    omega
  unfold attemptFails
  rw [failedAttempts_eq sounding, depth]
  dsimp only [Option.getD_some]
  rw [if_neg (by omega), if_neg (stays _ (by exact depth)), setDrive_eq, Cableway.driven_some_of_none (by exact still)]
  rfl

/-- R115: the third attempt that fails. -/
theorem attemptFails_third {s : State} (sounding : s.cable.sounding = some { failed := 2, depth := none }) : attemptFails s
    = (s.setCable { s.cable with hold := none, sounding := some { failed := 3, depth := none } }, some (.noBottom 3)) := by
  unfold attemptFails
  rw [failedAttempts_eq sounding]
  rfl

end Sys2Proof.Machine

namespace Sys2Proof.Machine

/-! ## A SURFACE sounding of an ACTIVE run (R114, R130, R131) -/

theorem reelDepth_surfaced (c : Cableway) : reelDepth c.surfaced = some 0 := by
  rw [reelDepth, Cableway.surfaced, Option.map_some, Int.sub_self]

/-- R130: the vertical in hand with the depth of the plan. -/
def depthOfPlan (s : State) : InVertical :=
  { s.run.vertical with depth := some ((entryInHand s).depth.getD 0), depthSource := some .override }

/-- R130: a SHALLOW vertical is raised. -/
theorem surfaced_shallow {s : State} {mode : SoundMode} (motion : s.cable.motion = .seekingSurface mode)
    (top : s.cable.switches.reelTop = false) (active : s.run.state = .active) (sound : s.run.phase = some .sound)
    (method : (entryInHand s).method ≠ .surface)
    (shallow : (entryInHand s).depth.getD 0 ≤ s.cable.settings.weightOffset) :
    handCompletion (s.setCable s.cable.surfaced, some .surfaceFound)
      = (s.setRun { s.run with phase := some .raise, vertical := { depthOfPlan s with marked := some .shallow } }).setCable
        (s.cable.surfaced.raisingUp s.now) := by
  have takes := sequencerTakes_surfaceFound (s := s.setCable s.cable.surfaced) active sound
  rw [judgeDepth_shallow (by exact method) (by exact shallow)] at takes
  exact handCompletion_orders takes (cablewayTakes_raise (by exact .inl ⟨mode, motion⟩) (by exact top))

/-- R131: the first point of a vertical is placed. -/
theorem surfaced_placed {s : State} {mode : SoundMode} {f : Fraction} {rest : List Fraction} {x : Nat} {held : Bool}
    (motion : s.cable.motion = .seekingSurface mode) (active : s.run.state = .active) (sound : s.run.phase = some .sound)
    (deep : (entryInHand s).method = .surface ∨ s.cable.settings.weightOffset < (entryInHand s).depth.getD 0)
    (first : firstPoint (entryInHand s).method f rest)
    (meter : (x, held) = meterDepth f ((entryInHand s).depth.getD 0) s.cable.settings.weightOffset) :
    handCompletion (s.setCable s.cable.surfaced, some .surfaceFound)
      = takeToPoint ((x + s.cable.settings.weightOffset : Nat) : Int) ((s.setRun { s.run with
          phase := some .place
          vertical := { depthOfPlan s with
            remaining := rest
            point := some { fraction := f, meterDepth := x, clamped := held, bedStop := false } } }).setCable
        s.cable.surfaced) := by
  have takes := sequencerTakes_surfaceFound (s := s.setCable s.cable.surfaced) active sound
  have placed := judgeDepth_place (s := setVertical (depthOfPlan (s.setCable s.cable.surfaced)) (s.setCable s.cable.surfaced))
    (by exact deep) (fractions_of_firstPoint first) (by exact meter)
  exact handCompletion_orders (takes.trans placed) (cablewayTakes_toPoint (by exact .inl ⟨⟨mode, motion⟩, rfl⟩) _)

/-- Settles O53: the contacts of the weight. -/
theorem contacts : Obligations.Contacts := by
  unfold Obligations.Contacts
  refine ⟨⟨fun s motion down => ⟨fun clear off => ?_, fun clear bottom => ?_, fun off => ?_⟩,
    fun s motion down idle => ⟨fun clear => ?_, fun off => ?_⟩,
    fun s off => ⟨fun motion down => ?_, fun target motion down => ?_, fun still => ?_⟩,
    fun s e n d p closed motion hold still sounding point depth below => ⟨fun few => ?_, fun two active sound top => ?_⟩⟩,
    fun s e d offset motion down clear off top active sound entry depth weight least => ⟨fun method shallow => ?_,
      fun f rest x held deep first meter => ⟨?_, ?_⟩⟩⟩
  · refine ⟨_, exec_surfaceContactClose s, ?_⟩
    rw [surfaceCloses_seeking clear motion down, surfaceFound_full_clear (by exact down) (by exact off), handCompletion_none]
    rfl
  · rw [exec_surfaceContactClose, surfaceCloses_seeking clear motion down,
      surfaceFound_full_bottom (by exact down) (by exact bottom), handCompletion_none]
    rfl
  · rw [exec_bottomCloses off, bottomCloses_seeking motion down, surfaceFound_full_bottom (by exact down) (by exact rfl),
      handCompletion_none]
    rfl
  · refine ⟨_, exec_surfaceContactClose s, ?_⟩
    rw [surfaceCloses_seeking clear motion down, surfaceFound_surface (by exact down),
      handCompletion_idle .surfaceFound (by exact idle) (fun h => nomatch h)]
    rfl
  · refine ⟨_, exec_bottomCloses off, ?_⟩
    rw [bottomCloses_seeking motion down, surfaceFound_surface (by exact down),
      handCompletion_idle .surfaceFound (by exact idle) (fun h => nomatch h)]
    rfl
  · refine ⟨_, exec_bottomCloses off, ?_⟩
    rw [bottomCloses_seek motion down, enterHold_eq, Cableway.holding,
      Cableway.driven_none (c := (setSwitches _ s).cable) (d := .reelDown) down]
    rfl
  · refine ⟨_, exec_bottomCloses off, ?_⟩
    rw [bottomCloses_toPoint motion down, enterAtPoint_eq, Cableway.atPoint,
      Cableway.driven_none (c := (setSwitches _ s).cable) (d := .reelDown) down]
    rfl
  · rw [exec_bottomCloses off, bottomCloses_alone (by rw [still]; exact nofun)]
    rfl
  · refine ⟨_, exec_bottomOpens closed, ?_⟩
    have depth : reelDepth (setSwitches (fun x => { x with bottom := false }) s).cable = some d := by
      rw [reelDepth, show (setSwitches _ s).cable.surfacePoint = some p from point]
      exact congrArg some depth
    rw [bottomOpens_hold motion hold, attemptFails_bounce (by exact sounding) few depth below (by exact still),
      handCompletion_none]
    rfl
  · refine ⟨_, exec_bottomOpens closed, ?_⟩
    have takes := sequencerTakes_noBottom (s := (setSwitches (fun x => { x with bottom := false }) s).setCable
      { (setSwitches (fun x => { x with bottom := false }) s).cable with
        hold := none, sounding := some { failed := 3, depth := none } }) active sound 3
    have lifted := handCompletion_orders takes (cablewayTakes_raise (by exact .inr (.inl ⟨_, motion⟩)) (by exact top))
    rw [bottomOpens_hold motion hold, attemptFails_third (by rw [← two]; exact sounding), lifted]
    exact ⟨rfl, rfl, rfl, rfl, rfl, rfl⟩
  · subst entry depth weight
    have raised := surfaced_shallow (s := setSwitches (fun x => { x with surface := true }) s) motion top active sound method
      shallow
    have found := surfaceFound_surface (s := setSwitches (fun x => { x with surface := true }) s) down
    refine ⟨_, exec_surfaceContactClose s, ?_⟩
    rw [surfaceCloses_seeking clear motion down, found]
    rw [raised]
    exact ⟨Keeps.refl _, active, rfl, rfl, rfl, rfl⟩
  · subst entry depth weight
    have ahead : (0 : Int) < ((x + s.cable.settings.weightOffset : Nat) : Int) * 1000 := by omega
    have placed := surfaced_placed (s := setSwitches (fun x => { x with surface := true }) s) motion active sound deep first
      meter
    refine ⟨_, exec_surfaceContactClose s, ?_⟩
    rw [surfaceCloses_seeking clear motion down, surfaceFound_surface (by exact down), placed,
      takeToPoint_down (reelDepth_surfaced _) (by exact ahead) (by exact off),
      judgeDepthLimit_within (by exact depthExceeded_at_surface rfl)]
    exact ⟨Keeps.refl _, active, rfl, rfl, rfl⟩
  · subst entry depth weight
    have ahead : (0 : Int) < ((x + s.cable.settings.weightOffset : Nat) : Int) * 1000 := by omega
    have placed := surfaced_placed (s := setSwitches (fun x => { x with bottom := true }) s) motion active sound deep first
      meter
    refine ⟨_, exec_bottomCloses off, ?_⟩
    rw [bottomCloses_seeking motion down, surfaceFound_surface (by exact down), placed,
      takeToPoint_bed (reelDepth_surfaced _) (by exact ahead) (by exact rfl)]
    refine ⟨Keeps.refl _, active, rfl, ?_⟩
    have depth : depthMm (Cableway.placing ((x + s.cable.settings.weightOffset : Nat) : Int)
        (setSwitches (fun x => { x with bottom := true }) s).cable.surfaced) = some 0 :=
      congrArg (Option.map millimetres) (reelDepth_surfaced (setSwitches (fun x => { x with bottom := true }) s).cable)
    rw [State.setCable_cable, Cableway.atPoint, Cableway.driven_of_eq (by exact rfl)]
    exact congrArg (fun shown => { s.cable with
      switches := { s.cable.switches with bottom := true }, surfacePoint := some s.cable.reelCount
      motion := .atPoint, drive := none, stall := none, hold := none, pointDepth := shown, bedStop := true
      settle := some (s.now + s.cable.settings.settleTime * 1000) }) depth

end Sys2Proof.Machine

namespace Sys2Proof.Machine

/-! ## The hold and settle timers (R115, R117) -/

theorem exec_holdTimerExpiry (s : State) : exec .holdTimerExpiry s = .next (holdTimerExpires s) := rfl

theorem exec_settleExpiry (s : State) : exec .settleExpiry s = .next (settleExpires s) := rfl

theorem holdTimerExpires_due {s : State} {e : Nat} (hold : s.cable.hold = some e) (due : e ≤ s.now) :
    holdTimerExpires s = handCompletion (sounded s) :=
  if_pos ((reached_iff _ _).2 ⟨e, hold, due⟩)

theorem holdTimerExpires_early {s : State} {e : Nat} (hold : s.cable.hold = some e) (early : s.now < e) :
    holdTimerExpires s = s := by
  refine if_neg fun due => ?_
  obtain ⟨x, same, reached⟩ := (reached_iff _ _).1 due
  rw [hold] at same
  have := Option.some.inj same
  omega

/-- R115: the carriage SOUNDED. -/
def Cableway.soundedAt (n : Nat) (p : Int) (c : Cableway) : Cableway :=
  { c with hold := none, sounding := some { failed := n, depth := some (millimetres (c.reelCount - p)).toNat } }

theorem sounded_eq {s : State} {n : Nat} {p : Int} (point : s.cable.surfacePoint = some p)
    (sounding : s.cable.sounding = some { failed := n, depth := none }) : sounded s
      = (s.setCable (s.cable.soundedAt n p), some (.sounded (millimetres (s.cable.reelCount - p)).toNat n)) := by
  have depth : depthMm s.cable = some (millimetres (s.cable.reelCount - p)) := by
    rw [depthMm, reelDepth, point]
    rfl
  unfold sounded
  rw [depth, failedAttempts_eq sounding]
  rfl

/-- R130: the vertical in hand with the depth sounded. -/
def depthSounded (s : State) (depth failed : Nat) : InVertical :=
  { s.run.vertical with depth := some depth, depthSource := some .sounded, failed := some failed }

theorem sounded_shallow {s : State} {n : Nat} {p : Int} (motion : s.cable.motion = .seekingBottom .hold)
    (top : s.cable.switches.reelTop = false) (active : s.run.state = .active) (sound : s.run.phase = some .sound)
    (method : (entryInHand s).method ≠ .surface)
    (shallow : (millimetres (s.cable.reelCount - p)).toNat ≤ s.cable.settings.weightOffset) :
    handCompletion (s.setCable (s.cable.soundedAt n p), some (.sounded (millimetres (s.cable.reelCount - p)).toNat n))
      = (s.setRun { s.run with
          phase := some .raise
          vertical := { depthSounded s (millimetres (s.cable.reelCount - p)).toNat n with
            marked := some .shallow } }).setCable ((s.cable.soundedAt n p).raisingUp s.now) := by
  have takes := sequencerTakes_sounded (s := s.setCable (s.cable.soundedAt n p)) active sound
    (millimetres (s.cable.reelCount - p)).toNat n
  rw [judgeDepth_shallow (by exact method) (by exact shallow)] at takes
  exact handCompletion_orders takes (cablewayTakes_raise (by exact .inr (.inl ⟨_, motion⟩)) (by exact top))

theorem sounded_placed {s : State} {n x : Nat} {p : Int} {f : Fraction} {rest : List Fraction} {held : Bool}
    (motion : s.cable.motion = .seekingBottom .hold) (active : s.run.state = .active) (sound : s.run.phase = some .sound)
    (deep : (entryInHand s).method = .surface
      ∨ s.cable.settings.weightOffset < (millimetres (s.cable.reelCount - p)).toNat)
    (first : firstPoint (entryInHand s).method f rest)
    (meter : (x, held) = meterDepth f (millimetres (s.cable.reelCount - p)).toNat s.cable.settings.weightOffset) :
    handCompletion (s.setCable (s.cable.soundedAt n p), some (.sounded (millimetres (s.cable.reelCount - p)).toNat n))
      = takeToPoint ((x + s.cable.settings.weightOffset : Nat) : Int) ((s.setRun { s.run with
          phase := some .place
          vertical := { depthSounded s (millimetres (s.cable.reelCount - p)).toNat n with
            remaining := rest
            point := some { fraction := f, meterDepth := x, clamped := held, bedStop := false } } }).setCable
        (s.cable.soundedAt n p)) := by
  have takes := sequencerTakes_sounded (s := s.setCable (s.cable.soundedAt n p)) active sound
    (millimetres (s.cable.reelCount - p)).toNat n
  have placed := judgeDepth_place (s := setVertical
      (depthSounded (s.setCable (s.cable.soundedAt n p)) (millimetres (s.cable.reelCount - p)).toNat n)
      (s.setCable (s.cable.soundedAt n p)))
    (by exact deep) (fractions_of_firstPoint first) (by exact meter)
  exact handCompletion_orders (takes.trans placed) (cablewayTakes_toPoint (by exact .inr (.inl ⟨motion, rfl⟩)) _)

/-- R117: with the bottom contact closed a placement ends in the carriage alone, at the point or on its way up to it. -/
theorem takeToPoint_settles {s : State} (target : Int) {d : Int} (depth : reelDepth s.cable = some d)
    (bottom : s.cable.switches.bottom = true) : ∃ c : Cableway, takeToPoint target s = s.setCable c
      ∧ (c.motion = .toPoint target ∨ c.motion = .atPoint) := by
  rcases lt_trichotomy d (target * 1000) with above | there | below
  · exact ⟨_, takeToPoint_bed depth above bottom, .inr rfl⟩
  · exact ⟨_, takeToPoint_there depth there, .inr rfl⟩
  · exact ⟨_, takeToPoint_up depth below, .inl rfl⟩

/-! ## The settle time -/

theorem settleDue_iff (s : State) : settleDue s = true ↔ s.cable.motion = .atPoint ∧ ∃ e, s.cable.settle = some e ∧ e ≤ s.now := by
  simp [settleDue, reached_iff]

/-- R117, R131: the point in hand as POINT_READY leaves it. -/
def readied (s : State) : Option PointInHand :=
  s.run.vertical.point.map fun p =>
    if s.cable.bedStop then
      { p with
        meterDepth := atLeastZero (s.cable.pointDepth.getD 0 - s.cable.settings.weightOffset), clamped := true
        bedStop := true }
    else p

theorem settleExpires_ready {s : State} (due : settleDue s = true) (active : s.run.state = .active)
    (place : s.run.phase = some .place) : settleExpires s
      = beginExposure (setVertical { s.run.vertical with point := readied s }
          (s.setCable { s.cable with settle := none })) := by
  have takes : sequencerTakes (.pointReady (s.cable.pointDepth.getD 0) s.cable.bedStop)
      (s.setCable { s.cable with settle := none })
        = (beginExposure (setVertical { s.run.vertical with point := readied s }
          (s.setCable { s.cable with settle := none })), none) := by
    unfold sequencerTakes
    rw [show (s.setCable { s.cable with settle := none }).run.state = .active from active,
      show (s.setCable { s.cable with settle := none }).run.phase = some .place from place]
    rfl
  unfold settleExpires
  rw [if_pos due]
  exact handCompletion_ends takes

theorem readied_off_bed {s : State} (off : s.cable.bedStop = false) : readied s = s.run.vertical.point := by
  rw [readied, off]
  cases s.run.vertical.point <;> rfl

theorem readied_on_bed {s : State} {p : PointInHand} {depth : Int} (bed : s.cable.bedStop = true)
    (point : s.run.vertical.point = some p) (at_ : s.cable.pointDepth = some depth) : readied s = some { p with
      meterDepth := (depth - s.cable.settings.weightOffset).toNat, clamped := true, bedStop := true } := by
  rw [readied, bed, point, at_]
  rfl

/-- Settles O55: the hold and settle timers. -/
theorem holdAndSettle : Obligations.HoldAndSettle := by
  unfold Obligations.HoldAndSettle
  refine ⟨fun s e n p hold point sounding => ⟨fun due idle => ?_, fun due active sound method shallow motion top => ?_,
      fun d offset x f rest held due active sound depth weight deep first meter motion bottom => ?_, fun early => ?_⟩,
    fun s e motion settle => ⟨fun due active place => ?_, fun early => ?_⟩⟩
  · refine ⟨_, exec_holdTimerExpiry s, ?_⟩
    rw [holdTimerExpires_due hold due, sounded_eq point sounding,
      handCompletion_idle (.sounded _ _) (by exact idle) (fun h => nomatch h)]
    rfl
  · refine ⟨_, exec_holdTimerExpiry s, ?_⟩
    rw [holdTimerExpires_due hold due, sounded_eq point sounding, sounded_shallow motion top active sound method shallow]
    exact ⟨active, rfl, rfl, rfl, rfl, rfl, rfl, rfl⟩
  · subst depth weight
    have placed := sounded_placed (n := n) motion active sound deep first meter
    obtain ⟨c, settles, moved⟩ := takeToPoint_settles ((x + s.cable.settings.weightOffset : Nat) : Int)
      (s := (s.setRun { s.run with
          phase := some .place
          vertical := { depthSounded s (millimetres (s.cable.reelCount - p)).toNat n with
            remaining := rest
            point := some { fraction := f, meterDepth := x, clamped := held, bedStop := false } } }).setCable
        (s.cable.soundedAt n p)) (d := s.cable.reelCount - p)
      (congrArg (Option.map fun q => s.cable.reelCount - q) point) bottom
    refine ⟨_, exec_holdTimerExpiry s, ?_⟩
    rw [holdTimerExpires_due hold due, sounded_eq point sounding, placed, settles]
    exact ⟨Keeps.refl _, active, rfl, rfl, moved⟩
  · rw [exec_holdTimerExpiry, holdTimerExpires_early hold early]
  · refine ⟨_, exec_settleExpiry s, ?_⟩
    rw [settleExpires_ready ((settleDue_iff s).2 ⟨motion, e, settle, due⟩) active place]
    refine ⟨Keeps.refl _, rfl, rfl, rfl, rfl, fun off => ?_, fun q depth bed at_ deep => ?_⟩
    · show { s.run.vertical with point := readied s } = _
      rw [readied_off_bed off]
    · show { s.run.vertical with point := readied s } = _
      rw [readied_on_bed bed at_ deep]
  · rw [exec_settleExpiry, settleExpires, if_neg fun due => ?_]
    obtain ⟨-, x, same, reached⟩ := (settleDue_iff s).1 due
    have := Option.some.inj (settle.symm.trans same)
    omega

end Sys2Proof.Machine

namespace Sys2Proof.Machine

/-! ## The exposure (R132, R133) -/

theorem exec_meterContact (s : State) : exec .meterContact s = .next (meterCloses s) := rfl
theorem exec_exposureEnding (s : State) : exec .exposureEnding s = .next (exposureEnds s) := rfl
theorem exec_lateLimitExpiry (s : State) : exec .lateLimitExpiry s = .next (lateLimitExpires s) := rfl
theorem exec_startWaitExpiry (s : State) : exec .startWaitExpiry s = .next (startWaitExpires s) := rfl

theorem meterCloses_exposed {s : State} {e : Exposure} (exposed : s.run.exposure = some e) :
    meterCloses s = handOrder (contactTaken e s) := by
  unfold meterCloses
  rw [exposed]

theorem contactIgnored_iff {e : Exposure} {t0 : Nat} (start : e.start = some t0) (now : Nat) :
    contactIgnored e now = true ↔ now < e.lastCounted.getD t0 + 15 := by
  unfold contactIgnored
  rw [start]
  cases e.lastCounted <;> exact decide_eq_true_iff

theorem contactTaken_chatter {s : State} {e : Exposure} {t0 : Nat} (start : e.start = some t0)
    (soon : s.now < e.lastCounted.getD t0 + 15) : contactTaken e s = (s, none) :=
  if_pos ((contactIgnored_iff start _).2 soon)

theorem contactTaken_first {s : State} {e : Exposure} (waits : e.state = .waitingFirst) (start : e.start = none)
    (last : e.lastCounted = none) : contactTaken e s = (s.setRun { s.run with
      exposure := some { e with state := .counting, start := some s.now, contacts := 0, expiry := none } }, none) := by
  have heard : ¬ contactIgnored e s.now = true := by
    rw [contactIgnored, last, start]
    exact Bool.false_ne_true
  unfold contactTaken
  rw [if_neg heard, waits]

theorem contactTaken_counted {s : State} {e : Exposure} {t0 : Nat} (counting : e.state = .counting)
    (start : e.start = some t0) (apart : e.lastCounted.getD t0 + 15 ≤ s.now) (early : s.now < t0 + e.length) :
    contactTaken e s = (s.setRun { s.run with
      exposure := some { e with contacts := e.contacts + 1, lastCounted := some s.now } }, none) := by
  have heard : ¬ contactIgnored e s.now = true := by
    rw [contactIgnored_iff start]
    omega
  unfold contactTaken
  rw [if_neg heard, start]
  split
  case h_1 waits => exact nomatch counting.symm.trans waits
  case h_2 =>
    dsimp only [Option.getD_some]
    refine if_neg ?_
    rintro (ending | late)
    · exact nomatch counting.symm.trans ending
    · omega

theorem contactTaken_last {s : State} {e : Exposure} {t0 : Nat} (start : e.start = some t0)
    (apart : e.lastCounted.getD t0 + 15 ≤ s.now)
    (late : e.state = .ending ∨ (e.state = .counting ∧ t0 + e.length ≤ s.now)) :
    contactTaken e s = endExposure (pointRecord s (e.contacts + 1) (some (s.now - t0)) false false) s := by
  have heard : ¬ contactIgnored e s.now = true := by
    rw [contactIgnored_iff start]
    omega
  unfold contactTaken
  rw [if_neg heard, start]
  split
  case h_1 waits =>
    rcases late with ending | ⟨counting, -⟩
    · exact nomatch ending.symm.trans waits
    · exact nomatch counting.symm.trans waits
  case h_2 =>
    dsimp only [Option.getD_some]
    exact if_pos (late.imp id And.right)

theorem endingDue_iff {s : State} {e : Exposure} {t0 : Nat} (exposed : s.run.exposure = some e) (start : e.start = some t0) :
    endingDue s = true ↔ e.state = .counting ∧ t0 + e.length ≤ s.now := by
  simp [endingDue, exposed, start]

theorem lateLimitDue_iff {s : State} {e : Exposure} {x : Nat} (exposed : s.run.exposure = some e) (expiry : e.expiry = some x) :
    lateLimitDue s = true ↔ e.state = .ending ∧ x ≤ s.now := by
  simp [lateLimitDue, exposed, reached_iff, expiry]

theorem startWaitDue_iff {s : State} {e : Exposure} {x : Nat} (exposed : s.run.exposure = some e) (expiry : e.expiry = some x) :
    startWaitDue s = true ↔ e.state = .waitingFirst ∧ x ≤ s.now := by
  simp [startWaitDue, exposed, reached_iff, expiry]

theorem lateLimitEnds_counted {s : State} {e : Exposure} {t0 last : Nat} (exposed : s.run.exposure = some e)
    (due : lateLimitDue s = true) (start : e.start = some t0) (counted : e.lastCounted = some last) (some_ : 0 < e.contacts) :
    lateLimitEnds s = endExposure (pointRecord s e.contacts (some (last - t0)) true false) s := by
  unfold lateLimitEnds
  rw [exposed]
  dsimp only
  rw [if_pos due, if_neg (by omega), start, counted]
  rfl

theorem lateLimitEnds_empty {s : State} {e : Exposure} (exposed : s.run.exposure = some e) (due : lateLimitDue s = true)
    (empty : e.contacts = 0) : lateLimitEnds s = endExposure (pointRecord s 0 none true true) s := by
  unfold lateLimitEnds
  rw [exposed]
  dsimp only
  rw [if_pos due, if_pos empty]

theorem startWaitEnds_due {s : State} (due : startWaitDue s = true) :
    startWaitEnds s = endExposure (pointRecord s 0 none false true) s := if_pos due

theorem lateLimitExpires_early {s : State} (early : ¬ lateLimitDue s = true) : lateLimitExpires s = s := by
  have same : lateLimitEnds s = (s, none) := by
    unfold lateLimitEnds
    split
    · exact if_neg early
    · rfl
  rw [lateLimitExpires, same, handOrder_none]

theorem startWaitExpires_early {s : State} (early : ¬ startWaitDue s = true) : startWaitExpires s = s := by
  rw [startWaitExpires, startWaitEnds, if_neg early, handOrder_none]

/-! ### The end of an exposure -/

/-- R133: the exposure over, its record among the points, its span closed. -/
def exposureEnded (r : PointRecord) (s : State) : State :=
  closeExposureSpan (s.setRun { s.run with
    exposure := none, vertical := { s.run.vertical with points := s.run.vertical.points ++ [r] } })

theorem endExposure_eq (r : PointRecord) (s : State) : endExposure r s = placeNext (exposureEnded r s) := rfl

/-- R133: after the last point the weight is raised. -/
theorem endExposure_last {r : PointRecord} {s : State} (remaining : s.run.vertical.remaining = [])
    (motion : s.cable.motion = .atPoint) (top : s.cable.switches.reelTop = false) : handOrder (endExposure r s)
      = ((exposureEnded r s).setRun { (exposureEnded r s).run with
          phase := some .raise, vertical := { (exposureEnded r s).run.vertical with point := none } }).setCable
        (s.cable.raisingUp s.now) := by
  rw [endExposure_eq, placeNext_last (by exact remaining),
    handOrder_raise (by exact .inr (.inr (.inr motion))) (by exact top)]
  rfl

/-- R131, R133: the run as the next point is placed. -/
def nextPlaced (r : PointRecord) (f : Fraction) (rest : List Fraction) (x : Nat) (held : Bool) (s : State) : State :=
  (exposureEnded r s).setRun { (exposureEnded r s).run with
    phase := some .place
    vertical := { (exposureEnded r s).run.vertical with
      remaining := rest
      point := some { fraction := f, meterDepth := x, clamped := held, bedStop := false } } }

theorem endExposure_next {r : PointRecord} {s : State} {f : Fraction} {rest : List Fraction} {x : Nat} {held : Bool}
    (remaining : s.run.vertical.remaining = f :: rest) (motion : s.cable.motion = .atPoint)
    (meter : (x, held) = meterDepth f (s.run.vertical.depth.getD 0) s.cable.settings.weightOffset) :
    handOrder (endExposure r s)
      = takeToPoint ((x + s.cable.settings.weightOffset : Nat) : Int) (nextPlaced r f rest x held s) := by
  rw [endExposure_eq, placeNext_point (s := exposureEnded r s) remaining meter]
  exact handOrder_toPoint (s := nextPlaced r f rest x held s) (.inr (.inr motion)) _

/-- R133: the record of an exposure that ends so. -/
theorem pointRecord_fields (s : State) (n : Nat) (time : Option Nat) (short stalled : Bool) :
    (pointRecord s n time short stalled).contacts = n ∧ (pointRecord s n time short stalled).time = time
      ∧ (pointRecord s n time short stalled).flags.short = short
      ∧ (pointRecord s n time short stalled).flags.stalled = stalled
      ∧ (pointRecord s n time short stalled).flags.timingRC = s.time.exposureSpan.getD false :=
  ⟨rfl, rfl, rfl, rfl, rfl⟩

theorem pointRecord_velocity_le (s : State) (n : Nat) (time : Option Nat) (short stalled : Bool) :
    (pointRecord s n time short stalled).velocity ≤ 9999 := by
  cases time with
  | none => exact Nat.zero_le _
  | some t => exact pointVelocity_le _ _

/-- R133: an exposure that ends by its last contact, by the late limit or by the start wait. -/
def endsExposure (s : State) (e : Exposure) (c : Instr) (n : Nat) (time : Option Nat) (short stalled : Bool) : Prop :=
  (c = .meterContact ∧ n = e.contacts + 1 ∧ short = false ∧ stalled = false ∧ ∃ t0, e.start = some t0
      ∧ e.lastCounted.getD t0 + 15 ≤ s.now ∧ time = some (s.now - t0)
      ∧ (e.state = .ending ∨ (e.state = .counting ∧ t0 + e.length ≤ s.now)))
    ∨ (c = .lateLimitExpiry ∧ n = e.contacts ∧ short = true ∧ e.state = .ending
      ∧ (∃ k, e.expiry = some k ∧ k ≤ s.now)
      ∧ ((n = 0 ∧ stalled = true ∧ time = none) ∨ (0 < n ∧ stalled = false ∧ ∃ t0 last, e.start = some t0
          ∧ e.lastCounted = some last ∧ time = some (last - t0))))
    ∨ (c = .startWaitExpiry ∧ n = 0 ∧ short = false ∧ stalled = true ∧ time = none ∧ e.state = .waitingFirst
      ∧ ∃ k, e.expiry = some k ∧ k ≤ s.now)

theorem exec_endsExposure {s : State} {e : Exposure} {c : Instr} {n : Nat} {time : Option Nat} {short stalled : Bool}
    (exposed : s.run.exposure = some e) (ends : endsExposure s e c n time short stalled) :
    exec c s = .next (handOrder (endExposure (pointRecord s n time short stalled) s)) := by
  obtain ⟨rfl, rfl, rfl, rfl, t0, start, apart, rfl, late⟩ | ⟨rfl, rfl, rfl, ending, ⟨k, expiry, due⟩, contacts⟩
    | ⟨rfl, rfl, rfl, rfl, rfl, waits, k, expiry, due⟩ := ends
  · rw [exec_meterContact, meterCloses_exposed exposed, contactTaken_last start apart late]
  · have isDue := (lateLimitDue_iff exposed expiry).2 ⟨ending, due⟩
    obtain ⟨empty, rfl, rfl⟩ | ⟨some_, rfl, t0, last, start, counted, rfl⟩ := contacts
    · rw [exec_lateLimitExpiry, lateLimitExpires, lateLimitEnds_empty exposed isDue empty, empty]
    · rw [exec_lateLimitExpiry, lateLimitExpires, lateLimitEnds_counted exposed isDue start counted some_]
  · rw [exec_startWaitExpiry, startWaitExpires, startWaitEnds_due ((startWaitDue_iff exposed expiry).2 ⟨waits, due⟩)]

/-! ### A placement that goes too deep (R119) -/

theorem sequencerFault_unexposed {s : State} (unexposed : s.run.exposure = none) :
    (sequencerFault s).run.exposure = none ∧ (sequencerFault s).time = s.time := by
  unfold sequencerFault
  split
  · refine ⟨?_, ?_⟩
    · rw [endAbortedReturn_run, abortCore_run]
    · exact (raise_time _ _ _).trans ((abortCore_time _ _).trans (if_pos unexposed))
  · refine ⟨?_, completeRun_time _ _⟩
    rw [completeRun_run]
    exact unexposed
  · split
    · refine ⟨?_, raise_time _ _ _⟩
      rw [endAbortedReturn_run]
      exact unexposed
    · exact ⟨unexposed, rfl⟩
  · exact ⟨unexposed, rfl⟩

theorem takeFault_unexposed {s : State} (c : FaultCause) (unexposed : s.run.exposure = none) :
    (takeFault c s).run.exposure = none ∧ (takeFault c s).time = s.time := by
  obtain ⟨exposure, time⟩ := sequencerFault_unexposed (s := enterFaulted c s) unexposed
  rw [takeFault, raise_run, raise_time]
  exact ⟨exposure, time⟩

theorem Cableway.placing_atPoint {c : Cableway} {shown : Int} (still : c.drive = none) (calm : c.stall = none)
    (depth : depthMm c = some shown) (now : Nat) (target : Int) (bed : Bool) : (c.placing target).atPoint now bed = { c with
      motion := .atPoint, drive := none, hold := none, stall := none
      settle := some (now + c.settings.settleTime * 1000), pointDepth := some shown, bedStop := bed } := by
  have same : depthMm (c.placing target) = some shown := depth
  rw [Cableway.atPoint, same, Cableway.driven_of_eq (by exact still), Cableway.placing, still, calm]

theorem Cableway.placing_driven {c : Cableway} (still : c.drive = none) (now : Nat) (target : Int) (d : Drive) :
    (c.placing target).driven now (some d) = { c with
      motion := .toPoint target, drive := some d, hold := none, settle := none
      stall := some (now + c.settings.stallTime * 1000) } := by
  rw [Cableway.driven_some_of_none (by exact still)]
  rfl

/-- Settles O56: the course of an exposure. -/
theorem exposureCourse : Obligations.ExposureCourse := by
  unfold Obligations.ExposureCourse
  refine ⟨⟨fun s e exposed => ⟨fun waits start last => ?_, fun t0 last start same soon => ?_,
      fun t0 last counting start same apart early => ?_, fun t0 last start late same apart remaining motion top => ?_,
      fun t0 counting start due => ?_, fun t0 start early => ?_⟩, fun s unexposed => ?_⟩,
    fun s e x exposed expiry remaining motion top => ⟨fun t0 last due ending start counted some_ => ?_,
      fun due ending empty => ?_, fun due waits => ?_, fun early => ?_⟩,
    fun s e c n time short stalled f rest x held p target point deep exposed motion still calm top surface remaining placed
      meter at_ deepIff ends => ⟨fun isDeep => ?_, fun notDeep => ?_⟩⟩
  · rw [exec_meterContact, meterCloses_exposed exposed, contactTaken_first waits start last, handOrder_none]
  · rw [exec_meterContact, meterCloses_exposed exposed, contactTaken_chatter start (same ▸ soon), handOrder_none]
  · rw [exec_meterContact, meterCloses_exposed exposed, contactTaken_counted counting start (same ▸ apart) early,
      handOrder_none]
  · refine ⟨_, pointRecord s (e.contacts + 1) (some (s.now - t0)) false false, exec_endsExposure (c := .meterContact) exposed
      (.inl ⟨rfl, rfl, rfl, rfl, t0, start, same ▸ apart, rfl, late⟩), ?_⟩
    rw [endExposure_last remaining motion top]
    exact ⟨rfl, rfl, rfl, rfl, rfl, rfl, pointRecord_velocity_le _ _ _ _ _, rfl, rfl, rfl, rfl, rfl⟩
  · rw [exec_exposureEnding, exposureEnds, exposed]
    dsimp only
    rw [if_pos ((endingDue_iff exposed start).2 ⟨counting, due⟩), start]
    rfl
  · have notDue : ¬ endingDue s = true := by
      rw [endingDue_iff exposed start]
      rintro ⟨-, due⟩
      omega
    rw [exec_exposureEnding, exposureEnds, exposed]
    dsimp only
    rw [if_neg notDue]
  · refine ⟨?_, ?_, ?_, ?_⟩
    · rw [exec_meterContact, meterCloses, unexposed]
    · rw [exec_exposureEnding, exposureEnds, unexposed]
    · rw [exec_lateLimitExpiry, lateLimitExpires_early (by simp [lateLimitDue, unexposed])]
    · rw [exec_startWaitExpiry, startWaitExpires_early (by simp [startWaitDue, unexposed])]
  · refine ⟨_, pointRecord s e.contacts (some (last - t0)) true false, exec_endsExposure (c := .lateLimitExpiry) exposed
      (.inr (.inl ⟨rfl, rfl, rfl, ending, ⟨x, expiry, due⟩, .inr ⟨some_, rfl, t0, last, start, counted, rfl⟩⟩)), ?_⟩
    rw [endExposure_last remaining motion top]
    exact ⟨rfl, rfl, rfl, rfl, rfl, rfl, rfl, rfl⟩
  · refine ⟨_, pointRecord s 0 none true true, exec_endsExposure (c := .lateLimitExpiry) exposed
      (.inr (.inl ⟨rfl, empty.symm, rfl, ending, ⟨x, expiry, due⟩, .inl ⟨rfl, rfl, rfl⟩⟩)), ?_⟩
    rw [endExposure_last remaining motion top]
    exact ⟨rfl, rfl, rfl, rfl, rfl, rfl, rfl, rfl, rfl, rfl⟩
  · refine ⟨_, pointRecord s 0 none false true, exec_endsExposure (c := .startWaitExpiry) exposed
      (.inr (.inr ⟨rfl, rfl, rfl, rfl, rfl, waits, x, expiry, due⟩)), ?_⟩
    rw [endExposure_last remaining motion top]
    exact ⟨rfl, rfl, rfl, rfl, rfl, rfl, rfl, rfl, rfl, rfl⟩
  · refine ⟨?_, ?_⟩
    · rw [exec_lateLimitExpiry, lateLimitExpires_early]
      rw [lateLimitDue_iff exposed expiry]
      rintro ⟨-, due⟩
      omega
    · rw [exec_startWaitExpiry, startWaitExpires_early]
      rw [startWaitDue_iff exposed expiry]
      rintro ⟨-, due⟩
      omega
  · subst at_
    obtain ⟨above, clear, limit, most, beyond⟩ := deepIff.1 isDeep
    have goes := takeToPoint_down (s := nextPlaced (pointRecord s n time short stalled) f rest x held s)
      (congrArg (Option.map fun q => s.cable.reelCount - q) surface) above clear
    have tooDeep : depthExceeded ((s.cable.placing ((x + s.cable.settings.weightOffset : Nat) : Int)).driven s.now
        (some .reelDown)) = true :=
      (depthExceeded_iff _).2 ⟨rfl, clear, _, limit, congrArg (Option.map fun q => s.cable.reelCount - q) surface, most, beyond⟩
    obtain ⟨-, cable, -, aborted, -⟩ := takeFault_faults .depthLimit
      ((nextPlaced (pointRecord s n time short stalled) f rest x held s).setCable
        ((s.cable.placing ((x + s.cable.settings.weightOffset : Nat) : Int)).driven s.now (some .reelDown)))
    obtain ⟨exposure, toTime⟩ := takeFault_unexposed .depthLimit
      (s := (nextPlaced (pointRecord s n time short stalled) f rest x held s).setCable
        ((s.cable.placing ((x + s.cable.settings.weightOffset : Nat) : Int)).driven s.now (some .reelDown))) rfl
    refine ⟨_, exec_endsExposure exposed ends, ?_⟩
    rw [endExposure_next remaining motion meter, goes]
    have faults := judgeDepthLimit_beyond (s := (nextPlaced (pointRecord s n time short stalled) f rest x held s).setCable
        ((s.cable.placing ((x + s.cable.settings.weightOffset : Nat) : Int)).driven s.now (some .reelDown))) tooDeep
    refine faults ▸ ⟨?_, ?_, exposure, ?_, toTime, fun active => ?_⟩
    · rw [cable]
    · rw [cable]
    · rw [cable]
      rfl
    · obtain ⟨-, state, reason, -⟩ := aborted active
      exact ⟨state, reason⟩
  · subst at_
    have depth : reelDepth (nextPlaced (pointRecord s n time short stalled) f rest x held s).cable
        = some (s.cable.reelCount - p) := congrArg (Option.map fun q => s.cable.reelCount - q) surface
    have shown : depthMm s.cable = some (millimetres (s.cable.reelCount - p)) := congrArg (Option.map millimetres) depth
    have fraction : (pointRecord s n time short stalled).fraction = point.fraction := by
      simp only [pointRecord, placed, Option.getD_some]
    have depthHeld : (pointRecord s n time short stalled).meterDepth = point.meterDepth := by
      simp only [pointRecord, placed, Option.getD_some]
    obtain ⟨contacts, timed, shortened, stall, timing⟩ := pointRecord_fields s n time short stalled
    rw [exec_endsExposure exposed ends, endExposure_next remaining motion meter]
    rcases lt_trichotomy (s.cable.reelCount - p) (((x + s.cable.settings.weightOffset : Nat) : Int) * 1000)
      with above | there | below
    · cases bottom : s.cable.switches.bottom
      case true =>
        rw [takeToPoint_bed depth above bottom]
        refine ⟨_, pointRecord s n time short stalled, rfl, Keeps.refl _, contacts, timed, shortened, stall, fraction,
          depthHeld, timing, rfl, rfl, rfl, fun below => by omega, fun _ => ?_, fun _ clear => nomatch clear⟩
        rw [decide_eq_true above]
        exact Cableway.placing_atPoint still calm shown _ _ _
      case false =>
        have within : ¬ depthExceeded ((s.cable.placing ((x + s.cable.settings.weightOffset : Nat) : Int)).driven s.now
            (some .reelDown)) = true := by
          rw [depthExceeded_iff]
          rintro ⟨-, -, d, limit, there, most, beyond⟩
          obtain rfl : s.cable.reelCount - p = d := Option.some.inj (depth.symm.trans there)
          exact notDeep (deepIff.2 ⟨above, bottom, limit, most, beyond⟩)
        have stays := judgeDepthLimit_within (s := (nextPlaced (pointRecord s n time short stalled) f rest x held s).setCable
          ((s.cable.placing ((x + s.cable.settings.weightOffset : Nat) : Int)).driven s.now (some .reelDown))) within
        refine ⟨_, pointRecord s n time short stalled,
          congrArg Host.Outcome.next ((takeToPoint_down depth above bottom).trans stays), Keeps.refl _, contacts, timed,
          shortened, stall, fraction, depthHeld, timing, rfl, rfl, rfl, fun below => by omega,
          ?_, fun _ _ => ?_⟩
        · rintro (there | ⟨-, closed⟩)
          · omega
          · exact nomatch closed
        · exact Cableway.placing_driven still _ _ _
    · rw [takeToPoint_there depth there]
      refine ⟨_, pointRecord s n time short stalled, rfl, Keeps.refl _, contacts, timed, shortened, stall, fraction, depthHeld,
        timing, rfl, rfl, rfl, fun below => by omega, fun _ => ?_, fun above => by omega⟩
      rw [decide_eq_false (by omega)]
      exact Cableway.placing_atPoint still calm shown _ _ _
    · rw [takeToPoint_up depth below]
      refine ⟨_, pointRecord s n time short stalled, rfl, Keeps.refl _, contacts, timed, shortened, stall, fraction, depthHeld,
        timing, rfl, rfl, rfl, fun _ => ?_, fun other => by omega, fun above => by omega⟩
      exact Cableway.placing_driven still _ _ _

end Sys2Proof.Machine

namespace Sys2Proof.Machine

/-! ## From one vertical to the next (R129, R136) -/

theorem goOn_next {s : State} (more : s.run.vertical.index < s.gauging.plan.entries.length) : goOn s
    = (s.setRun { s.run with phase := some .travel, vertical := freshVertical (s.run.vertical.index + 1) },
      some (.travel (planEntry s (s.run.vertical.index + 1)).distance)) := by
  unfold goOn
  dsimp only
  rw [if_neg (Nat.not_le.2 more)]
  rfl

theorem goOn_last {s : State} (last : s.gauging.plan.entries.length ≤ s.run.vertical.index) : goOn s
    = (s.setRun { s.run with
        state := .returning, outcome := some .inProgress, phase := none, vertical := noVertical }, some .retract) :=
  if_pos last

/-- R135, R136: the vertical in hand stored and the next one taken in hand. -/
def takenOn (k : Option SkipReason) (s : State) : State :=
  (storeVertical k s).setRun { (storeVertical k s).run with
    phase := some .travel, vertical := freshVertical (s.run.vertical.index + 1) }

/-- R135, R136: the vertical in hand stored, the last of the run. -/
def takenBack (k : Option SkipReason) (s : State) : State :=
  (storeVertical k s).setRun { (storeVertical k s).run with
    state := .returning, outcome := some .inProgress, phase := none, vertical := noVertical }

theorem goOn_stored_next {k : Option SkipReason} {s : State}
    (more : s.run.vertical.index < s.gauging.plan.entries.length) : goOn (storeVertical k s)
      = (takenOn k s, some (.travel (planEntry s (s.run.vertical.index + 1)).distance)) := by
  have vertical : (storeVertical k s).run.vertical = s.run.vertical := by rw [storeVertical_run]
  have plan := storeVertical_plan k s
  rw [goOn_next (by rw [vertical, plan]; exact more), planEntry, planEntry, plan, vertical]
  rfl

theorem goOn_stored_last {k : Option SkipReason} {s : State}
    (last : s.gauging.plan.entries.length ≤ s.run.vertical.index) :
    goOn (storeVertical k s) = (takenBack k s, some .retract) :=
  goOn_last (by rw [storeVertical_plan, storeVertical_run]; exact last)

theorem storeVertical_told (k : Option SkipReason) (s : State) :
    s.Told (storeVertical k s) .runProgress (s.progressOf (verticalResult s k) s.run.state) := by
  rw [storeVertical_eq_raise]
  exact told_raise .runProgress _ (s.setRun { s.run with verticals := s.run.verticals ++ [verticalResult s k] }) (by decide)

theorem takenOn_run (k : Option SkipReason) (s : State) : (takenOn k s).run = { s.run with
    phase := some .travel, vertical := freshVertical (s.run.vertical.index + 1)
    verticals := s.run.verticals ++ [verticalResult s k] } := by
  show { (storeVertical k s).run with
    phase := some .travel, vertical := freshVertical (s.run.vertical.index + 1) } = _
  rw [storeVertical_run]

theorem takenBack_run (k : Option SkipReason) (s : State) : (takenBack k s).run = { s.run with
    state := .returning, outcome := some .inProgress, phase := none, vertical := noVertical
    verticals := s.run.verticals ++ [verticalResult s k] } := by
  show { (storeVertical k s).run with
    state := .returning, outcome := some .inProgress, phase := none, vertical := noVertical } = _
  rw [storeVertical_run]

theorem RunOnly.takenOn (k : Option SkipReason) (s : State) : RunOnly s (takenOn k s) :=
  (RunOnly.storeVertical s k).trans (RunOnly.setRun _ _)

theorem RunOnly.takenBack (k : Option SkipReason) (s : State) : RunOnly s (takenBack k s) :=
  (RunOnly.storeVertical s k).trans (RunOnly.setRun _ _)

/-! ### The carriage follows -/

/-- R113: a completion that has the vertical in hand stored, and the carriage travel out to the next entry. -/
theorem handCompletion_travels {s u : State} {c : Completion} {k : Option SkipReason}
    (takes : sequencerTakes c s = goOn (storeVertical k u))
    (more : u.run.vertical.index < u.gauging.plan.entries.length)
    (stands : u.cable.motion = .parked ∨ u.cable.motion = .atVertical) (still : u.cable.drive = none)
    (beyond : u.cable.traverseCount + u.cable.settings.tolerance * 1000
      < ((planEntry u (u.run.vertical.index + 1)).distance : Int) * 1000)
    (clear : u.cable.switches.farLimit = false) : handCompletion (s, some c)
      = (takenOn k u).setCable (u.cable.travelling u.now (planEntry u (u.run.vertical.index + 1)).distance) := by
  have cable : (takenOn k u).cable = u.cable := storeVertical_cable k u
  have now : (takenOn k u).now = u.now := storeVertical_now k u
  have travels := cablewayTakes_travelOut (s := takenOn k u) (by rw [cable]; exact stands) (by rw [cable]; exact still)
    (by rw [cable]; exact beyond) (by rw [cable]; exact clear)
  rw [cable, now] at travels
  exact handCompletion_orders (takes.trans (goOn_stored_next more)) travels

/-- R118: the carriage on its way home with the weight up. -/
def Cableway.retractingIn (now : Nat) (c : Cableway) : Cableway :=
  { c with
    motion := .retracting, drive := some .traverseIn, stall := some (now + c.settings.stallTime * 1000), hold := none
    settle := none }

theorem pursue_retracting_in {s : State} (top : s.cable.switches.reelTop = true)
    (clear : s.cable.switches.homeLimit = false) :
    pursue (retracting s) = (s.setCable (s.cable.retractingIn s.now), none) := by
  have cable : (retracting s).cable
      = { s.cable.driven s.now none with hold := none, settle := none, motion := .retracting } := by
    rw [retracting, stillCarriage_eq]
    rfl
  have drives : setDrive (some .traverseIn) (retracting s) = s.setCable (s.cable.retractingIn s.now) := by
    rw [setDrive_eq, cable, Cableway.driven_some_of_none (by exact rfl), retracting, stillCarriage_eq]
    rfl
  unfold pursue
  rw [show (retracting s).cable.motion = .retracting from rfl]
  dsimp only
  rw [if_neg (by rw [cable]; simp [Cableway.driven, top]), if_neg (by rw [cable]; simp [Cableway.driven, clear]), drives]

/-- R136: a completion that has the last vertical stored, and the carriage retract to home. -/
theorem handCompletion_returns {s u : State} {c : Completion} {k : Option SkipReason}
    (takes : sequencerTakes c s = goOn (storeVertical k u))
    (last : u.gauging.plan.entries.length ≤ u.run.vertical.index) (stands : u.cable.motion = .atVertical)
    (top : u.cable.switches.reelTop = true) (clear : u.cable.switches.homeLimit = false) :
    handCompletion (s, some c) = (takenBack k u).setCable (u.cable.retractingIn u.now) := by
  have cable : (takenBack k u).cable = u.cable := storeVertical_cable k u
  have now : (takenBack k u).now = u.now := storeVertical_now k u
  have order : cablewayTakes .retract (takenBack k u) = pursue (retracting (takenBack k u)) := by
    unfold cablewayTakes
    rw [cable, stands]
    rfl
  have retracts := pursue_retracting_in (s := takenBack k u) (by rw [cable]; exact top) (by rw [cable]; exact clear)
  rw [cable, now] at retracts
  exact handCompletion_orders (takes.trans (goOn_stored_last last)) (order.trans retracts)

/-! ### As statements say it -/

section

variable {s : State} {c : Cableway} {x : InVertical} {v : VerticalResult} {k : Option SkipReason}

/-- The state in which a vertical is stored: the carriage moved, the vertical in hand noted. -/
def storing (s : State) (c : Cableway) (x : InVertical) : State :=
  (s.setRun { s.run with vertical := x }).setCable c

theorem storing_told (active : s.run.state = .active)
    (result : verticalResult (storing s c x) k = v) :
    s.Told (storeVertical k (storing s c x)) .runProgress (s.progressOf v .active) := by
  have told := storeVertical_told k (storing s c x)
  have content : (storing s c x).progressOf v .active = s.progressOf v .active := progressOf_congr rfl rfl rfl rfl v .active
  rw [result, show (storing s c x).run.state = .active from active, content] at told
  exact told.congr rfl rfl rfl

/-- R129, R135, R145: an ACTIVE run that goes on. -/
theorem takenOn_goesOn (index : x.index = s.run.vertical.index) (active : s.run.state = .active)
    (top : c.switches.reelTop = true) (settings : c.settings = s.cable.settings)
    (result : verticalResult (storing s c x) k = v) :
    ((s.setGauging (takenOn k (storing s c x)).gauging).setCable
        (c.travelling s.now (planEntry s (s.run.vertical.index + 1)).distance)).Keeps
      ((takenOn k (storing s c x)).setCable (c.travelling s.now (planEntry s (s.run.vertical.index + 1)).distance))
    ∧ s.GoesOn
      ((takenOn k (storing s c x)).setCable (c.travelling s.now (planEntry s (s.run.vertical.index + 1)).distance)) v := by
  have run := takenOn_run k (storing s c x)
  have told := storing_told (c := c) active result
  rw [result] at run
  have moved : RunOnly (s.setCable c) (storing s c x) := RunOnly.setRun (s.setCable c) _
  have time : (takenOn k (storing s c x)).time = s.time := storeVertical_time k (storing s c x)
  refine ⟨(moved.trans (RunOnly.takenOn k (storing s c x))).keeps time |>.setCable _, ?_, ?_, ?_, ?_, ?_, ?_, ?_, ?_, ?_⟩
  · exact (RunOnly.takenOn k (storing s c x)).plan
  · exact (congrArg Run.state run).trans active
  · exact congrArg Run.phase run
  · exact (congrArg Run.vertical run).trans (congrArg (fun i => freshVertical (i + 1)) index)
  · exact congrArg Run.verticals run
  · rfl
  · show some (if c.switches.reelTop = true then _ else _) = _
    rw [if_pos top]
  · show some (s.now + c.settings.stallTime * 1000) = _
    rw [settings]
  · exact told.congr rfl rfl rfl

/-- R135, R136, R145: an ACTIVE run that returns. -/
theorem takenBack_returns (active : s.run.state = .active)
    (settings : c.settings = s.cable.settings) (result : verticalResult (storing s c x) k = v) :
    ((s.setGauging (takenBack k (storing s c x)).gauging).setCable (c.retractingIn s.now)).Keeps
      ((takenBack k (storing s c x)).setCable (c.retractingIn s.now))
    ∧ s.Returns ((takenBack k (storing s c x)).setCable (c.retractingIn s.now)) v := by
  have run := takenBack_run k (storing s c x)
  have told := storing_told (c := c) active result
  rw [result] at run
  have moved : RunOnly (s.setCable c) (storing s c x) := RunOnly.setRun (s.setCable c) _
  have time : (takenBack k (storing s c x)).time = s.time := storeVertical_time k (storing s c x)
  refine ⟨(moved.trans (RunOnly.takenBack k (storing s c x))).keeps time |>.setCable _, ?_, ?_, ?_, ?_, ?_, ?_, ?_, ?_, ?_, ?_⟩
  · exact (RunOnly.takenBack k (storing s c x)).plan
  · exact congrArg Run.state run
  · exact congrArg Run.outcome run
  · exact congrArg Run.phase run
  · exact congrArg Run.vertical run
  · exact congrArg Run.verticals run
  · rfl
  · rfl
  · show some (s.now + c.settings.stallTime * 1000) = _
    rw [settings]
  · exact told.congr rfl rfl rfl

end

/-! ## ARRIVED (R129) -/

theorem sequencerTakes_arrived {s : State} (active : s.run.state = .active) (travel : s.run.phase = some .travel) (p : Int) :
    sequencerTakes (.arrived p) s = takeArrived p s := by
  unfold sequencerTakes
  rw [active, travel]

theorem takeArrived_sound {s : State} (p : Int) (unmarked : s.run.vertical.skipMark = false)
    (method : (entryInHand s).method ≠ .edge) : takeArrived p s
      = (s.setRun { s.run with phase := some .sound, vertical := { s.run.vertical with arrival := some p } },
        some (.sound (if (entryInHand s).method = .surface ∨ (entryInHand s).depth.isSome = true then .surface else .full))) := by
  unfold takeArrived
  dsimp only
  rw [if_neg (by rw [unmarked]; exact Bool.false_ne_true)]
  split
  case h_1 edge => exact absurd edge method
  case h_2 => rfl

theorem takeArrived_skip {s : State} (p : Int) (marked : s.run.vertical.skipMark = true) : takeArrived p s
    = goOn (storeVertical (some .byRequest) (setVertical { s.run.vertical with arrival := some p } s)) := if_pos marked

theorem takeArrived_edge {s : State} (p : Int) (unmarked : s.run.vertical.skipMark = false)
    (method : (entryInHand s).method = .edge) : takeArrived p s
      = goOn (storeVertical none (setVertical { s.run.vertical with
          arrival := some p, depth := some ((entryInHand s).depth.getD 0), depthSource := some .edge } s)) := by
  unfold takeArrived
  dsimp only
  rw [if_neg (by rw [unmarked]; exact Bool.false_ne_true), method]

/-- R113: the carriage arrived at a position. -/
def Cableway.arrivedAt (p : Int) (c : Cableway) : Cableway :=
  { c with
    traverseCount := p, motion := .atVertical, drive := none, stall := none, arrival := some (millimetres p) }

end Sys2Proof.Machine

namespace Sys2Proof.Machine

/-! ## Encoder pulses (R106, R110) -/

theorem exec_traversePulse (outward : Bool) (s : State) : exec (.traversePulse outward) s = .next (traverseMoves outward s) :=
  rfl

theorem exec_reelPulse (down : Bool) (s : State) : exec (.reelPulse down) s = .next (reelMoves down s) := rfl

theorem drivesTraverse_iff (d : Option Drive) :
    drivesTraverse d = true ↔ d = some .traverseOut ∨ d = some .traverseIn := by
  cases d with
  | none => simp [drivesTraverse]
  | some d => cases d <;> simp [drivesTraverse]

theorem drivesReel_iff (d : Option Drive) : drivesReel d = true ↔ d = some .reelDown ∨ d = some .reelUp := by
  cases d with
  | none => simp [drivesReel]
  | some d => cases d <;> simp [drivesReel]

/-- R110: the stall timer of a driven axis restarted. -/
def Cableway.restarted (now : Nat) (driven : Bool) (c : Cableway) : Cableway :=
  { c with stall := if driven = true then some (now + c.settings.stallTime * 1000) else c.stall }

theorem restartStall_eq (driven : Bool) (s : State) :
    restartStall driven s = s.setCable (s.cable.restarted s.now driven) := by cases driven <;> rfl

theorem traverseMoves_eq (outward : Bool) (s : State) {p : Int}
    (count : countTraverse outward s.cable = { s.cable with traverseCount := p }) : traverseMoves outward s
      = handCompletion (traverseJudged (s.setCable
          (({ s.cable with traverseCount := p } : Cableway).restarted s.now (drivesTraverse s.cable.drive)))) := by
  unfold traverseMoves
  rw [restartStall_eq, count]
  rfl

/-- R113: a pulse that brings about no arrival is counted, and no more. -/
theorem traverseJudged_none {s : State} (off : ∀ target, s.cable.motion = .travelling target →
      drivesTraverse s.cable.drive = false ∨ ¬ withinTolerance s.cable target = true) :
    handCompletion (traverseJudged s) = s := by
  have same : traverseJudged s = (s, none) := by
    unfold traverseJudged
    split
    case h_1 target motion =>
      refine if_neg ?_
      rw [Bool.and_eq_true]
      rintro ⟨drives, near⟩
      rcases off target motion with still | far
      · exact nomatch drives.symm.trans still
      · exact far near
    case h_2 => rfl
  rw [same, handCompletion_none]

/-- R113: the pulse that brings a travel within its tolerance. -/
theorem traverseMoves_arrives {outward : Bool} {s : State} {p : Int} {target : Nat}
    (count : countTraverse outward s.cable = { s.cable with traverseCount := p })
    (motion : s.cable.motion = .travelling target) (drives : drivesTraverse s.cable.drive = true)
    (known : s.cable.positionKnown = true)
    (near : (p - (target : Int) * 1000).natAbs ≤ s.cable.settings.tolerance * 1000) : traverseMoves outward s
      = handCompletion (s.setCable (s.cable.arrivedAt p), some (.arrived (millimetres p))) := by
  obtain ⟨d, drive⟩ : ∃ d, s.cable.drive = some d := by
    rcases (drivesTraverse_iff _).1 drives with out | inward
    · exact ⟨_, out⟩
    · exact ⟨_, inward⟩
  have within : withinTolerance (({ s.cable with traverseCount := p } : Cableway).restarted s.now
      (drivesTraverse s.cable.drive)) target = true := (withinTolerance_iff _ _).2 ⟨known, near⟩
  rw [traverseMoves_eq outward s count]
  unfold traverseJudged
  rw [show (s.setCable (({ s.cable with traverseCount := p } : Cableway).restarted s.now
    (drivesTraverse s.cable.drive))).cable.motion = .travelling target from motion]
  dsimp only
  rw [if_pos (by rw [Bool.and_eq_true]; exact ⟨drives, within⟩), arrive_eq, Cableway.arrived,
    Cableway.driven_none (c := (s.setCable (({ s.cable with traverseCount := p } : Cableway).restarted s.now
      (drivesTraverse s.cable.drive))).cable) (d := d) drive]
  rfl

theorem reelMoves_eq (down : Bool) (s : State) {q : Int}
    (count : countReel down s.cable = { s.cable with reelCount := q }) : reelMoves down s
      = reelJudged (s.setCable
          (({ s.cable with reelCount := q } : Cableway).restarted s.now (drivesReel s.cable.drive))) := by
  unfold reelMoves
  rw [restartStall_eq, count]
  rfl

theorem reelJudged_other {s : State} (surface : ∀ x, s.cable.motion ≠ .seekingSurface x)
    (seek : s.cable.motion ≠ .seekingBottom .seek) (bounce : ∀ opened, s.cable.motion ≠ .seekingBottom (.bounce opened))
    (point : ∀ target, s.cable.motion ≠ .toPoint target) : reelJudged s = s := by
  unfold reelJudged
  split
  case h_1 x motion => exact absurd motion (surface x)
  case h_2 motion => exact absurd motion seek
  case h_3 opened motion => exact absurd motion (bounce opened)
  case h_4 target motion => exact absurd motion (point target)
  case h_5 => rfl

theorem reelJudged_surface {s : State} {x : SoundMode} (motion : s.cable.motion = .seekingSurface x)
    (within : s.cable.drive ≠ some .reelDown ∨ s.cable.reelCount < 30000000) : reelJudged s = s := by
  unfold reelJudged
  rw [motion]
  refine if_neg ?_
  rintro ⟨down, out⟩
  have reached : 30000000 ≤ s.cable.reelCount := of_decide_eq_true out
  rcases within with still | short
  · exact still down
  · omega

theorem reelJudged_noSurface {s : State} {x : SoundMode} (motion : s.cable.motion = .seekingSurface x)
    (down : s.cable.drive = some .reelDown) (out : 30000000 ≤ s.cable.reelCount) :
    reelJudged s = takeFault .noSurface s := by
  unfold reelJudged
  rw [motion]
  exact if_pos ⟨down, decide_eq_true out⟩

theorem reelJudged_seek {s : State} (motion : s.cable.motion = .seekingBottom .seek) : reelJudged s = judgeDepthLimit s := by
  unfold reelJudged
  rw [motion]

theorem pointReached_iff {c : Cableway} {d : Int} (depth : reelDepth c = some d) (target : Int) :
    pointReached target c = true ↔ (c.drive = some .reelDown ∧ target * 1000 ≤ d)
      ∨ (c.drive = some .reelUp ∧ d ≤ target * 1000) := by
  unfold pointReached
  rw [depth]
  split
  case h_1 x same drive => simp [drive, Option.some.inj same]
  case h_2 x same drive => simp [drive, Option.some.inj same]
  case h_3 notDown notUp =>
    refine ⟨fun h => absurd h Bool.false_ne_true, ?_⟩
    rintro (⟨down, -⟩ | ⟨up, -⟩)
    · exact absurd down (notDown d rfl)
    · exact absurd up (notUp d rfl)

theorem reelJudged_reached {s : State} {target : Int} (motion : s.cable.motion = .toPoint target)
    (reached : pointReached target s.cable = true) : reelJudged s = enterAtPoint false s := by
  unfold reelJudged
  rw [motion]
  exact if_pos reached

theorem reelJudged_underWay {s : State} {target : Int} (motion : s.cable.motion = .toPoint target)
    (short : ¬ pointReached target s.cable = true) : reelJudged s = judgeDepthLimit s := by
  unfold reelJudged
  rw [motion]
  exact if_neg short

theorem bounceOver_iff {c : Cableway} {d : Int} (depth : reelDepth c = some d) (opened : Int) :
    bounceOver opened c = true ↔ d ≤ opened - 300000 ∨ d ≤ 0 := by
  unfold bounceOver
  rw [depth]
  exact decide_eq_true_iff

theorem reelJudged_bounces {s : State} {opened : Int} (motion : s.cable.motion = .seekingBottom (.bounce opened))
    (going : ¬ bounceOver opened s.cable = true) : reelJudged s = s := by
  unfold reelJudged
  rw [motion]
  exact if_neg going

theorem reelJudged_bounced {s : State} {opened : Int} (motion : s.cable.motion = .seekingBottom (.bounce opened))
    (ended : bounceOver opened s.cable = true) : reelJudged s = enterSeek s := by
  unfold reelJudged
  rw [motion]
  exact if_pos ended

/-! ## SOUND (R114) -/

/-- R114: the carriage as a sounding begins. -/
def Cableway.sinking (now : Nat) (mode : SoundMode) (c : Cableway) : Cableway :=
  { c with
    motion := .seekingSurface mode, drive := some .reelDown, stall := some (now + c.settings.stallTime * 1000)
    sounding := some { failed := 0, depth := none }, surfacePoint := none }

theorem beginSound_eq {s : State} (still : s.cable.drive = none) (mode : SoundMode) :
    beginSound mode s = s.setCable (s.cable.sinking s.now mode) := by
  unfold beginSound
  rw [setDrive_eq, Cableway.driven_some_of_none (by exact still)]
  rfl

theorem cablewayTakes_sound {s : State} (stands : s.cable.motion = .atVertical) (mode : SoundMode) :
    cablewayTakes (.sound mode) s = takeSound mode s := by
  unfold cablewayTakes
  rw [stands]

theorem takeSound_open {s : State} (still : s.cable.drive = none) (clear : s.cable.switches.surface = false)
    (short : s.cable.reelCount < 30000000) (mode : SoundMode) :
    takeSound mode s = (s.setCable (s.cable.sinking s.now mode), none) := by
  have within : ¬ payoutRunOut (s.cable.sinking s.now mode) = true := by
    intro out
    have reached : 30000000 ≤ s.cable.reelCount := of_decide_eq_true out
    omega
  unfold takeSound
  rw [beginSound_eq still]
  dsimp only
  rw [if_neg (by rw [show (s.setCable (s.cable.sinking s.now mode)).cable.switches.surface = false from clear]
                 exact Bool.false_ne_true), if_neg (by exact within)]

theorem takeSound_closed {s : State} (still : s.cable.drive = none) (closed : s.cable.switches.surface = true)
    (mode : SoundMode) : takeSound mode s = surfaceFound mode (s.setCable (s.cable.sinking s.now mode)) := by
  unfold takeSound
  rw [beginSound_eq still]
  exact if_pos closed

end Sys2Proof.Machine

namespace Sys2Proof.Machine

/-! ## The arrival of a travel in an ACTIVE run (R129) -/

section

variable {s : State} {n : Nat} {skip : Bool} {p : Int} {e : PlanEntry}

/-- R113: the carriage arrived, the run as it was. -/
def arrivedAt (s : State) (p : Int) : State := s.setCable (s.cable.arrivedAt p)

theorem arrived_takes (active : s.run.state = .active) (travel : s.run.phase = some .travel) :
    sequencerTakes (.arrived (millimetres p)) (arrivedAt s p) = takeArrived (millimetres p) (arrivedAt s p) :=
  sequencerTakes_arrived (s := arrivedAt s p) active travel _

/-- R130: a vertical to be sounded. -/
def soundedNext (s : State) (p : Int) : State :=
  ((s.setRun { s.run with
    phase := some .sound, vertical := { s.run.vertical with arrival := some (millimetres p) } }).setCable
      (s.cable.arrivedAt p))

theorem arrived_sounds (active : s.run.state = .active) (travel : s.run.phase = some .travel)
    (unmarked : s.run.vertical.skipMark = false) (method : (entryInHand s).method ≠ .edge) :
    sequencerTakes (.arrived (millimetres p)) (arrivedAt s p) = (soundedNext s p,
      some (.sound (if (entryInHand s).method = .surface ∨ (entryInHand s).depth.isSome = true then .surface else .full))) :=
  (arrived_takes active travel).trans (takeArrived_sound (s := arrivedAt s p) _ unmarked method)

/-- R130: the sounding of a vertical begins with the surface contact open. -/
theorem handCompletion_arrived_open (active : s.run.state = .active) (travel : s.run.phase = some .travel)
    (unmarked : s.run.vertical.skipMark = false) (method : (entryInHand s).method ≠ .edge)
    (clear : s.cable.switches.surface = false) (short : s.cable.reelCount < 30000000) :
    handCompletion (arrivedAt s p, some (.arrived (millimetres p)))
      = (soundedNext s p).setCable ((s.cable.arrivedAt p).sinking s.now
        (if (entryInHand s).method = .surface ∨ (entryInHand s).depth.isSome = true then .surface else .full)) :=
  handCompletion_orders (arrived_sounds active travel unmarked method)
    ((cablewayTakes_sound (s := soundedNext s p) rfl _).trans (takeSound_open (s := soundedNext s p) rfl clear short _))

/-- R114, R130: a FULL sounding begins with the surface contact closed. -/
theorem handCompletion_arrived_closed (active : s.run.state = .active) (travel : s.run.phase = some .travel)
    (unmarked : s.run.vertical.skipMark = false) (method : (entryInHand s).method ≠ .edge)
    (closed : s.cable.switches.surface = true) (full : (entryInHand s).method ≠ .surface)
    (deep : (entryInHand s).depth = none) {u : State}
    (found : surfaceFound .full ((soundedNext s p).setCable ((s.cable.arrivedAt p).sinking s.now .full)) = (u, none)) :
    handCompletion (arrivedAt s p, some (.arrived (millimetres p))) = u := by
  have mode : (if (entryInHand s).method = .surface ∨ (entryInHand s).depth.isSome = true then SoundMode.surface
      else .full) = .full := by
    rw [if_neg]
    rintro (surface | planned)
    · exact full surface
    · rw [deep] at planned
      exact nomatch planned
  refine handCompletion_orders (arrived_sounds active travel unmarked method)
    ((cablewayTakes_sound (s := soundedNext s p) rfl _).trans ?_)
  rw [mode]
  exact (takeSound_closed (s := soundedNext s p) rfl closed .full).trans found

/-- R135, R137: the mark and the reason an arrival without a sounding stores its vertical with. -/
def arrivalSkip (skip : Bool) : Option SkipReason := if skip = true then some .byRequest else none

/-- R129: the vertical in hand as it is stored at its arrival. -/
def arrivalVertical (s : State) (p : Int) (skip : Bool) : InVertical :=
  { s.run.vertical with
    arrival := some (millimetres p)
    depth := if skip = true then s.run.vertical.depth else some ((entryInHand s).depth.getD 0)
    depthSource := if skip = true then s.run.vertical.depthSource else some .edge }

theorem arrived_stores (active : s.run.state = .active) (travel : s.run.phase = some .travel)
    (marked : s.run.vertical.skipMark = skip) (ends : (entryInHand s).method = .edge ∨ skip = true) :
    sequencerTakes (.arrived (millimetres p)) (arrivedAt s p) = goOn (storeVertical (arrivalSkip skip)
      (storing s (s.cable.arrivedAt p) (arrivalVertical s p skip))) := by
  rw [arrived_takes active travel]
  cases skip
  case true => exact takeArrived_skip (s := arrivedAt s p) _ marked
  case false =>
    rcases ends with edge | false_
    · exact takeArrived_edge (s := arrivedAt s p) _ marked edge
    · exact nomatch false_

/-- R135: the result of a vertical that is not sounded. -/
theorem arrival_result (vertical : s.run.vertical = { freshVertical n with skipMark := skip }) (entry : e = planEntry s n)
    (ends : e.method = .edge ∨ skip = true) :
    verticalResult (storing s (s.cable.arrivedAt p) (arrivalVertical s p skip)) (arrivalSkip skip)
      = { index := n, method := e.method, distance := e.distance, arrival := millimetres p
          depth := if skip = true then none else some (e.depth.getD 0)
          depthSource := if skip = true then none else some .edge, failed := none, points := []
          mean := if skip = true then none else some 0, skip := if skip = true then some .byRequest else none
          retried := false, partialPoints := false } := by
  have inHand : entryInHand (storing s (s.cable.arrivedAt p) (arrivalVertical s p skip)) = e := by
    rw [entry, entryInHand]
    exact congrArg (fun x : InVertical => planEntry s x.index) vertical
  have own : entryInHand s = e := by
    rw [entry, entryInHand]
    exact congrArg (fun x : InVertical => planEntry s x.index) vertical
  have stored : (storing s (s.cable.arrivedAt p) (arrivalVertical s p skip)).run.vertical = arrivalVertical s p skip := rfl
  cases skip
  case true =>
    unfold verticalResult
    rw [inHand, stored, arrivalVertical, vertical]
    rfl
  case false =>
    have edge : e.method = .edge := ends.resolve_right Bool.false_ne_true
    have still : meanVelocity e [] = 0 := by rw [meanVelocity, edge]
    unfold verticalResult
    rw [inHand, stored, arrivalVertical, vertical, own]
    exact congrArg (fun mean => ({
      index := n, method := e.method, distance := e.distance, arrival := millimetres p
      depth := some (e.depth.getD 0), depthSource := some .edge, failed := none, points := [], mean := some mean
      skip := none, retried := false, partialPoints := false } : VerticalResult)) still

end

end Sys2Proof.Machine

namespace Sys2Proof.Machine

/-! ## Encoder pulses, in every motion -/

theorem traversePulse_counts {s counted : State} {outward : Bool} {p : Int}
    (count : countTraverse outward s.cable = { s.cable with traverseCount := p })
    (known : counted = s.setCable { s.cable with
      traverseCount := p
      stall := if drivesTraverse s.cable.drive = true then some (s.now + s.cable.settings.stallTime * 1000)
        else s.cable.stall })
    (off : ∀ target, s.cable.motion = .travelling target → drivesTraverse s.cable.drive = false
      ∨ s.cable.positionKnown = false
      ∨ s.cable.settings.tolerance * 1000 < (p - (target : Int) * 1000).natAbs) :
    exec (.traversePulse outward) s = .next counted := by
  rw [exec_traversePulse, traverseMoves_eq outward s count, traverseJudged_none, known]
  · rfl
  · intro target motion
    rcases off target motion with still | unknown | far
    · exact .inl still
    · refine .inr fun near => ?_
      exact nomatch ((withinTolerance_iff _ _).1 near).1.symm.trans unknown
    · refine .inr fun near => ?_
      have close : (p - (target : Int) * 1000).natAbs ≤ s.cable.settings.tolerance * 1000 :=
        ((withinTolerance_iff _ _).1 near).2
      omega

/-- R106, R108: the count of the reel after a pulse. -/
theorem countReel_eq {c : Cableway} {down : Bool} {q : Int}
    (after : q = (match (generalizing := false) c.settings.reelScale with
      | none => c.reelCount
      | some scale => if c.switches.reelTop = true then c.reelCount
        else if down = true then c.reelCount + scale else c.reelCount - scale)) :
    countReel down c = { c with reelCount := q } := by
  unfold countReel
  rw [after]
  cases c.settings.reelScale with
  | none => rfl
  | some scale => cases c.switches.reelTop <;> rfl

theorem countTraverse_eq {c : Cableway} {outward : Bool} {p : Int}
    (after : p = (match (generalizing := false) c.settings.traverseScale with
      | none => c.traverseCount
      | some scale => if outward = true then c.traverseCount + scale else c.traverseCount - scale)) :
    countTraverse outward c = { c with traverseCount := p } := by
  unfold countTraverse
  rw [after]
  cases c.settings.traverseScale with
  | none => rfl
  | some scale => rfl

/-- R106, R110: the carriage that a pulse of the reel leaves. -/
def Cableway.reeled (now : Nat) (q : Int) (c : Cableway) : Cableway :=
  { c with
    reelCount := q
    stall := if c.drive = some .reelDown ∨ c.drive = some .reelUp then some (now + c.settings.stallTime * 1000)
      else c.stall }

theorem exec_reelPulse_judged {s : State} {down : Bool} {q : Int}
    (count : countReel down s.cable = { s.cable with reelCount := q }) :
    exec (.reelPulse down) s = .next (reelJudged (s.setCable (s.cable.reeled s.now q))) := by
  have same : ({ s.cable with reelCount := q } : Cableway).restarted s.now (drivesReel s.cable.drive)
      = s.cable.reeled s.now q := by
    rw [Cableway.restarted, Cableway.reeled]
    exact congrArg (fun stall => { s.cable with reelCount := q, stall := stall })
      (if_congr (drivesReel_iff s.cable.drive) rfl rfl)
  rw [exec_reelPulse, reelMoves_eq down s count, same]

theorem Cableway.reeled_driven {c : Cableway} {d : Drive} (drive : c.drive = some d) (reel : d = .reelDown ∨ d = .reelUp)
    (now : Nat) (q : Int) : c.reeled now q
      = { c with reelCount := q, stall := some (now + c.settings.stallTime * 1000) } := by
  rw [Cableway.reeled, if_pos]
  rcases reel with rfl | rfl
  · exact .inl drive
  · exact .inr drive

theorem Cableway.reeled_seeking {c : Cableway} (up : c.drive = some .reelUp) (now : Nat) (q : Int) :
    (c.reeled now q).seeking now = { c.reeled now q with motion := .seekingBottom .seek, drive := some .reelDown } := by
  have other : (c.reeled now q).drive ≠ some .reelDown := by
    show c.drive ≠ _
    rw [up]
    exact nofun
  rw [Cableway.seeking, Cableway.driven_of_ne (by exact other), Cableway.reeled_driven up (.inr rfl)]
  rfl

/-- Settles O47: encoder pulses in every motion, and the arrival of a travel in a run. -/
theorem encoderPulses : Obligations.EncoderPulses := by
  unfold Obligations.EncoderPulses
  refine ⟨⟨fun s counted outward p after known => ?_, fun s counted down q after known => ?_⟩,
    fun s outward scale target n skip p e traverse motion driven positioned top active travel vertical entry marks after
      near => ?_⟩
  · have count := countTraverse_eq (c := s.cable) after
    refine ⟨fun elsewhere => traversePulse_counts count known fun target motion => absurd motion (elsewhere target),
      fun target motion => ⟨fun off => traversePulse_counts count known fun x same => ?_,
        fun drives positioned idle near => ?_⟩⟩
    · obtain rfl : target = x := Motion.travelling.inj (motion.symm.trans same)
      exact off
    · rw [exec_traversePulse, traverseMoves_arrives count motion drives positioned near,
        handCompletion_idle (.arrived _) (by exact idle) (fun h => nomatch h)]
      rfl
  · have count := countReel_eq (c := s.cable) after
    have judged := exec_reelPulse_judged count
    have reeled : counted = s.setCable (s.cable.reeled s.now q) := known
    subst reeled
    rw [judged]
    clear known
    refine ⟨fun surface seek bounce point => ?_, fun x motion => ⟨fun within => ?_, fun down out => ?_⟩,
      fun limit p d point most depth => ?_⟩
    · rw [reelJudged_other (by exact surface) (by exact seek) (by exact bounce) (by exact point)]
    · rw [reelJudged_surface (by exact motion) (by exact within)]
    · exact ⟨_, congrArg Host.Outcome.next (reelJudged_noSurface (by exact motion) (by exact down) (by exact out)),
        takeFault_faults _ _⟩
    · have reel : reelDepth (s.cable.reeled s.now q) = some d := by
        rw [reelDepth, depth]
        exact congrArg (Option.map fun p => q - p) point
      have beyond (down : s.cable.drive = some .reelDown) (clear : s.cable.switches.bottom = false)
          (deep : (limit : Int) * 1000 < d) : depthExceeded (s.cable.reeled s.now q) = true :=
        (depthExceeded_iff _).2 ⟨down, clear, d, limit, reel, most, deep⟩
      have within (shallow : s.cable.drive ≠ some .reelDown ∨ d ≤ (limit : Int) * 1000) :
          ¬ depthExceeded (s.cable.reeled s.now q) = true := by
        rw [depthExceeded_iff]
        rintro ⟨down, -, x, y, at_, maximum, deep⟩
        obtain rfl : d = x := Option.some.inj (reel.symm.trans at_)
        obtain rfl : limit = y := Option.some.inj (most.symm.trans maximum)
        rcases shallow with still | shallow
        · exact still down
        · omega
      refine ⟨fun motion clear down => ⟨fun deep => ?_, fun shallow => ?_⟩, fun target motion => ⟨fun reached => ?_,
        fun up short => ?_, fun down short clear => ⟨fun deep => ?_, fun shallow => ?_⟩⟩,
        fun opened motion up => ⟨fun short positive => ?_, fun ended => ⟨fun closed => ?_,
          fun clear => ⟨fun shallow => ?_, fun deep => ?_⟩⟩⟩⟩
      · rw [reelJudged_seek (by exact motion), judgeDepthLimit_beyond (by exact beyond down clear deep)]
        exact ⟨_, rfl, takeFault_faults _ _⟩
      · rw [reelJudged_seek (by exact motion), judgeDepthLimit_within (by exact within (.inr shallow))]
      · rw [reelJudged_reached (by exact motion) ((pointReached_iff reel target).2 reached), enterAtPoint_eq]
        obtain ⟨x, drive⟩ : ∃ x, s.cable.drive = some x := by
          rcases reached with ⟨down, -⟩ | ⟨up, -⟩
          · exact ⟨_, down⟩
          · exact ⟨_, up⟩
        have shown : depthMm (s.cable.reeled s.now q) = some (millimetres d) := congrArg (Option.map millimetres) reel
        rw [State.setCable_cable, Cableway.atPoint, shown, Cableway.driven_none (d := x) (by exact drive)]
        rfl
      · have going : ¬ pointReached target (s.cable.reeled s.now q) = true := by
          rw [pointReached_iff reel]
          rintro (⟨down, -⟩ | ⟨-, reached⟩)
          · exact nomatch up.symm.trans down
          · omega
        rw [reelJudged_underWay (by exact motion) (by exact going),
          judgeDepthLimit_within (by exact within (.inl (by rw [up]; exact nofun)))]
      · have going : ¬ pointReached target (s.cable.reeled s.now q) = true := by
          rw [pointReached_iff reel]
          rintro (⟨-, reached⟩ | ⟨up, -⟩)
          · omega
          · exact nomatch (show s.cable.drive = some .reelUp from up).symm.trans down
        rw [reelJudged_underWay (by exact motion) (by exact going),
          judgeDepthLimit_beyond (by exact beyond down clear deep)]
        exact ⟨_, rfl, takeFault_faults _ _⟩
      · have going : ¬ pointReached target (s.cable.reeled s.now q) = true := by
          rw [pointReached_iff reel]
          rintro (⟨-, reached⟩ | ⟨up, -⟩)
          · omega
          · exact nomatch (show s.cable.drive = some .reelUp from up).symm.trans down
        rw [reelJudged_underWay (by exact motion) (by exact going), judgeDepthLimit_within (by exact within (.inr shallow))]
      · have going : ¬ bounceOver opened (s.cable.reeled s.now q) = true := by
          rw [bounceOver_iff reel]
          omega
        rw [reelJudged_bounces (by exact motion) (by exact going)]
      · rw [reelJudged_bounced (by exact motion) (by exact (bounceOver_iff reel opened).2 ended),
          enterSeek_bottom (by exact closed), State.setCable_cable, Cableway.holding, Cableway.driven_none (by exact up)]
        rfl
      · rw [reelJudged_bounced (by exact motion) (by exact (bounceOver_iff reel opened).2 ended),
          enterSeek_clear (by exact clear), State.setCable_cable,
          show (s.setCable (s.cable.reeled s.now q)).now = s.now from rfl, Cableway.reeled_seeking up, judgeDepthLimit_within]
        rw [depthExceeded_iff]
        rintro ⟨-, -, x, y, at_, maximum, deep⟩
        obtain rfl : d = x := Option.some.inj (reel.symm.trans at_)
        obtain rfl : limit = y := Option.some.inj (most.symm.trans maximum)
        omega
      · rw [reelJudged_bounced (by exact motion) (by exact (bounceOver_iff reel opened).2 ended),
          enterSeek_clear (by exact clear), State.setCable_cable,
          show (s.setCable (s.cable.reeled s.now q)).now = s.now from rfl, Cableway.reeled_seeking up, judgeDepthLimit_beyond]
        · exact ⟨_, rfl, takeFault_faults _ _⟩
        · exact (depthExceeded_iff _).2 ⟨rfl, clear, d, limit, reel, most, deep⟩
  · obtain rfl : n = s.run.vertical.index := by rw [vertical]; rfl
    have count : countTraverse outward s.cable = { s.cable with traverseCount := p } :=
      countTraverse_eq (by rw [traverse]; exact after)
    have arrives : exec (.traversePulse outward) s
        = .next (handCompletion (arrivedAt s p, some (.arrived (millimetres p)))) := by
      rw [exec_traversePulse, traverseMoves_arrives count motion ((drivesTraverse_iff _).2 driven) positioned near]
      rfl
    have own : entryInHand s = e := entry.symm
    have marked : s.run.vertical.skipMark = skip := by rw [vertical]
    rw [arrives]
    refine ⟨fun sounds unmarked clear short => ?_, fun sounds unmarked closed full deep => ?_, fun v ends result =>
      ⟨fun more beyond clear => ?_, fun last clear => ?_⟩⟩
    · rw [handCompletion_arrived_open active travel (by rw [marked, unmarked]) (by rw [own]; exact sounds) clear short, own]
      refine ⟨_, rfl, Keeps.refl _, active, rfl, rfl, rfl, ?_⟩
      have mode : (if e.method = .surface ∨ e.depth.isSome = true then SoundMode.surface else .full)
          = if e.method = .surface ∨ e.depth ≠ none then .surface else .full :=
        if_congr (or_congr_right Option.isSome_iff_ne_none) rfl rfl
      rw [mode]
      rfl
    · have unmarked : s.run.vertical.skipMark = false := by rw [marked, unmarked]
      have sounds : (entryInHand s).method ≠ .edge := by rw [own]; exact sounds
      have down : ((soundedNext s p).setCable ((s.cable.arrivedAt p).sinking s.now .full)).cable.drive
        = some .reelDown := rfl
      cases bottom : s.cable.switches.bottom
      case true =>
        rw [handCompletion_arrived_closed active travel unmarked sounds closed (by rw [own]; exact full)
          (by rw [own]; exact deep) (surfaceFound_full_bottom down bottom)]
        exact ⟨_, rfl, Keeps.refl _, active, rfl, rfl, rfl⟩
      case false =>
        rw [handCompletion_arrived_closed active travel unmarked sounds closed (by rw [own]; exact full)
          (by rw [own]; exact deep) (surfaceFound_full_clear down bottom)]
        exact ⟨_, rfl, Keeps.refl _, active, rfl, rfl, rfl⟩
    · have stores := arrived_stores (p := p) active travel marked (by rw [own]; exact ends)
      rw [handCompletion_travels stores (by exact more) (.inr rfl) rfl (by exact beyond) (by exact clear)]
      obtain ⟨keeps, goesOn⟩ := takenOn_goesOn (s := s) (c := s.cable.arrivedAt p) (x := arrivalVertical s p skip) rfl active top
        rfl ((arrival_result vertical entry ends).trans result.symm)
      exact ⟨_, rfl, keeps, goesOn, rfl, rfl⟩
    · have stores := arrived_stores (p := p) active travel marked (by rw [own]; exact ends)
      rw [handCompletion_returns stores (by exact last) rfl (by exact top) (by exact clear)]
      obtain ⟨keeps, returns⟩ := takenBack_returns (s := s) (c := s.cable.arrivedAt p) (x := arrivalVertical s p skip) active
        rfl ((arrival_result vertical entry ends).trans result.symm)
      exact ⟨_, rfl, keeps, returns, rfl, rfl⟩

end Sys2Proof.Machine

namespace Sys2Proof.Machine

/-! ## HOME_LIMIT and FAR_LIMIT (R111, R113, R118, R119) -/

theorem exec_farLimitClose (s : State) : exec .farLimitClose s = .next (farLimitCloses s) := rfl

theorem exec_reelTopChange (closed : Bool) (s : State) : exec (.reelTopChange closed) s = .next (reelTopChanges closed s) := rfl

/-- HOME_LIMIT closed, and no more. -/
def homeShut (s : State) : State :=
  s.setCable { s.cable with switches := { s.cable.switches with homeLimit := true } }

def farShut (s : State) : State :=
  s.setCable { s.cable with switches := { s.cable.switches with farLimit := true } }

/-- R118: the end of a retract that no run awaits. -/
theorem handCompletion_retracted_idle {s : State} (stays : s.run.state ≠ .returning)
    (ended : s.run.state = .aborted → s.run.outcome ≠ some .inProgress) : handCompletion (s, some .retracted) = s := by
  refine handCompletion_ends ?_
  unfold sequencerTakes
  cases state : s.run.state
  case returning => exact absurd state stays
  case aborted => exact if_neg (ended state)
  case idle | active | complete => rfl

theorem homeLimitCloses_homing {s : State} (clear : s.cable.switches.homeLimit = false) (motion : s.cable.motion = .homing)
    (inward : s.cable.drive = some .traverseIn) : homeLimitCloses s = s.setCable s.cable.homed := by
  unfold homeLimitCloses
  rw [if_neg (by rw [clear]; exact Bool.false_ne_true), motion, inward]
  dsimp only
  rw [reachHome_eq, Cableway.home, Cableway.driven_none (c := (setSwitches _ s).cable) (d := .traverseIn) inward]
  rfl

theorem arriveHome_eq {s : State} {d : Drive} (drive : s.cable.drive = some d) :
    arriveHome s = (arrivedAt s 0, some (.arrived (millimetres 0))) := by
  unfold arriveHome
  rw [arrive_eq, Cableway.arrived, Cableway.driven_none (d := d) (by exact drive)]
  rfl

theorem homeLimitCloses_arrives {s : State} (clear : s.cable.switches.homeLimit = false)
    (motion : s.cable.motion = .travelling 0) (inward : s.cable.drive = some .traverseIn) :
    homeLimitCloses s = handCompletion (arrivedAt (homeShut s) 0, some (.arrived (millimetres 0))) := by
  unfold homeLimitCloses
  rw [if_neg (by rw [clear]; exact Bool.false_ne_true), motion, inward]
  dsimp only
  rw [if_pos rfl, arriveHome_eq (s := setSwitches _ s) (d := .traverseIn) inward]
  rfl

theorem homeLimitCloses_fault {s : State} {target : Nat} (clear : s.cable.switches.homeLimit = false)
    (motion : s.cable.motion = .travelling target) (ahead : 0 < target) (inward : s.cable.drive = some .traverseIn) :
    homeLimitCloses s = takeFault .limit (homeShut s) := by
  unfold homeLimitCloses
  rw [if_neg (by rw [clear]; exact Bool.false_ne_true), motion, inward]
  dsimp only
  rw [if_neg (by omega)]
  rfl

theorem homeLimitCloses_alone {s : State} (clear : s.cable.switches.homeLimit = false)
    (other : s.cable.drive ≠ some .traverseIn) : homeLimitCloses s = homeShut s := by
  unfold homeLimitCloses
  rw [if_neg (by rw [clear]; exact Bool.false_ne_true)]
  dsimp only
  split
  case h_1 drive => exact absurd drive other
  case h_2 drive => exact absurd drive other
  case h_3 drive => exact absurd drive other
  case h_4 => rfl

theorem farLimitCloses_fault {s : State} {target : Nat} (clear : s.cable.switches.farLimit = false)
    (motion : s.cable.motion = .travelling target) (outward : s.cable.drive = some .traverseOut) :
    farLimitCloses s = takeFault .limit (farShut s) := by
  unfold farLimitCloses
  rw [if_neg (by rw [clear]; exact Bool.false_ne_true), motion, outward]
  rfl

theorem farLimitCloses_alone {s : State} (clear : s.cable.switches.farLimit = false)
    (other : s.cable.drive ≠ some .traverseOut) : farLimitCloses s = farShut s := by
  unfold farLimitCloses
  rw [if_neg (by rw [clear]; exact Bool.false_ne_true)]
  dsimp only
  split
  case h_1 drive => exact absurd drive other
  case h_2 => rfl

/-- R111, R113, R118: HOME_LIMIT closes, and FAR_LIMIT, outside a run. -/
theorem limitSwitches_outside (s : State) : (s.cable.switches.homeLimit = false →
      (s.cable.motion = .homing ∨ (s.cable.motion = .retracting ∧ s.run.state ≠ .returning
          ∧ (s.run.state = .aborted → s.run.outcome ≠ some .inProgress)) → s.cable.drive = some .traverseIn →
        exec .homeLimitClose s = .next (s.setCable s.cable.homed))
      ∧ (s.cable.motion = .travelling 0 → s.cable.drive = some .traverseIn → s.run.state ≠ .active →
        exec .homeLimitClose s = .next (arrivedAt (homeShut s) 0))) := by
  refine fun clear => ⟨?_, fun motion inward idle => ?_⟩
  · rintro (motion | ⟨motion, stays, ended⟩) inward
    · rw [exec_homeLimitClose, homeLimitCloses_homing clear motion inward]
    · rw [exec_homeLimitClose, homeLimitCloses_retracting clear motion inward,
        handCompletion_retracted_idle (by exact stays) (by exact ended)]
  · rw [exec_homeLimitClose, homeLimitCloses_arrives clear motion inward,
      handCompletion_idle (.arrived _) (by exact idle) (fun h => nomatch h)]

/-! ## REEL_TOP (R108, R109, R118) -/

/-- R108: REEL_TOP closed, and no more. -/
def topShut (s : State) : State := s.setCable (reelTopped s.cable)

/-- REEL_TOP open, and no more. -/
def topOpened (s : State) : State :=
  s.setCable { s.cable with switches := { s.cable.switches with reelTop := false } }

theorem reelTopChanges_raising {s : State} (open_ : s.cable.switches.reelTop = false) (motion : s.cable.motion = .raising) :
    reelTopChanges true s = handCompletion (endRaise (topShut s)) := by
  unfold reelTopChanges
  rw [if_neg (by rw [open_]; exact Bool.false_ne_true), if_pos rfl]
  dsimp only
  rw [motion]
  rfl

theorem reelTopChanges_closes {s : State} (open_ : s.cable.switches.reelTop = false) (motion : s.cable.motion ≠ .raising) :
    reelTopChanges true s = handCompletion (pursue (topShut s)) := by
  unfold reelTopChanges
  rw [if_neg (by rw [open_]; exact Bool.false_ne_true), if_pos rfl]
  dsimp only
  split
  case h_1 raising => exact absurd raising motion
  case h_2 => rfl

theorem reelTopChanges_opens {s : State} (closed : s.cable.switches.reelTop = true) :
    reelTopChanges false s = handCompletion (pursue (topOpened s)) := by
  unfold reelTopChanges
  rw [if_neg (by rw [closed]; exact Bool.noConfusion), if_neg Bool.false_ne_true]
  rfl

theorem reelTopChanges_only {s : State} (open_ : s.cable.switches.reelTop = false) :
    RunOnly (topShut s) (reelTopChanges true s) := by
  by_cases motion : s.cable.motion = .raising
  · rw [reelTopChanges_raising open_ motion]
    exact (RunOnly.endRaise _).trans (RunOnly.handCompletion _)
  · rw [reelTopChanges_closes open_ motion]
    exact (RunOnly.pursue _).trans (RunOnly.handCompletion _)

theorem pursue_still {s : State} (off : traverseMotion s.cable.motion = false) : pursue s = (s, none) := by
  unfold pursue
  split
  case h_1 motion => exact nomatch (congrArg traverseMotion motion).symm.trans off
  case h_2 motion => exact nomatch (congrArg traverseMotion motion).symm.trans off
  case h_3 motion => exact nomatch (congrArg traverseMotion motion).symm.trans off
  case h_4 => rfl

/-- R109: while REEL_TOP is open a traverse motion raises the reel. -/
theorem pursue_raises {s : State} (on : traverseMotion s.cable.motion = true) (open_ : s.cable.switches.reelTop = false) :
    pursue s = (s.setCable (s.cable.driven s.now (some .reelUp)), none) := by
  rw [← setDrive_eq]
  unfold pursue
  split
  case h_1 => exact if_pos (by rw [open_]; rfl)
  case h_2 => exact if_pos (by rw [open_]; rfl)
  case h_3 => exact if_pos (by rw [open_]; rfl)
  case h_4 homing retracting travelling =>
    cases motion : s.cable.motion
    case homing => exact absurd motion homing
    case retracting => exact absurd motion retracting
    case travelling target => exact absurd motion (travelling target)
    all_goals exact nomatch on.symm.trans (congrArg traverseMotion motion)

/-- R109, R111, R118: with the reel at its top and home not reached the carriage is driven in. -/
theorem pursue_inward {s : State} (motion : s.cable.motion = .homing ∨ s.cable.motion = .retracting)
    (top : s.cable.switches.reelTop = true) (clear : s.cable.switches.homeLimit = false) :
    pursue s = (s.setCable (s.cable.driven s.now (some .traverseIn)), none) := by
  rw [← setDrive_eq]
  unfold pursue
  rcases motion with motion | motion <;>
    (rw [motion]; dsimp only; rw [if_neg (by rw [top]; exact nofun), if_neg (by rw [clear]; exact Bool.false_ne_true)])

/-- R111: homing ends where HOME_LIMIT is closed already. -/
theorem pursue_homing_home {s : State} (motion : s.cable.motion = .homing) (top : s.cable.switches.reelTop = true)
    (closed : s.cable.switches.homeLimit = true) : pursue s = (s.setCable (s.cable.home s.now), none) := by
  rw [← reachHome_eq]
  unfold pursue
  rw [motion]
  dsimp only
  rw [if_neg (by rw [top]; exact nofun), if_pos closed]

theorem pursue_retracting_home {s : State} (motion : s.cable.motion = .retracting) (top : s.cable.switches.reelTop = true)
    (closed : s.cable.switches.homeLimit = true) : pursue s = (s.setCable (s.cable.home s.now), some .retracted) := by
  rw [← reachHome_eq]
  unfold pursue
  rw [motion]
  dsimp only
  rw [if_neg (by rw [top]; exact nofun), if_pos closed]

theorem pursue_travelling {s : State} {target : Nat} (motion : s.cable.motion = .travelling target)
    (top : s.cable.switches.reelTop = true) : pursue s = driveToTarget target s := by
  unfold pursue
  rw [motion]
  dsimp only
  rw [if_neg (by rw [top]; exact nofun)]

theorem driveToTarget_in {s : State} {target : Nat} (beyond : ¬ withinTolerance s.cable target = true)
    (inward : (target : Int) * 1000 < s.cable.traverseCount) (clear : s.cable.switches.homeLimit = false) :
    driveToTarget target s = (s.setCable (s.cable.driven s.now (some .traverseIn)), none) := by
  unfold driveToTarget
  rw [if_neg beyond, if_pos inward, if_neg (by rw [clear]; exact Bool.false_ne_true), setDrive_eq]

theorem driveToTarget_home {s : State} (beyond : ¬ withinTolerance s.cable 0 = true) (inward : 0 < s.cable.traverseCount)
    (closed : s.cable.switches.homeLimit = true) : driveToTarget 0 s = arriveHome s := by
  unfold driveToTarget
  rw [if_neg beyond, if_pos (by exact inward), if_pos closed, if_pos rfl]

theorem driveToTarget_limit_in {s : State} {target : Nat} (beyond : ¬ withinTolerance s.cable target = true)
    (inward : (target : Int) * 1000 < s.cable.traverseCount) (ahead : 0 < target)
    (closed : s.cable.switches.homeLimit = true) :
    driveToTarget target s = (takeFault .limit (s.setCable (s.cable.driven s.now (some .traverseIn))), none) := by
  unfold driveToTarget
  rw [if_neg beyond, if_pos inward, if_pos closed, if_neg (by omega), setDrive_eq]

theorem driveToTarget_limit_out {s : State} {target : Nat} (beyond : ¬ withinTolerance s.cable target = true)
    (out : s.cable.traverseCount ≤ (target : Int) * 1000) (closed : s.cable.switches.farLimit = true) :
    driveToTarget target s = (takeFault .limit (s.setCable (s.cable.driven s.now (some .traverseOut))), none) := by
  unfold driveToTarget
  rw [if_neg beyond, if_neg (by omega), if_pos closed, setDrive_eq]

theorem driveToTarget_within {s : State} {target : Nat} (within : withinTolerance s.cable target = true) :
    driveToTarget target s = arrive s := if_pos within

theorem endRaise_eq (s : State) : endRaise s = (s.setCable { s.cable.driven s.now none with
    reelCount := 0, surfacePoint := none, motion := .atVertical }, some .raised) := by
  unfold endRaise
  rw [setDrive_eq]
  rfl

end Sys2Proof.Machine

namespace Sys2Proof.Machine

theorem millimetres_zero : millimetres 0 = 0 := by decide

/-! ## REEL_TOP closes on a traverse motion (R109, R111, R113, R118, R119) -/

theorem topShut_outside {s : State} {target : Nat} {ahead : Int} (known : ahead = (target : Int) * 1000 - s.cable.traverseCount)
    (far : s.cable.settings.tolerance * 1000 < ahead.natAbs) : ¬ withinTolerance (topShut s).cable target = true := by
  rw [withinTolerance_iff]
  rintro ⟨-, near⟩
  have near : (s.cable.traverseCount - (target : Int) * 1000).natAbs ≤ s.cable.settings.tolerance * 1000 := near
  omega

theorem topShut_driven {s : State} (up : s.cable.drive = some .reelUp) {d : Drive} (other : d ≠ .reelUp) :
    (topShut s).setCable ((topShut s).cable.driven (topShut s).now (some d)) = s.setCable { reelTopped s.cable with
      drive := some d, stall := some (s.now + s.cable.settings.stallTime * 1000) } := by
  rw [Cableway.driven_of_ne]
  · rfl
  · show s.cable.drive ≠ _
    rw [up]
    exact fun same => other (Option.some.inj same).symm

theorem topShut_arrived {s : State} (up : s.cable.drive = some .reelUp) : arrive (topShut s)
    = (s.setCable { reelTopped s.cable with
        motion := .atVertical, drive := none, stall := none, arrival := some (millimetres s.cable.traverseCount) },
      some (.arrived (millimetres s.cable.traverseCount))) := by
  rw [arrive_eq, Cableway.arrived, Cableway.driven_none (d := .reelUp) (by exact up)]
  rfl

theorem topShut_home {s : State} (up : s.cable.drive = some .reelUp) :
    (topShut s).setCable ((topShut s).cable.home (topShut s).now) = s.setCable { reelTopped s.cable with
      motion := .parked, drive := none, stall := none, traverseCount := 0, positionKnown := true } := by
  rw [Cableway.home, Cableway.driven_none (d := .reelUp) (by exact up)]
  rfl

/-- R109, R113, R119: a travel whose reel has come up. -/
theorem reelTop_travels {s : State} {target : Nat} (open_ : s.cable.switches.reelTop = false)
    (motion : s.cable.motion = .travelling target) :
    exec (.reelTopChange true) s = .next (handCompletion (driveToTarget target (topShut s))) := by
  rw [exec_reelTopChange, reelTopChanges_closes open_ (by rw [motion]; exact nofun), pursue_travelling (by exact motion) rfl]

theorem endAbortedReturn_gauging (o : ReturnOutcome) (s : State) :
    (endAbortedReturn o s).gauging = { s.gauging with run := { s.run with outcome := some o } } := by
  rw [endAbortedReturn, raiseRunEnd, raise_gauging]
  rfl

/-- R108, R109, R118: REEL_TOP changes, outside a run. -/
theorem reelTop_changes (s : State) :
    (s.cable.switches.reelTop = false → ∃ t, exec (.reelTopChange true) s = .next t
        ∧ t.cable.switches = { s.cable.switches with reelTop := true }
        ∧ (s.cable.motion = .homing → s.cable.switches.homeLimit = false → t = s.setCable t.cable
            ∧ t.cable.reelCount = 0 ∧ t.cable.surfacePoint = none
            ∧ (t.cable.payoutKnown = true ↔ s.cable.payoutKnown = true ∨ s.cable.settings.reelScale ≠ none)
            ∧ t.cable.motion = .homing ∧ t.cable.drive = some .traverseIn)
        ∧ (s.cable.motion = .raising → s.run.state ≠ .active → t = s.setCable t.cable ∧ t.cable.motion = .atVertical
            ∧ t.cable.drive = none ∧ t.cable.reelCount = 0 ∧ t.cable.surfacePoint = none)
        ∧ (s.cable.motion = .parked ∨ s.cable.motion = .atVertical ∨ s.cable.motion = .unreferenced
            ∨ s.cable.motion = .faulted → t = topShut s))
      ∧ (s.cable.switches.reelTop = true → ∃ t, exec (.reelTopChange false) s = .next t ∧ t = s.setCable t.cable
        ∧ t.cable.switches = { s.cable.switches with reelTop := false }
        ∧ t.cable.motion = s.cable.motion ∧ t.cable.reelCount = s.cable.reelCount
        ∧ (traverseMotion s.cable.motion = true → t.cable.drive = some .reelUp)
        ∧ (traverseMotion s.cable.motion = false → t.cable.drive = s.cable.drive)) := by
  refine ⟨fun open_ => ⟨_, exec_reelTopChange true s, (reelTopChanges_only open_).switches, fun motion clear => ?_,
    fun motion idle => ?_, fun still => ?_⟩, fun closed => ⟨_, exec_reelTopChange false s, ?_⟩⟩
  · rw [reelTopChanges_closes open_ (by rw [motion]; exact nofun),
      pursue_inward (s := topShut s) (.inl motion) rfl clear, handCompletion_none]
    refine ⟨rfl, rfl, rfl, ?_, motion, rfl⟩
    show (s.cable.payoutKnown || s.cable.settings.reelScale.isSome) = true ↔ _
    rw [Bool.or_eq_true, Option.isSome_iff_ne_none]
  · rw [reelTopChanges_raising open_ motion, endRaise_eq, handCompletion_idle .raised (by exact idle) (fun h => nomatch h)]
    exact ⟨rfl, rfl, rfl, rfl, rfl⟩
  · have off : traverseMotion s.cable.motion = false ∧ s.cable.motion ≠ .raising := by
      rcases still with motion | motion | motion | motion <;> rw [motion] <;> exact ⟨rfl, nofun⟩
    rw [reelTopChanges_closes open_ off.2, pursue_still (s := topShut s) off.1, handCompletion_none]
  · rw [reelTopChanges_opens closed]
    cases on : traverseMotion s.cable.motion
    case true =>
      rw [pursue_raises (s := topOpened s) on rfl, handCompletion_none]
      exact ⟨rfl, rfl, rfl, rfl, fun _ => rfl, fun off => nomatch off⟩
    case false =>
      rw [pursue_still (s := topOpened s) on, handCompletion_none]
      exact ⟨rfl, rfl, rfl, rfl, (fun off => nomatch off), fun _ => rfl⟩

/-! ## The end of a raise in an ACTIVE run (R118, R129, R135) -/

theorem sequencerTakes_raised {s : State} (active : s.run.state = .active) (raise_ : s.run.phase = some .raise) :
    sequencerTakes .raised s = goOn (storeVertical s.run.vertical.marked s) := by
  unfold sequencerTakes
  rw [active, raise_]

/-- R118: the carriage as its raise ends. -/
def Cableway.raisedUp (now : Nat) (c : Cableway) : Cableway :=
  { (reelTopped c).driven now none with reelCount := 0, surfacePoint := none, motion := .atVertical }

/-- R118: the raise that REEL_TOP ends. -/
theorem reelTopChanges_raised {s : State} (open_ : s.cable.switches.reelTop = false) (motion : s.cable.motion = .raising) :
    reelTopChanges true s = handCompletion (storing s (s.cable.raisedUp s.now) s.run.vertical, some .raised) := by
  rw [reelTopChanges_raising open_ motion, endRaise_eq]
  rfl

/-- R135: the result of a vertical at the end of its raise. -/
theorem raised_result (s : State) (c : Cableway) :
    verticalResult (storing s c s.run.vertical) s.run.vertical.marked
      = { index := s.run.vertical.index, method := (entryInHand s).method, distance := (entryInHand s).distance
          arrival := s.run.vertical.arrival.getD 0, depth := s.run.vertical.depth
          depthSource := s.run.vertical.depthSource, failed := s.run.vertical.failed, points := s.run.vertical.points
          mean := if s.run.vertical.marked = none then some (meanVelocity (entryInHand s) s.run.vertical.points) else none
          skip := s.run.vertical.marked, retried := decide (0 < s.run.vertical.failed.getD 0)
          partialPoints := decide (s.run.vertical.marked ≠ none ∧ s.run.vertical.points ≠ []) } := by
  have vertical : (storing s c s.run.vertical).run.vertical = s.run.vertical := rfl
  have entry : entryInHand (storing s c s.run.vertical) = entryInHand s := rfl
  unfold verticalResult
  rw [vertical, entry]
  generalize entryInHand s = e
  obtain ⟨index, skipMark, marked, arrival, depth, source, failed, points, remaining, point⟩ := s.run.vertical
  cases marked <;> cases points <;> rfl

end Sys2Proof.Machine

namespace Sys2Proof.Machine

/-- Settles O49: HOME_LIMIT, FAR_LIMIT and REEL_TOP. -/
theorem topAndLimitSwitches : Obligations.TopAndLimitSwitches := by
  unfold Obligations.TopAndLimitSwitches
  refine ⟨⟨fun s clear => ⟨fun motion inward => ⟨_, (limitSwitches_outside s clear).1 motion inward, rfl⟩,
      fun motion inward idle => ⟨_, (limitSwitches_outside s clear).2 motion inward idle, ?_⟩,
      fun target motion ahead inward => ⟨_, congrArg Host.Outcome.next (homeLimitCloses_fault clear motion ahead inward),
        takeFault_faults _ _⟩,
      fun other => congrArg Host.Outcome.next (homeLimitCloses_alone clear other)⟩,
    fun s clear => ⟨fun target motion outward => ⟨_, congrArg Host.Outcome.next
        (farLimitCloses_fault clear motion outward), takeFault_faults _ _⟩,
      fun other => congrArg Host.Outcome.next (farLimitCloses_alone clear other)⟩⟩,
    reelTop_changes, fun s top open_ up shut => ⟨fun target ahead motion known distance => ⟨fun far => ⟨fun out clear => ?_,
        fun inward clear => ?_, fun limit => ?_, fun inward zero closed idle => ?_⟩, fun near idle => ?_⟩,
      fun motion clear => ?_, fun motion closed => ?_⟩,
    ⟨fun s clear motion inward aborted returns => ?_,
      fun s n e v clear motion inward known top active travel vertical entry edge more beyond far result => ?_⟩,
    fun s v e open_ motion known active raise_ entry result => ⟨fun more beyond far => ?_, fun last clear => ?_⟩⟩
  · show arrivedAt (homeShut s) 0 = _
    rw [arrivedAt, Cableway.arrivedAt, millimetres_zero]
    rfl
  · obtain rfl : top = reelTopped s.cable := shut
    rw [reelTop_travels open_ motion, driveToTarget_out (topShut_outside distance far)
      (by show s.cable.traverseCount ≤ _; omega) (by exact clear), handCompletion_none, topShut_driven up (by decide)]
  · obtain rfl : top = reelTopped s.cable := shut
    rw [reelTop_travels open_ motion, driveToTarget_in (topShut_outside distance far)
      (by show _ < s.cable.traverseCount; omega) (by exact clear), handCompletion_none, topShut_driven up (by decide)]
  · obtain rfl : top = reelTopped s.cable := shut
    obtain ⟨out, closed⟩ | ⟨inward, positive, closed⟩ := limit
    · rw [reelTop_travels open_ motion, driveToTarget_limit_out (topShut_outside distance far)
        (by show s.cable.traverseCount ≤ _; omega) (by exact closed), handCompletion_none, topShut_driven up (by decide),
        if_pos out]
      exact ⟨_, rfl, takeFault_faults _ _⟩
    · rw [reelTop_travels open_ motion, driveToTarget_limit_in (topShut_outside distance far)
        (by show _ < s.cable.traverseCount; omega) positive (by exact closed), handCompletion_none,
        topShut_driven up (by decide), if_neg (by omega)]
      exact ⟨_, rfl, takeFault_faults _ _⟩
  · obtain rfl : top = reelTopped s.cable := shut
    subst zero
    rw [reelTop_travels open_ motion, driveToTarget_home (topShut_outside distance far)
      (by show 0 < s.cable.traverseCount; omega) (by exact closed), arriveHome_eq (d := .reelUp) (by exact up),
      handCompletion_idle (.arrived _) (by exact idle) (fun h => nomatch h), arrivedAt, Cableway.arrivedAt, millimetres_zero]
    rfl
  · obtain rfl : top = reelTopped s.cable := shut
    have close : (s.cable.traverseCount - (target : Int) * 1000).natAbs ≤ s.cable.settings.tolerance * 1000 := by omega
    have within : withinTolerance (topShut s).cable target = true :=
      (withinTolerance_iff _ _).2 ⟨known, close⟩
    rw [reelTop_travels open_ motion, driveToTarget_within within, topShut_arrived up,
      handCompletion_idle (.arrived _) (by exact idle) (fun h => nomatch h)]
  · obtain rfl : top = reelTopped s.cable := shut
    rw [exec_reelTopChange, reelTopChanges_closes open_ (by rw [motion]; exact nofun),
      pursue_inward (s := topShut s) (.inr motion) rfl clear, handCompletion_none, topShut_driven up (by decide)]
  · obtain rfl : top = reelTopped s.cable := shut
    have notRaising : s.cable.motion ≠ .raising := by
      rcases motion with motion | motion <;> rw [motion] <;> exact nofun
    rw [exec_reelTopChange, reelTopChanges_closes open_ notRaising]
    rcases motion with motion | motion
    · rw [pursue_homing_home (s := topShut s) motion rfl closed, handCompletion_none, topShut_home up]
      refine ⟨_, rfl, Keeps.refl _, rfl, fun _ _ => rfl, fun retracts => ?_, fun retracts => ?_⟩
      · exact nomatch motion.symm.trans retracts
      · exact nomatch motion.symm.trans retracts
    · rw [pursue_retracting_home (s := topShut s) motion rfl closed, topShut_home up]
      by_cases returning : s.run.state = .returning
      · have run := completeRun_run .parked (s.setCable { reelTopped s.cable with
          motion := .parked, drive := none, stall := none, traverseCount := 0, positionKnown := true })
        have told := completeRun_told .parked (s.setCable { reelTopped s.cable with
          motion := .parked, drive := none, stall := none, traverseCount := 0, positionKnown := true })
        have keeps := (RunOnly.completeRun (s.setCable { reelTopped s.cable with
          motion := .parked, drive := none, stall := none, traverseCount := 0, positionKnown := true }) .parked).keeps
          (completeRun_time _ _)
        rw [handCompletion_returned (by exact returning)]
        refine ⟨_, rfl, keeps, completeRun_cable _ _, fun _ stays => absurd returning stays, fun _ _ => ⟨?_, ?_, ?_,
          told.congr rfl rfl rfl⟩, fun _ aborted => ?_⟩
        · rw [run]; rfl
        · rw [run]; rfl
        · rw [run]; rfl
        · exact nomatch returning.symm.trans aborted
      · by_cases awaited : s.run.state = .aborted ∧ s.run.outcome = some .inProgress
        · obtain ⟨aborted, returns⟩ := awaited
          have told := endAbortedReturn_told .parked (s.setCable { reelTopped s.cable with
            motion := .parked, drive := none, stall := none, traverseCount := 0, positionKnown := true })
          have keeps := (RunOnly.endAbortedReturn (s.setCable { reelTopped s.cable with
            motion := .parked, drive := none, stall := none, traverseCount := 0, positionKnown := true }) .parked).keeps
            (raise_time _ _ _)
          rw [handCompletion_retracted (by exact aborted) (by exact returns)]
          refine ⟨_, rfl, keeps, endAbortedReturn_cable _ _, fun off _ => ?_, fun _ state => absurd state returning,
            fun _ _ _ => ⟨endAbortedReturn_gauging _ _, told.congr rfl rfl rfl⟩⟩
          rcases off with homing | idle | ended
          · exact nomatch motion.symm.trans homing
          · exact absurd (by rw [aborted]; exact List.mem_cons_of_mem _ (List.mem_singleton.2 rfl)) idle
          · exact absurd returns ended
        · rw [handCompletion_retracted_idle (by exact returning) (by exact fun aborted returns => awaited ⟨aborted, returns⟩)]
          exact ⟨_, rfl, Keeps.refl _, rfl, fun _ _ => rfl, fun _ state => absurd state returning,
            fun _ aborted returns => absurd ⟨aborted, returns⟩ awaited⟩
  · have told := endAbortedReturn_told .parked (s.setCable s.cable.homed)
    have keeps := (RunOnly.endAbortedReturn (s.setCable s.cable.homed) .parked).keeps (raise_time _ _ _)
    rw [exec_homeLimitClose, homeLimitCloses_retracting clear motion inward,
      handCompletion_retracted (by exact aborted) (by exact returns)]
    exact ⟨_, rfl, keeps, endAbortedReturn_cable _ _, endAbortedReturn_gauging _ _, told.congr rfl rfl rfl⟩
  · obtain rfl : n = s.run.vertical.index := by rw [vertical]; rfl
    have own : entryInHand (homeShut s) = e := entry.symm
    have unmarked : (homeShut s).run.vertical.skipMark = false := by
      show s.run.vertical.skipMark = false
      rw [vertical]
      rfl
    have stores := arrived_stores (s := homeShut s) (p := 0) active travel unmarked (by rw [own]; exact .inl edge)
    have outcome := arrival_result (s := homeShut s) (p := 0) (skip := false) (n := s.run.vertical.index) vertical entry
      (.inl edge)
    rw [edge, millimetres_zero] at outcome
    obtain ⟨keeps, goesOn⟩ := takenOn_goesOn (s := s) (c := (homeShut s).cable.arrivedAt 0)
      (x := arrivalVertical (homeShut s) 0 false) (k := arrivalSkip false) rfl active top rfl (outcome.trans result.symm)
    rw [exec_homeLimitClose, homeLimitCloses_arrives clear motion inward,
      handCompletion_travels stores (by exact more) (.inr rfl) rfl ?_ (by exact far)]
    · exact ⟨_, rfl, keeps, goesOn, rfl, congrArg some millimetres_zero, rfl⟩
    · show (0 : Int) + s.cable.settings.tolerance * 1000
        < ((planEntry s (s.run.vertical.index + 1)).distance : Int) * 1000
      omega
  · subst entry
    have takes := sequencerTakes_raised (s := storing s (s.cable.raisedUp s.now) s.run.vertical) active raise_
    obtain ⟨keeps, goesOn⟩ := takenOn_goesOn (s := s) (c := s.cable.raisedUp s.now) (x := s.run.vertical)
      (k := s.run.vertical.marked) rfl active rfl rfl ((raised_result s _).trans result.symm)
    rw [exec_reelTopChange, reelTopChanges_raised open_ motion,
      handCompletion_travels takes (by exact more) (.inr rfl) rfl (by exact beyond) (by exact far)]
    exact ⟨_, rfl, keeps, goesOn, rfl, rfl, rfl⟩
  · subst entry
    have takes := sequencerTakes_raised (s := storing s (s.cable.raisedUp s.now) s.run.vertical) active raise_
    obtain ⟨keeps, returns⟩ := takenBack_returns (s := s) (c := s.cable.raisedUp s.now) (x := s.run.vertical)
      (k := s.run.vertical.marked) active rfl ((raised_result s _).trans result.symm)
    rw [exec_reelTopChange, reelTopChanges_raised open_ motion,
      handCompletion_returns takes (by exact last) rfl rfl (by exact clear)]
    exact ⟨_, rfl, keeps, returns, rfl, rfl⟩

end Sys2Proof.Machine

namespace Sys2Proof.Machine

/-! ## RUN_START (R128) -/

theorem takeRunStart_state {s : State} (unfit : s.run.state = .active ∨ s.run.state = .returning ∨ s.cable.motion ≠ .parked) :
    takeRunStart s = (s, .refuse .state) := if_pos unfit

theorem takeRunStart_plan {s : State} (fit : ¬ (s.run.state = .active ∨ s.run.state = .returning ∨ s.cable.motion ≠ .parked))
    (unfit : planUnfit s = true) : takeRunStart s = (s, .refuse .plan) := by
  unfold takeRunStart
  rw [if_neg fit, if_pos unfit]

theorem takeRunStart_meter {s : State} (fit : ¬ (s.run.state = .active ∨ s.run.state = .returning ∨ s.cable.motion ≠ .parked))
    (plan : planUnfit s = false) (unrated : s.gauging.rating = none) : takeRunStart s = (s, .refuse .meter) := by
  unfold takeRunStart
  rw [if_neg fit, if_neg (by rw [plan]; exact Bool.false_ne_true), if_pos unrated]

theorem takeRunStart_level {s : State} (fit : ¬ (s.run.state = .active ∨ s.run.state = .returning ∨ s.cable.motion ≠ .parked))
    (plan : planUnfit s = false) (rated : s.gauging.rating ≠ none)
    (high : s.warning.settings.withdrawLevel ≤ s.warning.level) : takeRunStart s = (s, .refuse .level) := by
  unfold takeRunStart
  rw [if_neg fit, if_neg (by rw [plan]; exact Bool.false_ne_true), if_neg rated, if_pos high]

theorem takeRunStart_taken {s : State} (fit : ¬ (s.run.state = .active ∨ s.run.state = .returning ∨ s.cable.motion ≠ .parked))
    (plan : planUnfit s = false) (rated : s.gauging.rating ≠ none)
    (low : s.warning.level < s.warning.settings.withdrawLevel) : takeRunStart s
      = (startRun s, .reply ([timeField s.now, .num 1 s.gauging.plan.entries.length] ++ optInt 3 s.stage.stage)) := by
  unfold takeRunStart
  rw [if_neg fit, if_neg (by rw [plan]; exact Bool.false_ne_true), if_neg rated, if_neg (by omega)]

/-- R128: when a plan is refused. -/
theorem planUnfit_iff (s : State) : planUnfit s = true ↔ s.gauging.plan.entries.length < 3
    ∨ (s.gauging.plan.entries.head?.map (·.method)) ≠ some .edge
    ∨ (s.gauging.plan.entries.getLast?.map (·.method)) ≠ some .edge
    ∨ ∃ e ∈ s.gauging.plan.entries, s.cable.settings.span.getD 0 < e.distance := by
  simp only [planUnfit, Bool.or_eq_true, decide_eq_true_eq, bne_iff_ne, List.any_eq_true, or_assoc]

theorem planUnfit_congr {s t : State} (plan : t.gauging = s.gauging) (cable : t.cable = s.cable) :
    planUnfit t = planUnfit s := by
  unfold planUnfit
  rw [plan, cable]

theorem planUnfit_fit {s : State} {e1 e2 : PlanEntry} {rest : List PlanEntry}
    (entries : s.gauging.plan.entries = e1 :: e2 :: rest) (more : 1 ≤ rest.length) (first : e1.method = .edge)
    (last : rest.getLast?.map (·.method) = some .edge)
    (span : ∀ e ∈ s.gauging.plan.entries, e.distance ≤ s.cable.settings.span.getD 0) : planUnfit s = false := by
  rw [← Bool.not_eq_true, planUnfit_iff]
  rintro (few | opens | closes | ⟨e, mem, far⟩)
  · rw [entries] at few
    simp only [List.length_cons] at few
    omega
  · rw [entries] at opens
    exact opens (congrArg some first)
  · rw [entries] at closes
    cases rest with
    | nil => exact absurd more (by decide)
    | cons e more => exact closes (by rw [List.getLast?_cons_cons, List.getLast?_cons_cons]; exact last)
  · have := span e mem
    omega

/-! ### The run that starts -/

theorem startRun_calm {s : State} (calm : s.warning.autonomous = false) : startRun s = beginRun s :=
  if_neg (by rw [calm]; exact Bool.false_ne_true)

theorem RunOnly.startRun (s : State) : RunOnly s (startRun s) := by
  have begun := RunOnly.beginRun s
  unfold Machine.startRun
  split
  · exact begun.trans (RunOnly.judgeAutonomy _)
  · exact begun

/-- R128: the part as RUN_START leaves it before the carriage moves. -/
def runStarted (s : State) : State := s.setRun (startedRun s)

/-- R113, R128: the carriage at home, entry 1 further off than the tolerance. -/
theorem beginRun_travels {s : State} (parked : s.cable.motion = .parked) (still : s.cable.drive = none)
    (home : s.cable.traverseCount = 0) (clear : s.cable.switches.farLimit = false)
    (far : s.cable.settings.tolerance < (planEntry s 1).distance) :
    beginRun s = (runStarted s).setCable (s.cable.travelling s.now (planEntry s 1).distance) := by
  have takes := cablewayTakes_travelOut (s := runStarted s) (target := (planEntry s 1).distance) (.inl parked) still
    (by show s.cable.traverseCount + (s.cable.settings.tolerance : Int) * 1000 < _; omega) clear
  show handCompletion (cablewayTakes _ (runStarted s)) = _
  rw [takes, handCompletion_none]
  rfl

/-- R113: the carriage that stands at home as it arrives at an entry there. -/
def Cableway.arrivedHome (c : Cableway) : Cableway :=
  { c with motion := .atVertical, arrival := some (millimetres c.traverseCount) }

/-- R128, R129: entry 1 in hand, an EDGE the carriage already stands at. -/
def firstStored (s : State) : State :=
  setVertical { freshVertical 1 with
    arrival := some (millimetres s.cable.traverseCount), depth := some ((planEntry s 1).depth.getD 0)
    depthSource := some .edge } ((runStarted s).setCable s.cable.arrivedHome)

/-- R128, R129: the carriage at home and entry 1 at 0: the edge is stored, entry 2 in hand. -/
theorem beginRun_edge {s : State} (parked : s.cable.motion = .parked) (still : s.cable.drive = none)
    (known : s.cable.positionKnown = true) (home : s.cable.traverseCount = 0) (clear : s.cable.switches.farLimit = false)
    (edge : (planEntry s 1).method = .edge) (zero : (planEntry s 1).distance = 0)
    (more : 1 < s.gauging.plan.entries.length) (far : s.cable.settings.tolerance < (planEntry s 2).distance) :
    beginRun s = (takenOn none (firstStored s)).setCable
      (s.cable.arrivedHome.travelling s.now (planEntry s 2).distance) := by
  have within : withinTolerance (runStarted s).cable (planEntry s 1).distance = true := by
    refine (withinTolerance_iff _ _).2 ⟨known, ?_⟩
    show (s.cable.traverseCount - _).natAbs ≤ s.cable.settings.tolerance * 1000
    rw [home, zero]
    exact Nat.zero_le _
  have order : cablewayTakes (.travel (planEntry s 1).distance) (runStarted s)
      = ((runStarted s).setCable s.cable.arrivedHome, some (.arrived (millimetres s.cable.traverseCount))) := by
    have stands : cablewayTakes (.travel (planEntry s 1).distance) (runStarted s) = arrive (runStarted s) := by
      unfold cablewayTakes
      rw [show (runStarted s).cable.motion = .parked from parked]
      exact if_pos within
    rw [stands, arrive_eq, Cableway.arrived, Cableway.driven_of_eq (by exact still)]
    rfl
  have takes : sequencerTakes (.arrived (millimetres s.cable.traverseCount)) ((runStarted s).setCable s.cable.arrivedHome)
      = goOn (storeVertical none (firstStored s)) :=
    (sequencerTakes_arrived (s := (runStarted s).setCable s.cable.arrivedHome) rfl rfl _).trans
      (takeArrived_edge (s := (runStarted s).setCable s.cable.arrivedHome) _ rfl edge)
  have travels := handCompletion_travels takes (by exact more) (.inr rfl) (by exact still)
    (by show s.cable.traverseCount + (s.cable.settings.tolerance : Int) * 1000 < ((planEntry s 2).distance : Int) * 1000
        omega) (by exact clear)
  show handCompletion (cablewayTakes _ (runStarted s)) = _
  rw [order, travels]
  rfl

theorem firstStored_result {s : State} (edge : (planEntry s 1).method = .edge) (home : s.cable.traverseCount = 0) :
    verticalResult (firstStored s) none
      = { index := 1, method := .edge, distance := (planEntry s 1).distance, arrival := 0
          depth := some ((planEntry s 1).depth.getD 0), depthSource := some .edge, failed := none, points := []
          mean := some 0, skip := none, retried := false, partialPoints := false } := by
  have entry : entryInHand (firstStored s) = planEntry s 1 := rfl
  have vertical : (firstStored s).run.vertical = { freshVertical 1 with
    arrival := some 0, depth := some ((planEntry s 1).depth.getD 0), depthSource := some .edge } := by
    show { freshVertical 1 with
      arrival := some (millimetres s.cable.traverseCount), depth := some ((planEntry s 1).depth.getD 0)
      depthSource := some .edge } = _
    rw [home, millimetres_zero]
  have still : meanVelocity (planEntry s 1) [] = 0 := by rw [meanVelocity, edge]
  unfold verticalResult
  rw [entry, vertical]
  exact congrArg₂ (fun method mean => ({
    index := 1, method := method, distance := (planEntry s 1).distance, arrival := 0
    depth := some ((planEntry s 1).depth.getD 0), depthSource := some .edge, failed := none, points := [], mean := some mean
    skip := none, retried := false, partialPoints := false } : VerticalResult)) edge still

end Sys2Proof.Machine

namespace Sys2Proof.Machine

/-! ## A RUN_START in AUTONOMOUS (R139, log 46) -/

/-- A run under way through its first entries: in TRAVEL, with a vertical that is not EDGE still to come. -/
def travelsOn (s : State) : Prop :=
  s.run.state = .active ∧ s.run.phase = some .travel ∧ s.run.vertical.skipMark = false
    ∧ s.cable.switches.surface = false
    ∧ ∃ k, s.run.vertical.index ≤ k ∧ k ≤ s.gauging.plan.entries.length ∧ (planEntry s k).method ≠ .edge

/-- A run that a motion fault has ended. -/
def faultedOut (s : State) : Prop := s.run.state = .aborted ∧ s.cable.motion = .faulted

theorem takeFault_faultedOut {s : State} (c : FaultCause) (active : s.run.state = .active) : faultedOut (takeFault c s) := by
  obtain ⟨-, cable, -, aborted, -⟩ := takeFault_faults c s
  obtain ⟨-, state, -⟩ := aborted active
  exact ⟨state, by rw [cable]⟩

/-- What an order to travel gives of such a run: it goes on, waiting or arrived, or a fault ends it. -/
def travelResult (p : State × Option Completion) : Prop :=
  (travelsOn p.1 ∧ (p.2 = none ∨ ∃ q, p.2 = some (.arrived q))) ∨ (faultedOut p.1 ∧ p.2 = none)

theorem travelsOn_setCable {s : State} (h : travelsOn s) (c : Cableway) (clear : c.switches.surface = false) :
    travelsOn (s.setCable c) := by
  obtain ⟨active, travel, unmarked, -, ahead⟩ := h
  exact ⟨active, travel, unmarked, clear, ahead⟩

theorem travelsOn_setDrive {s : State} (h : travelsOn s) (d : Option Drive) : travelsOn (setDrive d s) := by
  rw [setDrive_eq]
  exact travelsOn_setCable h _ h.2.2.2.1

theorem travelResult_arrive {s : State} (h : travelsOn s) : travelResult (arrive s) := by
  rw [arrive_eq]
  exact .inl ⟨travelsOn_setCable h _ h.2.2.2.1, .inr ⟨_, rfl⟩⟩

theorem travelResult_driveToTarget {s : State} (h : travelsOn s) (target : Nat) : travelResult (driveToTarget target s) := by
  have drives (d : Drive) : travelResult (setDrive (some d) s, none) := .inl ⟨travelsOn_setDrive h _, .inl rfl⟩
  have faults (d : Drive) : travelResult (takeFault .limit (setDrive (some d) s), none) :=
    .inr ⟨takeFault_faultedOut .limit (travelsOn_setDrive h _).1, rfl⟩
  unfold driveToTarget
  split
  · exact travelResult_arrive h
  · split
    · split
      · split
        · exact travelResult_arrive (travelsOn_setCable h _ h.2.2.2.1)
        · exact faults .traverseIn
      · exact drives .traverseIn
    · split
      · exact faults .traverseOut
      · exact drives .traverseOut

theorem travelResult_travel {s : State} (h : travelsOn s) (target : Nat) : travelResult (cablewayTakes (.travel target) s) := by
  have moves : travelResult (if withinTolerance s.cable target then arrive s
      else pursue (setMotion (.travelling target) s)) := by
    split
    · exact travelResult_arrive h
    · have moving : travelsOn (setMotion (.travelling target) s) := travelsOn_setCable h _ h.2.2.2.1
      have motion : (setMotion (.travelling target) s).cable.motion = .travelling target := rfl
      unfold pursue
      rw [motion]
      dsimp only
      split
      · exact .inl ⟨travelsOn_setDrive moving _, .inl rfl⟩
      · exact travelResult_driveToTarget moving target
  unfold cablewayTakes
  cases motion : s.cable.motion
  case parked | atVertical => exact moves
  all_goals exact .inl ⟨h, .inl rfl⟩

/-- R114: with the surface contact open a sounding begins or, the payout run out, faults. -/
theorem takeSound_cases {s : State} (clear : s.cable.switches.surface = false) (mode : SoundMode) :
    (∃ c, takeSound mode s = (s.setCable c, none)) ∨ ∃ c, takeSound mode s = (takeFault .noSurface (s.setCable c), none) := by
  have begun : beginSound mode s = s.setCable (({ s.cable with
      motion := .seekingSurface mode, sounding := some { failed := 0, depth := none }, surfacePoint := none } :
        Cableway).driven s.now (some .reelDown)) := by
    unfold beginSound
    rw [setDrive_eq]
    rfl
  unfold takeSound
  rw [begun]
  dsimp only
  rw [if_neg (by show ¬ s.cable.switches.surface = true; rw [clear]; exact Bool.false_ne_true)]
  split
  · exact .inr ⟨_, rfl⟩
  · exact .inl ⟨_, rfl⟩

/-- How such a run stands when its exchange with the carriage rests: ACTIVE, or ended by a fault. -/
def restsOrFaults (s : State) : Prop := s.run.state = .active ∨ faultedOut s

theorem settleOrders_none (n : Nat) (s : State) : settleOrders n none s = s := by cases n <;> rfl

/-- R114: an order to sound, in whatever motion, ends the exchange. -/
theorem cablewayTakes_sound_rests {s : State} (active : s.run.state = .active) (clear : s.cable.switches.surface = false)
    (mode : SoundMode) :
    (cablewayTakes (.sound mode) s).2 = none ∧ restsOrFaults (cablewayTakes (.sound mode) s).1 := by
  by_cases stands : s.cable.motion = .atVertical
  · rw [cablewayTakes_sound stands]
    rcases takeSound_cases clear mode with ⟨c, begins⟩ | ⟨c, faults⟩
    · rw [begins]
      exact ⟨rfl, .inl active⟩
    · rw [faults]
      exact ⟨rfl, .inr (takeFault_faultedOut .noSurface active)⟩
  · have dropped : cablewayTakes (.sound mode) s = (s, none) := by
      unfold cablewayTakes
      cases motion : s.cable.motion
      case atVertical => exact absurd motion stands
      all_goals rfl
    rw [dropped]
    exact ⟨rfl, .inl active⟩

/-- R129, R130: the arrival of such a run at an entry. -/
theorem settleOrders_arrived (n : Nat) {s : State} (h : travelsOn s) (q : Int) :
    restsOrFaults (settleOrders n (some (.arrived q)) s) := by
  induction n generalizing s q with
  | zero => exact .inl h.1
  | succ n ih =>
    obtain ⟨active, travel, unmarked, clear, k, atLeast, atMost, method⟩ := h
    unfold settleOrders
    by_cases edge : (entryInHand s).method = .edge
    · have later : s.run.vertical.index < k := by
        refine Nat.lt_of_le_of_ne atLeast fun same => method ?_
        rw [← same]
        exact edge
      have takes : sequencerTakes (.arrived q) s
          = (takenOn none (setVertical { s.run.vertical with
              arrival := some q, depth := some ((entryInHand s).depth.getD 0), depthSource := some .edge } s),
            some (.travel (planEntry s (s.run.vertical.index + 1)).distance)) :=
        (sequencerTakes_arrived active travel q).trans ((takeArrived_edge q unmarked edge).trans
          (goOn_stored_next (s := setVertical { s.run.vertical with
            arrival := some q, depth := some ((entryInHand s).depth.getD 0), depthSource := some .edge } s)
            (by show s.run.vertical.index < s.gauging.plan.entries.length; omega)))
      rw [takes]
      dsimp only
      have run := takenOn_run none (setVertical { s.run.vertical with
        arrival := some q, depth := some ((entryInHand s).depth.getD 0), depthSource := some .edge } s)
      have only := RunOnly.takenOn none (setVertical { s.run.vertical with
        arrival := some q, depth := some ((entryInHand s).depth.getD 0), depthSource := some .edge } s)
      have onward : travelsOn (takenOn none (setVertical { s.run.vertical with
          arrival := some q, depth := some ((entryInHand s).depth.getD 0), depthSource := some .edge } s)) := by
        refine ⟨(congrArg Run.state run).trans active, congrArg Run.phase run,
          congrArg (fun r : Run => r.vertical.skipMark) run, ?_, k, ?_, ?_, ?_⟩
        · rw [only.switches]
          exact clear
        · rw [run]
          exact later
        · rw [only.plan]
          exact atMost
        · rw [planEntry, only.plan]
          exact method
      rcases travelResult_travel onward (planEntry s (s.run.vertical.index + 1)).distance
        with ⟨travels, rests | ⟨q', arrives⟩⟩ | ⟨faulted, rests⟩
      · rw [rests, settleOrders_none]
        exact .inl travels.1
      · rw [arrives]
        exact ih travels q'
      · rw [rests, settleOrders_none]
        exact .inr faulted
    · have takes := (sequencerTakes_arrived active travel q).trans (takeArrived_sound q unmarked edge)
      rw [takes]
      dsimp only
      obtain ⟨waits, rests⟩ := cablewayTakes_sound_rests (s := s.setRun { s.run with
        phase := some .sound, vertical := { s.run.vertical with arrival := some q } }) active clear
        (if (entryInHand s).method = .surface ∨ (entryInHand s).depth.isSome = true then .surface else .full)
      rw [waits, settleOrders_none]
      exact rests

/-- R139: a run that starts in AUTONOMOUS over such a plan. -/
theorem beginRun_rests {s : State} (clear : s.cable.switches.surface = false)
    (ahead : ∃ e ∈ s.gauging.plan.entries, e.method ≠ .edge) : restsOrFaults (beginRun s) := by
  obtain ⟨e, mem, method⟩ := ahead
  obtain ⟨i, inside, rfl⟩ := List.getElem_of_mem mem
  have entry : planEntry (runStarted s) (i + 1) = s.gauging.plan.entries[i] := by
    rw [planEntry, Nat.add_sub_cancel, show (runStarted s).gauging.plan = s.gauging.plan from rfl,
      List.getElem?_eq_getElem inside]
    rfl
  have travels : travelsOn (runStarted s) :=
    ⟨rfl, rfl, rfl, clear, i + 1, Nat.le_add_left 1 i, inside, by rw [entry]; exact method⟩
  show restsOrFaults (handCompletion (cablewayTakes (.travel (planEntry s 1).distance) (runStarted s)))
  rcases travelResult_travel travels (planEntry s 1).distance with ⟨on, rests | ⟨q, arrives⟩⟩ | ⟨faulted, rests⟩
  · rw [handCompletion, rests, settleOrders_none]
    exact .inl on.1
  · rw [handCompletion, arrives]
    exact settleOrders_arrived _ on q
  · rw [handCompletion, rests, settleOrders_none]
    exact .inr faulted

theorem startRun_autonomous {s : State} (autonomous : s.warning.autonomous = true) : startRun s = judgeAutonomy (beginRun s) :=
  if_pos autonomous

/-- R139: no run is ACTIVE after it. -/
theorem startRun_autonomous_state {s : State} (autonomous : s.warning.autonomous = true) :
    (startRun s).run.state ≠ .active := by
  rw [startRun_autonomous autonomous]
  by_cases active : (beginRun s).run.state = .active
  · rw [judgeAutonomy_active active, (abortRun_aborted _ _).1]
    exact nofun
  · rw [judgeAutonomy_idle active]
    exact active

theorem startRun_autonomous_aborted {s : State} (autonomous : s.warning.autonomous = true)
    (clear : s.cable.switches.surface = false) (ahead : ∃ e ∈ s.gauging.plan.entries, e.method ≠ .edge) :
    (startRun s).run.state = .aborted
      ∧ ((startRun s).cable.motion ≠ .faulted → (startRun s).run.reason = some .linkSilent) := by
  rw [startRun_autonomous autonomous]
  rcases beginRun_rests clear ahead with active | ⟨aborted, faulted⟩
  · rw [judgeAutonomy_active active]
    exact ⟨(abortRun_aborted _ _).1, fun _ => (abortRun_aborted _ _).2.1⟩
  · rw [judgeAutonomy_idle (by rw [aborted]; exact nofun)]
    exact ⟨aborted, fun sound => absurd faulted sound⟩

/-! ## RUN_START as it is taken -/

/-- R161: a waiting request is taken as the reply before it has gone. -/
theorem exec_hostFrameSent_waiting {s : State} {f : HostFrame} (line : s.link.line = some .reply)
    (stays : s.link.restart ≠ .accepted) (waits : s.link.waiting = some f) :
    exec .hostFrameSent s = .next (takeFrame f (s.setLink { s.link with
      inHand := none, reply := none, line := none, waiting := none })) := by
  show Host.Outcome.next (hostSent s) = _
  unfold hostSent
  rw [line]
  dsimp only
  rw [if_neg stays]
  unfold replyGone
  rw [waits]
  rfl

theorem planEntry_first {s : State} {e : PlanEntry} {rest : List PlanEntry} (entries : s.gauging.plan.entries = e :: rest) :
    planEntry s 1 = e := by
  rw [planEntry, entries]
  rfl

theorem planEntry_second {s : State} {e e' : PlanEntry} {rest : List PlanEntry}
    (entries : s.gauging.plan.entries = e :: e' :: rest) : planEntry s 2 = e' := by
  rw [planEntry, entries]
  rfl

/-- R128: an accepted RUN_START of a calm part. -/
theorem taken_runStart {s : State} (tag : Byte) (calm : s.Calm)
    (fit : ¬ (s.run.state = .active ∨ s.run.state = .returning ∨ s.cable.motion ≠ .parked)) (plan : planUnfit s = false)
    (rated : s.gauging.rating ≠ none) (low : s.warning.level < s.warning.settings.withdrawLevel) :
    ∃ t u : State, exec (.runStart tag) s = .next t ∧ u = takenAt (requestFrame tag .runStart) s
      ∧ (((s.setGauging t.gauging).setCable t.cable).setTime t.time).Keeps t
      ∧ t.gauging = (beginRun u).gauging ∧ t.cable = (beginRun u).cable ∧ t.time = (beginRun u).time
      ∧ t.Answered 0x2F tag ([.num 6 s.now, .num 1 s.gauging.plan.entries.length] ++ optInt 3 s.stage.stage) := by
  let u := takenAt (requestFrame tag .runStart) s
  have gauging : u.gauging = s.gauging := takenAt_gauging _ _
  have cable : u.cable = s.cable := takenAt_cable _ _
  have run : u.run = s.run := takenAt_run _ _
  have warning := takenAt_same (requestFrame tag .runStart) s
  have autonomous : u.warning.autonomous = false := warning.autonomous.trans calm.2.2.2
  have takes : answer .runStart u = (beginRun u,
      .reply ([.num 6 s.now, .num 1 s.gauging.plan.entries.length] ++ optInt 3 s.stage.stage)) := by
    have taken := takeRunStart_taken (s := u) (by rw [run, cable]; exact fit)
      (by rw [planUnfit_congr gauging cable]; exact plan) (by rw [gauging]; exact rated)
      (by rw [warning.level, warning.settings]; exact low)
    rw [startRun_calm autonomous, gauging, show u.now = s.now from takenAt_now _ _,
      show u.stage = s.stage from takenAt_stage _ _] at taken
    exact taken
  have leaves : RaisesOnly runSources u (startRun u) :=
    (RaisesOnly.runLeaves (List.Subset.refl _) u).startRun (RaisesOnly.refl _ u)
  rw [startRun_calm autonomous] at leaves
  obtain ⟨t, next, keeps, toGauging, toCable, toTime, -, answered⟩ := taken_run tag .runStart calm takes (RunOnly.beginRun u)
    leaves
  exact ⟨t, u, next, rfl, keeps, toGauging, toCable, toTime, answered⟩

end Sys2Proof.Machine

namespace Sys2Proof.Machine

theorem startable {s : State} (notActive : s.run.state ≠ .active) (notReturning : s.run.state ≠ .returning)
    (parked : s.cable.motion = .parked) :
    ¬ (s.run.state = .active ∨ s.run.state = .returning ∨ s.cable.motion ≠ .parked) := by
  rintro (active | returning | elsewhere)
  · exact notActive active
  · exact notReturning returning
  · exact elsewhere parked

theorem takeRunStart_cases (s : State) : (takeRunStart s).1 = s ∨ (takeRunStart s).1 = startRun s := by
  unfold takeRunStart
  split_ifs
  · exact .inl rfl
  · exact .inl rfl
  · exact .inl rfl
  · exact .inl rfl
  · exact .inr rfl

/-- R161: the part as it takes a waiting frame. -/
def waitingTaken (f : HostFrame) (s : State) : State :=
  s.setLink { s.link with
    inHand := some { kind := f.kind, tag := f.tag }, reply := none, line := none, waiting := none, unready := true }

/-- R139, R161: a waiting RUN_START is taken. -/
theorem exec_waiting_runStart {s : State} {f : HostFrame} (line : s.link.line = some .reply)
    (stays : s.link.restart ≠ .accepted) (waits : s.link.waiting = some f) (content : f.content = .ok .runStart) :
    exec .hostFrameSent s = .next (placeReply f (takeRunStart (waitingTaken f s))) := by
  rw [exec_hostFrameSent_waiting line stays waits]
  unfold takeFrame judgeFrame
  rw [content]
  rfl

/-- Settles O30: RUN_START, taken, refused, and in AUTONOMOUS. -/
theorem runStart : Obligations.RunStart := by
  unfold Obligations.RunStart
  refine ⟨fun s tag e1 e2 rest calm notActive notReturning parked known home clear still entries more edge last span rated
      low => ?_, fun s tag calm => ⟨fun unfit => ?_, fun notActive notReturning parked => ⟨fun unfit => ?_,
        fun plan unrated => ?_, fun plan rated high => ?_⟩⟩,
    fun s f autonomous notActive line stays waits content => ?_⟩
  · obtain ⟨t, u, next, taken, keeps, gauging, cable, time, answered⟩ := taken_runStart tag calm
      (startable notActive notReturning parked)
      (planUnfit_fit entries more edge last span) rated low
    have uCable : u.cable = s.cable := by rw [taken, takenAt_cable]
    have uGauging : u.gauging = s.gauging := by rw [taken, takenAt_gauging]
    have uTime : u.time = s.time := by rw [taken, takenAt_time]
    have uStage : u.stage = s.stage := by rw [taken, takenAt_stage]
    have uNow : u.now = s.now := congrArg TimeBase.runTime uTime
    have moment : presentMoment u = { runTime := s.now, stationTime := s.time.stationTime, stage := s.stage.stage
                                      quality := s.stage.quality } := by
      rw [presentMoment, uNow, uTime, uStage]
    have uEntries : u.gauging.plan.entries = e1 :: e2 :: rest := by rw [uGauging]; exact entries
    have first := planEntry_first uEntries
    have run : t.run = (beginRun u).run := congrArg Gauging.run gauging
    refine ⟨fun far => ?_, fun zero far => ?_⟩
    · have travels := beginRun_travels (s := u) (by rw [uCable]; exact parked) (by rw [uCable]; exact still)
        (by rw [uCable]; exact home) (by rw [uCable]; exact clear) (by rw [uCable, first]; exact far)
      rw [first] at travels
      have unmoved : t.time = s.time := by
        rw [time, travels]
        exact uTime
      rw [unmoved] at keeps
      refine ⟨t, next, keeps, ?_, ?_, ?_, ?_, ?_, ?_, ?_, ?_, ?_, ?_, answered⟩
      · rw [gauging, (RunOnly.beginRun u).plan, uGauging]
      · rw [run, travels]; rfl
      · rw [run, travels]; rfl
      · rw [run, travels]; rfl
      · rw [run, travels]; rfl
      · rw [run, travels]; rfl
      · rw [run, travels, ← moment]; rfl
      · rw [cable, travels, uCable]; rfl
      · rw [cable, travels, uCable]; rfl
      · rw [cable, travels, uCable, uNow]; rfl
    · have second := planEntry_second uEntries
      have length : 1 < u.gauging.plan.entries.length := by
        rw [uEntries, List.length_cons, List.length_cons]
        omega
      have stored := beginRun_edge (s := u) (by rw [uCable]; exact parked) (by rw [uCable]; exact still)
        (by rw [uCable]; exact known) (by rw [uCable]; exact home) (by rw [uCable]; exact clear) (by rw [first]; exact edge)
        (by rw [first]; exact zero) length (by rw [uCable, second]; exact far)
      have result := firstStored_result (s := u) (by rw [first]; exact edge) (by rw [uCable]; exact home)
      have taken := takenOn_run none (firstStored u)
      rw [second] at stored
      rw [result, first, zero] at taken
      have runs : t.run = (takenOn none (firstStored u)).run := by
        rw [run, stored]
        rfl
      have unmoved : t.time = s.time := by
        rw [time, stored]
        exact (storeVertical_time none (firstStored u)).trans uTime
      rw [unmoved] at keeps
      refine ⟨t, next, keeps, ?_, ?_, ?_, ?_, ?_, ?_, ?_⟩
      · rw [runs, taken]; rfl
      · rw [runs, taken]
      · rw [runs, taken]; rfl
      · rw [runs, taken]; rfl
      · rw [cable, stored]; rfl
      · rw [cable, stored, uCable]
        show some (millimetres s.cable.traverseCount) = _
        rw [home, millimetres_zero]
      · rw [cable, stored, uCable]; rfl
  · refine refused_request tag .runStart s calm .state ?_
    exact takeRunStart_state (by rw [takenAt_run, takenAt_cable]; exact unfit)
  · have fit := startable (s := takenAt (requestFrame tag .runStart) s) (by rw [takenAt_run]; exact notActive)
      (by rw [takenAt_run]; exact notReturning) (by rw [takenAt_cable]; exact parked)
    have bad : planUnfit s = true := by
      rw [planUnfit_iff]
      rcases unfit with few | far | ⟨e, head, method⟩ | ⟨e, tail, method⟩
      · exact .inl few
      · exact .inr (.inr (.inr far))
      · refine .inr (.inl ?_)
        rw [head]
        exact fun same => method (Option.some.inj same)
      · refine .inr (.inr (.inl ?_))
        rw [tail]
        exact fun same => method (Option.some.inj same)
    refine refused_request tag .runStart s calm .plan ?_
    exact takeRunStart_plan fit (by rw [planUnfit_congr (takenAt_gauging _ _) (takenAt_cable _ _)]; exact bad)
  · have fit := startable (s := takenAt (requestFrame tag .runStart) s) (by rw [takenAt_run]; exact notActive)
      (by rw [takenAt_run]; exact notReturning) (by rw [takenAt_cable]; exact parked)
    refine refused_request tag .runStart s calm .meter ?_
    exact takeRunStart_meter fit (by rw [planUnfit_congr (takenAt_gauging _ _) (takenAt_cable _ _)]; exact plan)
      (by rw [takenAt_gauging]; exact unrated)
  · have fit := startable (s := takenAt (requestFrame tag .runStart) s) (by rw [takenAt_run]; exact notActive)
      (by rw [takenAt_run]; exact notReturning) (by rw [takenAt_cable]; exact parked)
    have warning := takenAt_same (requestFrame tag .runStart) s
    refine refused_request tag .runStart s calm .level ?_
    exact takeRunStart_level fit (by rw [planUnfit_congr (takenAt_gauging _ _) (takenAt_cable _ _)]; exact plan)
      (by rw [takenAt_gauging]; exact rated) (by rw [warning.level, warning.settings]; exact high)
  · rw [exec_waiting_runStart line stays waits content]
    refine ⟨_, rfl, ?_, fun notReturning parked plan rated ahead clear low => ?_⟩
    · rw [State.run, placeReply_gauging]
      rcases takeRunStart_cases (waitingTaken f s) with refused | taken
      · rw [refused]
        exact notActive
      · rw [taken]
        exact startRun_autonomous_state (s := waitingTaken f s) autonomous
    · have taken := takeRunStart_taken (s := waitingTaken f s) (startable notActive notReturning parked)
        plan rated low
      rw [State.run, placeReply_gauging, placeReply_cable, taken]
      exact startRun_autonomous_aborted (s := waitingTaken f s) autonomous clear ahead

end Sys2Proof.Machine

namespace Sys2Proof.Machine

/-! ## The record appended (R71, R74 to R76) -/

theorem ringRoom_ring (s : State) : ringRoom s.stage.ring = s.heldRecords := by
  unfold ringRoom State.heldRecords Config.ringSize
  by_cases room : s.stage.ring.length < 256
  · rw [if_neg (Nat.not_le.2 room), if_pos room]
  · rw [if_pos (Nat.not_lt.1 room), if_neg room]

/-- R71: a later millisecond than the newest record's has come. -/
theorem ringOpen_iff (s : State) : ringOpen s = true ↔ ∀ r, s.stage.ring.getLast? = some r → r.runTime < s.now := by
  unfold ringOpen
  cases s.stage.ring.getLast? with
  | none => simp
  | some r => simp

theorem appendWaits_iff (s : State) : s.AppendWaits ↔ ¬ (s.stage.waiting = [] ∧ ringOpen s = true) := by
  rw [ringOpen_iff, State.AppendWaits, not_and_or]
  simp only [not_forall, Nat.not_lt, exists_prop, ne_eq]

theorem rateOf_none {held : List StageRecord} {window now : Nat} (x : Int)
    (none_ : windowRecord held ((now : Int) - window * 1000) = none) : rateOf held window now x = none := by
  rw [rateOf, none_]

theorem rateOf_some {held : List StageRecord} {window now : Nat} (x : Int) {k : StageRecord}
    (found : windowRecord held ((now : Int) - window * 1000) = some k) : rateOf held window now x
      = if now - k.runTime < window * 500 then none
        else some (clampInt (-99999) 99999 (divTrunc ((x - k.stage.getD 0) * 3600000) ((now - k.runTime : Nat) : Int))) := by
  rw [rateOf, found]

/-- R76: a record outside the rate window, or without a stage. -/
theorem windowRecord_misses (window now : Nat) (j : StageRecord) :
    ¬ ((j.stage.isSome && decide ((now : Int) - window * 1000 ≤ (j.runTime : Int))) = true)
      ↔ j.stage = none ∨ j.runTime + window * 1000 < now := by
  rw [Bool.and_eq_true, decide_eq_true_eq, not_and_or, Bool.not_eq_true, Option.isSome_eq_false_iff, Option.isNone_iff_eq_none]
  constructor
  · rintro (absent | early)
    · exact .inl absent
    · right
      omega
  · rintro (absent | early)
    · exact .inl absent
    · right
      omega

theorem rateOf_formed (held : List StageRecord) (window now : Nat) (x : Int) :
    rateFormed held window now x (rateOf held window now x) := by
  refine ⟨fun missed => rateOf_none x (List.find?_eq_none.2 fun j mem => ?_), ?_⟩
  · exact (windowRecord_misses window now j).2 (missed j mem)
  · intro older k newer y span split stage within missed span_
    have found : windowRecord held ((now : Int) - window * 1000) = some k := by
      refine List.find?_eq_some_iff_append.2 ⟨?_, older, newer, split, fun j mem => ?_⟩
      · rw [stage, Option.isSome_some, Bool.true_and, decide_eq_true_eq]
        omega
      · rw [Bool.not_eq_true', ← Bool.not_eq_true]
        exact (windowRecord_misses window now j).2 (missed j mem)
    rw [rateOf_some x found, stage, ← span_]
    refine ⟨fun short => if_pos short, fun long => ?_⟩
    rw [if_neg (Nat.not_lt.2 long)]
    rfl

theorem builtRecord_records (kind : Append) (s : State) : s.Records (kind == .event) (builtRecord kind s) := by
  refine ⟨rfl, rfl, rfl, rfl, rfl, rfl, rfl, by cases kind <;> rfl, fun absent => ?_, fun x present _ => ?_⟩
  · simp [builtRecord, absent]
  · have rate : (builtRecord kind s).rate = rateOf (ringRoom s.stage.ring) s.stage.settings.rateWindow s.now x := by
      simp [builtRecord, present]
    rw [rate, ringRoom_ring]
    exact rateOf_formed _ _ _ _

/-! ## What an append leaves (R77) -/

/-- Only the exposure span of the time base differs. -/
def TimeButSpan (x y : TimeBase) : Prop := ∃ span, y = { x with exposureSpan := span }

theorem TimeButSpan.levelSettled {x : TimeBase} (new : Nat) {s : State} (h : TimeButSpan x s.time) :
    TimeButSpan x (levelSettled new s).time := by
  obtain ⟨span, time⟩ := h
  have settled := levelSettled_time new s
  rw [time] at settled
  exact ⟨_, settled⟩

theorem reportBlind_time (b : Bool) (s : State) : (reportBlind b s).time = s.time := by
  unfold reportBlind
  split
  · exact raise_time ..
  · rfl

/-- R77: handing over a rate touches of the time base the exposure span alone. -/
theorem handRate_queue_time (rate : Option Int) (s : State) :
    TimeButSpan s.time (handRate (queueAppend .event) rate s).time := by
  have handed (input : Option Int) : TimeButSpan s.time (handInput (queueAppend .event) .rate input s).time := by
    unfold handInput
    dsimp only
    rw [reportBlind_time]
    refine recompute_keeps (P := fun x => TimeButSpan s.time x.time)
      (fun c n x h => ?_) (fun n x h => h.levelSettled n) (fun x h => ?_) _ _ ?_
    · rwa [levelTold_time]
    · exact h
    · exact ⟨s.time.exposureSpan, rfl⟩
  cases rate with
  | some v =>
    rw [handRate, wake_time]
    exact handed (some v)
  | none => exact handed none

/-- R71, R77: from `s` to `t` a record of this kind has joined the ring, and its rate has been handed on. -/
structure Appended (kind : Append) (s t : State) : Prop where
  stage : ∃ more, t.stage = { (joinRing kind s).stage with waiting := s.stage.waiting ++ more }
  time : TimeButSpan (joinRing kind s).time t.time
  rules : t.warning.rules = handRules .rate s.now (builtRecord kind s).rate s.warning.rules
  rateInput : t.warning.rateInput = (builtRecord kind s).rate
  only : LevelOnly (joinRing kind s) t
  told : s.QualityTold t

theorem State.BlindTold.quality {s t : State} (told : s.BlindTold t) (same : t.stage.quality = s.stage.quality) :
    s.QualityTold t := by
  intro occupied
  obtain ⟨raised, quiet⟩ := told occupied
  have flag : (t.stage.quality != s.stage.quality) = false := by simp [same]
  rw [flag]
  exact ⟨fun changed => raised (changed.resolve_left fun differs => differs same), fun _ blind => quiet blind⟩

theorem append_appended (kind : Append) (s : State) : Appended kind s (append kind s) := by
  obtain ⟨judges, more, stage⟩ := append_effect kind s
  have rate : (append kind s).stage.rate = (builtRecord kind s).rate := by
    rw [stage]
    rfl
  rw [rate] at judges
  simp only [State.judges, Prod.mk.injEq] at judges
  obtain ⟨rules, -, rateInput⟩ := judges
  have only : LevelOnly (joinRing kind s) (append kind s) :=
    LevelOnly.handRate _ (fun x => LevelOnly.queueAppend x .event) _ _
  have told : s.BlindTold (append kind s) :=
    (State.BlindTold.handRate_queue _ (joinRing kind s)).before (RaisesOnly.ofSame rfl rfl) fun i => rfl
  refine ⟨⟨more, stage⟩, handRate_queue_time _ (joinRing kind s), rules, rateInput, only, told.quality ?_⟩
  rw [stage]
  rfl

namespace Appended

variable {kind : Append} {s t : State}

theorem ring (h : Appended kind s t) : t.stage.ring = s.heldRecords ++ [builtRecord kind s] := by
  obtain ⟨more, stage⟩ := h.stage
  rw [stage, ← ringRoom_ring]
  rfl

theorem nextSequence (h : Appended kind s t) : t.stage.nextSequence = (s.stage.nextSequence + 1) % 2 ^ 32 := by
  obtain ⟨more, stage⟩ := h.stage
  rw [stage]
  rfl

theorem rate (h : Appended kind s t) : t.stage.rate = (builtRecord kind s).rate := by
  obtain ⟨more, stage⟩ := h.stage
  rw [stage]
  rfl

theorem items (h : Appended kind s t) : t.stage.items = s.stage.items := by
  obtain ⟨more, stage⟩ := h.stage
  rw [stage]
  rfl

theorem waiting (h : Appended kind s t) : ∃ more, t.stage.waiting = s.stage.waiting ++ more := by
  obtain ⟨more, stage⟩ := h.stage
  exact ⟨more, by rw [stage]⟩

theorem recordExpiry (h : Appended .interval s t) : t.stage.recordExpiry = s.now + recordInterval s := by
  obtain ⟨more, stage⟩ := h.stage
  rw [stage]
  rfl

theorem warmRestart (h : Appended kind s t) : t.stage.warmRestart = false := by
  obtain ⟨more, stage⟩ := h.stage
  rw [stage]
  rfl

theorem stepPending (h : Appended kind s t) : t.time.stepPending = false := by
  obtain ⟨span, time⟩ := h.time
  rw [time]
  rfl

theorem recordMark (h : Appended kind s t) : t.time.recordMark = true ↔ s.time.source = .rc := by
  obtain ⟨span, time⟩ := h.time
  rw [time]
  exact beq_iff_eq

theorem runTime (h : Appended kind s t) : t.time.runTime = s.time.runTime := by
  obtain ⟨span, time⟩ := h.time
  rw [time]
  rfl

theorem stationTime (h : Appended kind s t) : t.time.stationTime = s.time.stationTime := by
  obtain ⟨span, time⟩ := h.time
  rw [time]
  rfl

theorem channels (h : Appended kind s t) : t.channels = s.channels := h.only.channels

theorem heads (h : Appended kind s t) : t.field.heads = s.field.heads := by
  rw [h.only.field]
  rfl

theorem supervisor (h : Appended kind s t) (awake : s.supervisor.quiet ≠ .quiet) : t.supervisor = s.supervisor :=
  h.only.supervisor awake

end Appended

/-! ## O45: the record timer and the waiting appends (R71, R72) -/

theorem recordInterval_normal {s : State} (normal : s.supervisor.quiet = .normal) :
    recordInterval s = s.stage.settings.normalInterval * 1000 := by
  simp [recordInterval, State.quietInForce, normal]

theorem exec_recordTimerExpiry (s : State) : exec .recordTimerExpiry s = .next (recordExpires s) := rfl
theorem exec_waitingAppend (s : State) : exec .waitingAppend s = .next (appendWaiting s) := rfl

theorem recordExpires_early {s : State} (early : s.now < s.stage.recordExpiry) : recordExpires s = s := by
  rw [recordExpires, if_neg]
  simp [recordDue, early]

theorem recordExpires_due {s : State} (due : s.stage.recordExpiry ≤ s.now) (first : Append.interval ∉ s.stage.waiting) :
    recordExpires s = requestAppend .interval s := by
  rw [recordExpires, if_pos]
  simp [recordDue, due, first]

theorem requestAppend_open {s : State} (kind : Append) (empty : s.stage.waiting = []) (opened : ringOpen s = true) :
    requestAppend kind s = append kind s := by
  rw [requestAppend, if_pos ⟨empty, opened⟩]

theorem requestAppend_waits {s : State} (kind : Append) (waits : s.AppendWaits) :
    requestAppend kind s = s.setStage { s.stage with waiting := s.stage.waiting ++ [kind] } := by
  rw [requestAppend, if_neg ((appendWaits_iff s).1 waits)]
  rfl

theorem appendWaiting_none {s : State} (empty : s.stage.waiting = []) : appendWaiting s = s := by
  unfold appendWaiting
  split
  · rfl
  case h_2 kind rest some_ =>
    rw [empty] at some_
    exact nomatch some_

theorem appendWaiting_first {s : State} {kind : Append} {rest : List Append} (first : s.stage.waiting = kind :: rest) :
    appendWaiting s = if ringOpen s then append kind (s.setStage { s.stage with waiting := rest }) else s := by
  unfold appendWaiting
  split
  case h_1 empty =>
    rw [first] at empty
    exact nomatch empty
  case h_2 kind' rest' same =>
    rw [first] at same
    obtain ⟨rfl, rfl⟩ := List.cons.inj same
    rfl

theorem appendWaiting_shut {s : State} (shut : ringOpen s = false) : appendWaiting s = s := by
  cases first : s.stage.waiting with
  | nil => exact appendWaiting_none first
  | cons kind rest => rw [appendWaiting_first first, shut, if_neg Bool.false_ne_true]

/-- Settles O45, by the record an append builds and by what the rate it hands on can reach. -/
theorem stageRecords : Obligations.StageRecords := by
  unfold Obligations.StageRecords
  refine ⟨?_, ?_, ?_, ?_, ?_⟩
  · intro s due empty later normal
    have done := append_appended .interval s
    refine ⟨append .interval s, builtRecord .interval s, ?_, done.ring, builtRecord_records .interval s, done.nextSequence,
      done.rate, ?_, done.warmRestart, done.stepPending, done.recordMark, done.runTime, done.stationTime, done.rateInput,
      done.only.stageInput, done.items, done.channels, done.heads, done.supervisor (by rw [normal]; decide), done.told⟩
    · rw [exec_recordTimerExpiry, recordExpires_due due (by rw [empty]; exact List.not_mem_nil),
        requestAppend_open .interval empty ((ringOpen_iff s).2 later)]
    · rw [done.recordExpiry, recordInterval_normal normal]
  · intro s r newest early
    have shut : ringOpen s = false := by
      rw [← Bool.not_eq_true, ringOpen_iff]
      exact fun opened => absurd (opened r newest) (Nat.not_lt.2 early)
    refine ⟨fun due first => ?_, by rw [exec_waitingAppend, appendWaiting_shut shut]⟩
    rw [exec_recordTimerExpiry, recordExpires_due due first, requestAppend_waits _ (.inr ⟨r, newest, early⟩)]
  · intro s kind rest first later
    have done := append_appended kind (s.setStage { s.stage with waiting := rest })
    obtain ⟨more, waiting⟩ := done.waiting
    refine ⟨append kind (s.setStage { s.stage with waiting := rest }), builtRecord kind (s.setStage { s.stage with waiting := rest }),
      more, ?_, waiting, done.ring, builtRecord_records kind (s.setStage { s.stage with waiting := rest }), done.rate,
      done.nextSequence, done.told, done.channels, done.runTime⟩
    rw [exec_waitingAppend, appendWaiting_first first, if_pos ((ringOpen_iff s).2 later)]
  · intro s empty
    rw [exec_waitingAppend, appendWaiting_none empty]
  · intro s early
    rw [exec_recordTimerExpiry, recordExpires_early early]

end Sys2Proof.Machine

namespace Sys2Proof.Machine

/-! ## What WARNING tells, where nothing can be handed over (R92, R150, R156) -/

/-- R152, R156, R163: the notice holder is occupied, or the part is AUTONOMOUS. -/
def State.HandsNothing (s : State) : Prop := s.link.notice ≠ none ∨ s.warning.autonomous = true

theorem dispatch_of_handsNothing {s : State} (shut : s.HandsNothing) : dispatch s = s := by
  rcases shut with occupied | autonomous
  · exact dispatch_of_unready (linkReady_of_occupied occupied)
  · exact dispatch_of_none (bestSource_eq_none fun j => by simp [eligible, autonomous])

/-- Nothing can be handed over, and this stands in the slot of WARNING. -/
structure State.WarningSlot (x : Option Slot) (s : State) : Prop where
  shut : s.HandsNothing
  slot : s.notices.slots[sourcePlace .warning] = x

namespace State.WarningSlot

variable {x : Option Slot} {s t : State}

theorem ofSame (h : s.WarningSlot x) (link : t.link = s.link) (autonomous : t.warning.autonomous = s.warning.autonomous)
    (notices : t.notices = s.notices) : t.WarningSlot x :=
  ⟨by rw [State.HandsNothing, link, autonomous]; exact h.shut, by rw [notices]; exact h.slot⟩

theorem fillSlot {src : NoticeSource} (other : src ≠ .warning) (c : List Field) (h : s.WarningSlot x) :
    (fillSlot src c s).WarningSlot x := by
  unfold Machine.fillSlot
  rw [dispatch_of_handsNothing (by exact h.shut)]
  refine ⟨h.shut, ?_⟩
  have apart : (sourcePlace src).val ≠ (sourcePlace .warning).val := fun same => other (sourcePlace_injective (Fin.ext same))
  simpa [apart] using h.slot

theorem wake (r : WakeReason) (h : s.WarningSlot x) : (wake r s).WarningSlot x := by
  unfold Machine.wake
  split
  · have filled := fillSlot (src := .quietWake) (by decide) (quietWakeContent s r)
      (h.ofSame (t := s.setSupervisor { s.supervisor with quiet := .woken, wakeOutput := true }) rfl rfl rfl)
    exact filled.ofSame (monitorWoken_link _) (monitorWoken_warning _).autonomous (monitorWoken_notices _)
  · exact h

theorem raise {src : NoticeSource} (other : src ≠ .warning) (c : List Field) (h : s.WarningSlot x) :
    (raise src c s).WarningSlot x := by
  unfold Machine.raise
  dsimp only
  split
  · exact wake _ (fillSlot other c h)
  · exact fillSlot other c h

theorem runLeaves (x : Option Slot) : RunLeaves (State.WarningSlot x) where
  cable _ h := h.ofSame rfl rfl rfl
  run _ h := h.ofSame rfl rfl rfl
  time _ h := h.ofSame rfl rfl rfl
  told src c h runs := by
    refine raise ?_ c h
    rcases runs with rfl | rfl | rfl <;> decide

/-- R150: a raise of WARNING itself. -/
theorem raised (c : List Field) (shut : s.HandsNothing) :
    (Machine.raise .warning c s).WarningSlot (some (raisedSlot .warning s.notices.slots[sourcePlace .warning] c)) := by
  have filled : (Machine.fillSlot .warning c s).WarningSlot
      (some (raisedSlot .warning s.notices.slots[sourcePlace .warning] c)) := by
    unfold Machine.fillSlot
    rw [dispatch_of_handsNothing (by exact shut)]
    refine ⟨shut, ?_⟩
    simp [slotOf]
  unfold Machine.raise
  dsimp only
  split
  · exact wake _ filled
  · exact filled

theorem requestWarn (h : s.WarningSlot x) : (requestWarn s).WarningSlot x :=
  h.ofSame (requestWarn_link s) (by rw [requestWarn_warning]) (requestWarn_notices s)

end State.WarningSlot

/-! ## The event record of a level change that no rate can change again (R73, R77, R91) -/

/-- No enabled rule is a RATE rule. -/
def State.NoRateRule (s : State) : Prop :=
  ∀ j : Fin 8, s.warning.rules[j].definition.enable = true → s.warning.rules[j].definition.kind = .stage

theorem handRules_noRateRule {s : State} (none_ : s.NoRateRule) (now : Nat) (rate : Option Int) :
    handRules .rate now rate s.warning.rules = s.warning.rules := by
  refine Vector.ext fun i at_ => ?_
  have same := LevelOnly.handRules_get .rate now rate s.warning.rules ⟨i, at_⟩
  rw [if_neg] at same
  · exact same
  · rw [watches_iff]
    rintro ⟨enabled, isRate⟩
    rw [none_ _ enabled] at isRate
    exact RuleKind.noConfusion isRate

/-- R77: what asking for the event record leaves of the warning unit: the rate input and the monitor apart, all. -/
def sameButRate (a b : WarningUnit) : Prop := b = { a with rateInput := b.rateInput, monitor := b.monitor }

theorem sameButRate_of_sameBut {a b : WarningUnit} (h : sameBut a b) : sameButRate a b := by
  unfold sameBut at h
  unfold sameButRate
  rw [← h]

theorem sameButRate_trans {a b c : WarningUnit} (h : sameButRate a b) (k : sameButRate b c) : sameButRate a c := by
  unfold sameButRate at *
  rw [k, h]

/-- R73, R77: from `u`, at the level computed, the event record has been appended or waits, and no rate has changed the
level again. -/
structure EventAsked (u a : State) : Prop where
  now : a.now = u.now
  field : a.field = u.field
  cable : a.cable = u.cable
  gauging : a.gauging = u.gauging
  warning : sameButRate u.warning a.warning
  waits : u.AppendWaits → a.stage = { u.stage with waiting := u.stage.waiting ++ [.event] }
  appends : ¬ u.AppendWaits → a.stage = (joinRing .event u).stage
  told : ∀ x, u.WarningSlot x → a.WarningSlot x

theorem handInput_noRateRule {s : State} (none_ : s.NoRateRule) (held : s.LevelHeld) (rate : Option Int) :
    handInput (queueAppend .event) .rate rate s = s.setWarning { s.warning with rateInput := rate } := by
  have rules := handRules_noRateRule none_ s.now rate
  have same : blindDiffers s.warning.rules s.warning.rules = false := by
    rw [← Bool.not_eq_true, blindDiffers_iff]
    exact fun ⟨i, differs⟩ => differs rfl
  unfold handInput reportBlind
  dsimp only
  rw [rules, same, if_neg Bool.false_ne_true]
  exact if_pos held.symm

theorem askEvent_asked {u : State} (held : u.LevelHeld) (quiet : u.AppendWaits ∨ u.NoRateRule) :
    EventAsked u (askEvent u) := by
  by_cases waits : u.AppendWaits
  · rw [askEvent, requestAppend_waits _ waits]
    exact ⟨rfl, rfl, rfl, rfl, rfl, fun _ => rfl, fun no => absurd waits no, fun x h => h.ofSame rfl rfl rfl⟩
  · have none_ : (joinRing .event u).NoRateRule := quiet.resolve_left waits
    obtain ⟨empty, opened⟩ := Decidable.not_not.1 (mt (appendWaits_iff u).2 waits)
    have asked : askEvent u = append .event u := requestAppend_open .event empty opened
    have input := handInput_noRateRule none_ (by exact held) (joinRing .event u).stage.rate
    have slot (x : Option Slot) (h : u.WarningSlot x) : ((joinRing .event u).setWarning
        { (joinRing .event u).warning with rateInput := (joinRing .event u).stage.rate }).WarningSlot x :=
      h.ofSame rfl rfl rfl
    rw [asked, append]
    unfold handRate
    dsimp only
    rw [input]
    split
    · refine ⟨by rw [State.now, wake_time]; rfl, wake_field _ _, wake_cable _ _, wake_gauging _ _,
        sameButRate_trans ?_ (sameButRate_of_sameBut (wake_warning _ _)), fun yes => absurd yes waits, fun _ => wake_stage _ _,
        fun x h => (slot x h).wake _⟩
      rfl
    · exact ⟨rfl, rfl, rfl, rfl, rfl, fun yes => absurd yes waits, fun _ => rfl, slot⟩

end Sys2Proof.Machine

namespace Sys2Proof.Machine

/-! ## All that a level change brings about (R91 to R94, R100, R139) -/

namespace sameButRate

variable {a b : WarningUnit}

theorem rules (h : sameButRate a b) : b.rules = a.rules := by rw [h]
theorem floor (h : sameButRate a b) : b.floor = a.floor := by rw [h]
theorem level (h : sameButRate a b) : b.level = a.level := by rw [h]
theorem lastChange (h : sameButRate a b) : b.lastChange = a.lastChange := by rw [h]
theorem beaconA (h : sameButRate a b) : b.beaconA = a.beaconA := by rw [h]
theorem beaconB (h : sameButRate a b) : b.beaconB = a.beaconB := by rw [h]
theorem siren (h : sameButRate a b) : b.siren = a.siren := by rw [h]
theorem spell (h : sameButRate a b) : b.spell = a.spell := by rw [h]
theorem settings (h : sameButRate a b) : b.settings = a.settings := by rw [h]
theorem autonomous (h : sameButRate a b) : b.autonomous = a.autonomous := by rw [h]

end sameButRate

theorem sirenStarts_iff (old new : Nat) (w : WarningUnit) : sirenStarts old new w = true
    ↔ old < new ∧ w.settings.sirenLevel ≤ new ∧ ∀ e, w.siren ≠ .sounding e := by
  unfold sirenStarts
  cases w.siren <;> simp

theorem sirenStops_iff (new : Nat) (w : WarningUnit) : sirenStops new w = true
    ↔ new < w.settings.sirenLevel ∧ ∃ e, w.siren = .sounding e := by
  unfold sirenStops
  cases w.siren <;> simp

/-- R100: the spell over a level change. -/
theorem levelledWarning_spell (cause : LevelCause) (new : Nat) (s : State) : (levelledWarning cause new s).spell
    = if s.warning.autonomous = true then s.warning.spell.map fun p =>
        { p with
          highest := max p.highest new
          sirenStarts := if sirenStarts s.warning.level new s.warning = true ∧ p.sirenStarts < 255 then p.sirenStarts + 1
            else p.sirenStarts }
      else s.warning.spell := by
  have starts : sirenStarts s.warning.level new (placeLevel cause new s).warning
      = sirenStarts s.warning.level new s.warning := rfl
  have auto : (placeLevel cause new s).warning.autonomous = s.warning.autonomous := rfl
  have spell : (placeLevel cause new s).warning.spell = s.warning.spell := rfl
  unfold levelledWarning judgedWarning
  simp only [starts, auto, spell]
  cases s.warning.autonomous with
  | false => simp
  | true =>
    cases sirenStarts s.warning.level new s.warning with
    | false => simp
    | true => simp [Option.map_map, Function.comp_def, countUp]

/-! ### Content of WARNING -/

/-- R92: what WARNING tells behind the old level. -/
def warningTold (cause : LevelCause) (s : State) : List Field :=
  [.num 1 s.warning.level]
    ++ (match cause with
      | .floor => [.code 1, .absent, .absent]
      | .rule i => [.code 0, .num 1 (i.val + 1), .present, .code (ruleKindCode s.warning.rules[i].definition.kind)]
        ++ optInt 3 s.warning.rules[i].lastValue)
    ++ [.num 1 s.warning.floor]
    ++ listFields ((places 8).filter fun i =>
        s.warning.rules[i].state == .active || s.warning.rules[i].state == .clearing) (fun i =>
        [.num 1 (i.val + 1), .num 1 s.warning.rules[i].definition.level, .code (ruleStateCode s.warning.rules[i].state)])
    ++ optInt 3 s.warning.stageInput ++ optInt 3 s.warning.rateInput
    ++ [.code (sirenCode s.warning.siren), .flag s.warning.autonomous, .num 6 s.now]
    ++ optTime s.time.stationTime

theorem warningContent_eq (old : Nat) (cause : LevelCause) (s : State) :
    warningContent old s.warning.level cause s = .num 1 old :: warningTold cause s := by
  cases cause with
  | floor => simp [warningContent, warningTold, levelCauseFields, causeRule, optField, optInt, ruleHolds, numberOf, timeField]
  | rule i =>
    simp [warningContent, warningTold, levelCauseFields, causeRule, optField, ruleHolds, numberOf, timeField]

/-- R150: a raise of WARNING keeps the old level already in the slot. -/
theorem raisedSlot_warning (slot : Option Slot) (first : Field) (rest : List Field) :
    ∃ y told, some (raisedSlot .warning slot (first :: rest)) = some y ∧ y.content = told :: rest
      ∧ (slot = none → told = first)
      ∧ ∀ z kept more, slot = some z → z.content = kept :: more → told = kept := by
  cases slot with
  | none => exact ⟨_, first, rfl, rfl, fun _ => rfl, fun z kept more some_ => nomatch some_⟩
  | some held =>
    cases content : held.content with
    | nil =>
      refine ⟨_, first, rfl, by simp [raisedSlot, content, replacedContent], fun no => (nomatch no), fun z kept more same full => ?_⟩
      obtain rfl := Option.some.inj same
      rw [content] at full
      exact nomatch full
    | cons kept more =>
      refine ⟨_, kept, rfl, by simp [raisedSlot, content, replacedContent], fun no => (nomatch no), fun z kept' more' same full => ?_⟩
      obtain rfl := Option.some.inj same
      rw [content] at full
      exact (List.cons.inj full).1

/-! ### The steps put together -/

theorem builtRecord_congr {s t : State} (kind : Append) (stage : t.stage = s.stage) (time : t.time = s.time)
    (level : t.warning.level = s.warning.level) (autonomous : t.warning.autonomous = s.warning.autonomous)
    (gauging : t.gauging = s.gauging) : builtRecord kind t = builtRecord kind s := by
  simp only [builtRecord, recordFlags, runActive, State.run, State.now, stage, time, level, autonomous, gauging]

theorem warnFrame_congr {s t : State} (settings : t.field.settings = s.field.settings)
    (level : t.warning.level = s.warning.level) (siren : t.warning.siren = s.warning.siren)
    (autonomous : t.warning.autonomous = s.warning.autonomous) : warnFrame t = warnFrame s := by
  have sounds : sirenSounds t = sirenSounds s := by
    unfold sirenSounds
    rw [siren]
  simp only [warnFrame, sounds, settings, level, autonomous]

theorem levelTold_level (cause : LevelCause) (new : Nat) (s : State) : (levelTold cause new s).warning.level = new :=
  (levelTold_warning cause new s).level

theorem levelTold_autonomous (cause : LevelCause) (new : Nat) (s : State) :
    (levelTold cause new s).warning.autonomous = s.warning.autonomous :=
  (levelTold_warning cause new s).autonomous

theorem levelTold_field (cause : LevelCause) (new : Nat) (s : State) :
    (levelTold cause new s).field = levelledField cause new s := by
  simp [levelTold_eq]

theorem appendWaits_congr {s t : State} (stage : t.stage = s.stage) (now : t.now = s.now) :
    t.AppendWaits ↔ s.AppendWaits := by
  rw [State.AppendWaits, stage, now, State.AppendWaits]

/-- R89: once the level is placed, it is the level computed. -/
theorem levelTold_held {cause : LevelCause} {new : Nat} {s : State} (computed : new = computedLevel s.warning) :
    (levelTold cause new s).LevelHeld := by
  rw [State.LevelHeld, levelTold_level, computedLevel, levelTold_floor, levelTold_rules]
  exact computed

section
variable {cause : LevelCause} {new : Nat} {s a : State}

theorem levelSettled_sameButRate (asked : sameButRate (levelTold cause new s).warning a.warning) :
    sameButRate (levelledWarning cause new s) (levelSettled new a).warning :=
  sameButRate_trans (sameButRate_of_sameBut (levelTold_warning cause new s))
    (sameButRate_trans asked (sameButRate_of_sameBut (levelSettled_warning new a)))

/-- R91, step 6: on a transmitter that is not FREE the request stands. -/
theorem levelSettled_busy (field : a.field = levelledField cause new s) (busy : s.field.tx ≠ .free) :
    (levelSettled new a).field = { s.field with warn := .standing } := by
  have stillBusy : (levelledField cause new s).tx ≠ .free
      ∧ { levelledField cause new s with warn := .standing } = { s.field with warn := .standing } := by
    unfold levelledField
    split
    · rw [requestWarn_busy (by exact busy)]
      exact ⟨busy, rfl⟩
    · exact ⟨busy, rfl⟩
  rw [levelSettled_field, requestWarn_busy (by rw [field]; exact stillBusy.1), field]
  exact stillBusy.2

/-- The WARN chosen for a level change, its frame apart. -/
def chosenWarn (new : Nat) (frame : FieldFrame) (s : State) : Transaction :=
  { kind := .warn new, attempts := 0, backoffBits := s.field.settings.backoffBits
    singleAttempt := s.field.settings.singleAttempt, frame := frame }

/-- R39, R91: on a FREE transmitter the WARN goes out; where the siren has started or stopped, its own WARN does (log 20), and
that of the level change stands. -/
theorem levelSettled_free (field : a.field = levelledField cause new s) (now : a.now = s.now)
    (asked : sameButRate (levelledWarning cause new s) a.warning) (free : s.field.tx = .free) :
    (levelSettled new a).field = { s.field with
      warn := if sirenStarts s.warning.level new s.warning = true ∨ sirenStops new s.warning = true then .standing else .none
      tx := .waitingIdle, deferral := some (s.now + 1500)
      transaction := some (chosenWarn new (warnFrame (s.setWarning (levelledWarning cause new s))) s) } := by
  rw [levelSettled_field]
  unfold levelledField at field
  by_cases moved : sirenStarts s.warning.level new s.warning = true ∨ sirenStops new s.warning = true
  · rw [if_pos (by rwa [Bool.or_eq_true]), requestWarn_free (by exact free)] at field
    rw [if_pos moved, requestWarn_busy (by rw [field]; exact nofun), field]
    have frame : warnFrame (s.setWarning (judgedWarning s.warning.level new s.now (placeLevel cause new s).warning))
        = warnFrame (s.setWarning (levelledWarning cause new s)) := warnFrame_congr rfl rfl rfl rfl
    rw [frame]
    rfl
  · rw [if_neg (by rwa [Bool.or_eq_true])] at field
    have frame : warnFrame a = warnFrame (s.setWarning (levelledWarning cause new s)) :=
      warnFrame_congr (by rw [field]; rfl) asked.level asked.siren asked.autonomous
    have level : a.warning.level = new := asked.level
    rw [if_neg moved, requestWarn_free (by rw [field]; exact free), field, now, frame, level]
    rfl

end

theorem levelTold_warningSlot (cause : LevelCause) (new : Nat) {s : State} (shut : s.HandsNothing) :
    (levelTold cause new s).WarningSlot (some (raisedSlot .warning s.notices.slots[sourcePlace .warning]
      (.num 1 s.warning.level
        :: warningTold cause ((s.setField (levelledField cause new s)).setWarning (levelledWarning cause new s))))) := by
  rw [levelTold_eq]
  have raised := State.WarningSlot.raised (s := (s.setField (levelledField cause new s)).setWarning (levelledWarning cause new s))
    (.num 1 s.warning.level
      :: warningTold cause ((s.setField (levelledField cause new s)).setWarning (levelledWarning cause new s))) (by exact shut)
  rw [← warningContent_eq] at raised ⊢
  exact raised

theorem levelSettled_warningSlot (new : Nat) {x : Option Slot} {s : State} (h : s.WarningSlot x) :
    (levelSettled new s).WarningSlot x :=
  ((State.WarningSlot.runLeaves x).judgeWithdraw h.requestWarn).wake _

/-- R91: a level change to the level computed, where no rate can change it again. -/
theorem changeLevel_levelChanged {cause : LevelCause} {new : Nat} {s : State} (computed : new = computedLevel s.warning)
    (quiet : s.AppendWaits ∨ s.NoRateRule) :
    s.LevelChanged (changeLevel askEvent cause new s) cause new
      ∧ (changeLevel askEvent cause new s).warning.rules = s.warning.rules := by
  have still : (levelTold cause new s).AppendWaits ↔ s.AppendWaits := appendWaits_congr (levelTold_stage ..) (levelTold_now ..)
  have noRate : s.NoRateRule → (levelTold cause new s).NoRateRule := by
    unfold State.NoRateRule
    rw [levelTold_rules]
    exact id
  obtain ⟨now, field, cable, gauging, warning, waits, appends, told⟩ :=
    askEvent_asked (levelTold_held computed) (quiet.imp still.2 noRate)
  have supervisor : s.supervisor.quiet = .normal → (changeLevel askEvent cause new s).supervisor = s.supervisor :=
    fun normal => (LevelOnly.changeLevel askEvent LevelOnly.askEvent s cause new).supervisor (by rw [normal]; decide)
  rw [changeLevel_eq] at supervisor ⊢
  generalize askEvent (levelTold cause new s) = a at *
  rw [levelTold_field] at field
  rw [levelTold_now] at now
  rw [levelTold_cable] at cable
  rw [levelTold_gauging] at gauging
  rw [still, levelTold_stage] at waits
  rw [still] at appends
  have asked : sameButRate (levelledWarning cause new s) a.warning :=
    sameButRate_trans (sameButRate_of_sameBut (levelTold_warning cause new s)) warning
  have after := levelSettled_sameButRate (new := new) warning
  refine ⟨⟨sirenStarts s.warning.level new s.warning, sirenStops new s.warning, s.warning.level, s.warning.settings, rfl, rfl,
    sirenStarts_iff _ _ _, sirenStops_iff _ _, after.level, after.lastChange, after.beaconA, after.beaconB, after.siren,
    after.spell.trans (levelledWarning_spell cause new s), levelSettled_busy field, fun free => ?_, fun shut => ?_,
    fun wait => ?_, fun go => ?_, fun active reaches => ?_, fun stands => ?_, supervisor⟩, after.rules⟩
  · rw [levelSettled_free field now asked free]
    have sounds : sirenSounds (levelSettled new a) = sirenSounds (s.setWarning (levelledWarning cause new s)) := by
      unfold sirenSounds
      rw [after.siren] <;> rfl
    rw [sounds]
    exact ⟨rfl, rfl, rfl, rfl, rfl, rfl⟩
  · obtain ⟨y, first, slot, content, fresh, kept⟩ := raisedSlot_warning s.notices.slots[sourcePlace .warning]
      (.num 1 s.warning.level) (warningTold cause ((s.setField (levelledField cause new s)).setWarning (levelledWarning cause new s)))
    refine ⟨y, first, _, ?_, content, fresh, kept, ?_⟩
    · rw [← slot]
      exact (levelSettled_warningSlot new (told _ (levelTold_warningSlot cause new shut))).slot
    · rw [after.rules, after.floor, after.siren]
      cases cause <;> rfl
  · rw [levelSettled_stage, waits wait]
  · have record : builtRecord .event (levelTold cause new s) = builtRecord .event (s.setWarning { s.warning with level := new }) :=
      builtRecord_congr .event (levelTold_stage ..) (levelTold_time ..) (levelTold_level ..) (levelTold_autonomous ..)
        (levelTold_gauging ..)
    have empty : s.stage.waiting = [] := (not_or.1 go).1 |> Decidable.not_not.1
    rw [levelSettled_stage, appends go]
    refine ⟨builtRecord .event (levelTold cause new s), ?_, ?_, ?_, ?_⟩
    · rw [← ringRoom_ring, ← levelTold_stage cause new s]
      rfl
    · rw [record]
      exact builtRecord_records .event _
    · rw [← empty, ← levelTold_stage cause new s]
      rfl
    · rw [← levelTold_stage cause new s]
      rfl
  · have reached : (requestWarn a).warning.settings.withdrawLevel ≤ (requestWarn a).warning.level := by
      rw [requestWarn_warning, asked.settings, asked.level]
      exact reaches
    have active_ : (requestWarn a).run.state = .active := by
      rw [State.run, requestWarn_gauging, gauging]
      exact active
    rw [levelSettled, judgeWithdraw_active active_ reached, State.run, wake_gauging]
    exact abortRun_aborted .withdraw _
  · have stands_ : (requestWarn a).run.state ≠ .active
        ∨ (requestWarn a).warning.level < (requestWarn a).warning.settings.withdrawLevel := by
      rw [requestWarn_warning, asked.settings, asked.level, State.run, requestWarn_gauging, gauging]
      exact stands
    rw [levelSettled, judgeWithdraw_stands stands_, wake_gauging, wake_cable, requestWarn_gauging, requestWarn_cable]
    exact ⟨gauging, cable⟩

end Sys2Proof.Machine

namespace Sys2Proof.Machine

/-! ## A level change seen from the request that brings it about -/

/-- What a level change rests on is in `x` as it is in `s`. -/
structure LevelBase (s x : State) : Prop where
  time : x.time = s.time
  field : x.field = s.field
  stage : x.stage = s.stage
  cable : x.cable = s.cable
  gauging : x.gauging = s.gauging
  supervisor : x.supervisor = s.supervisor
  notice : x.link.notice = s.link.notice
  slots : x.notices.slots = s.notices.slots
  level : x.warning.level = s.warning.level
  settings : x.warning.settings = s.warning.settings
  siren : x.warning.siren = s.warning.siren
  spell : x.warning.spell = s.warning.spell
  autonomous : x.warning.autonomous = s.warning.autonomous
  stageInput : x.warning.stageInput = s.warning.stageInput
  rateInput : x.warning.rateInput = s.warning.rateInput

theorem State.LevelChanged.ofBase {s x t : State} {cause : LevelCause} {new : Nat} (h : x.LevelChanged t cause new)
    (base : LevelBase s x) : s.LevelChanged t cause new := by
  obtain ⟨time, field, stage, cable, gauging, supervisor, notice, slots, level, settings, siren, spell, autonomous, stageInput,
    rateInput⟩ := base
  unfold State.LevelChanged at *
  simp only [State.AppendWaits, State.heldRecords, State.Records, State.now, State.run, State.setWarning, time, field, stage,
    cable, gauging, supervisor, notice, slots, level, settings, siren, spell, autonomous, stageInput, rateInput] at *
  exact h

/-- The parts that a level change settles stand from `t` to `u`. -/
structure LevelStands (t u : State) : Prop where
  warning : sameBut t.warning u.warning
  field : u.field = t.field
  stage : u.stage = t.stage
  cable : u.cable = t.cable
  gauging : u.gauging = t.gauging
  supervisor : u.supervisor = t.supervisor

theorem State.LevelChanged.after {s t u : State} {cause : LevelCause} {new : Nat} (h : s.LevelChanged t cause new)
    (stands : LevelStands t u)
    (slots : s.HandsNothing → u.notices.slots[sourcePlace .warning] = t.notices.slots[sourcePlace .warning]) :
    s.LevelChanged u cause new := by
  obtain ⟨warning, field, stage, cable, gauging, supervisor⟩ := stands
  unfold State.HandsNothing at slots
  unfold State.LevelChanged at *
  have sounds : sirenSounds u = sirenSounds t := by
    unfold sirenSounds
    rw [warning.siren]
  simp only [State.run, sounds, field, stage, cable, gauging, supervisor, warning.level, warning.lastChange, warning.beaconA,
    warning.beaconB, warning.siren, warning.spell, warning.floor, warning.rules] at *
  obtain ⟨starts, stops, old, x, oldIs, xIs, a, b, c, d, e, f, g, i, j, k, told, rest⟩ := h
  exact ⟨starts, stops, old, x, oldIs, xIs, a, b, c, d, e, f, g, i, j, k, fun shut => by rw [slots shut]; exact told shut, rest⟩

/-! ### The moment of the last change -/

/-- It is `n`, and the last change of the level was then. -/
structure State.ChangedAt (n : Nat) (s : State) : Prop where
  now : s.now = n
  last : s.warning.lastChange.map (·.runTime) = some n

namespace State.ChangedAt

variable {n : Nat} {s t : State}

theorem ofLevelTold (cause : LevelCause) (new : Nat) (now : s.now = n) : (levelTold cause new s).ChangedAt n := by
  refine ⟨by rw [levelTold_now, now], ?_⟩
  rw [(levelTold_warning cause new s).lastChange, ← now]
  rfl

theorem levelSettled (h : s.ChangedAt n) (new : Nat) : (levelSettled new s).ChangedAt n :=
  ⟨by rw [levelSettled_now, h.now], by rw [(levelSettled_warning new s).lastChange, h.last]⟩

theorem ofSame (h : s.ChangedAt n) (last : t.warning.lastChange = s.warning.lastChange) (time : t.time.runTime = s.time.runTime) :
    t.ChangedAt n :=
  ⟨time.trans h.now, by rw [last, h.last]⟩

theorem recompute {ask : State → State} (asks : ∀ x : State, x.ChangedAt n → (ask x).ChangedAt n) (before : Vector Rule 8)
    (forced : Option LevelCause) (h : s.ChangedAt n) : (recompute ask before forced s).ChangedAt n :=
  recompute_keeps (P := State.ChangedAt n) (fun c m _ held => ofLevelTold c m held.now) (fun m _ held => held.levelSettled m)
    asks before forced h

theorem handInput_rate {ask : State → State} (asks : ∀ x : State, x.ChangedAt n → (ask x).ChangedAt n) (rate : Option Int)
    (h : s.ChangedAt n) : (handInput ask .rate rate s).ChangedAt n := by
  have computed := recompute asks s.warning.rules none (h.ofSame (t := s.setWarning
    { setInput .rate rate s.warning with rules := handRules .rate s.now rate s.warning.rules }) rfl rfl)
  unfold handInput reportBlind
  dsimp only
  split
  · exact computed.ofSame (raise_warning ..).lastChange (by rw [raiseStageQuality, raise_time])
  · exact computed

theorem handRate_queue (h : s.ChangedAt n) (rate : Option Int) : (handRate (queueAppend .event) rate s).ChangedAt n := by
  have handed := handInput_rate (ask := queueAppend .event) (fun _ held => held.ofSame rfl rfl) rate h
  unfold handRate
  dsimp only
  split
  · exact handed.ofSame (wake_warning ..).lastChange (by rw [wake_time])
  · exact handed

theorem askEvent (h : s.ChangedAt n) : (askEvent s).ChangedAt n := by
  unfold Machine.askEvent requestAppend
  split
  · exact handRate_queue (h.ofSame (t := joinRing .event s) rfl rfl) _
  · exact h.ofSame rfl rfl

end State.ChangedAt

theorem changeLevel_changedAt (cause : LevelCause) (new : Nat) (s : State) : (changeLevel askEvent cause new s).ChangedAt s.now := by
  rw [changeLevel_eq]
  exact (State.ChangedAt.ofLevelTold cause new rfl).askEvent.levelSettled new

theorem recompute_changes {ask : State → State} {before : Vector Rule 8} {forced : Option LevelCause} {s : State}
    (changes : computedLevel s.warning ≠ s.warning.level) : recompute ask before forced s
      = changeLevel ask (forced.getD (changeCause before s.warning (computedLevel s.warning))) (computedLevel s.warning) s := by
  unfold recompute
  exact if_neg changes

theorem recompute_stands {ask : State → State} {before : Vector Rule 8} {forced : Option LevelCause} {s : State}
    (stands : computedLevel s.warning = s.warning.level) : recompute ask before forced s = s := by
  unfold recompute
  exact if_pos stands

/-! ## O23: WARNING_FLOOR (R90) -/

/-- R90: the part under another floor. -/
def underFloor (floor : Nat) (s : State) : State := s.setWarning { s.warning with floor := floor }

theorem takeWarningFloor_taken {floor : Nat} (range : floor ≤ 3) (s : State) : takeWarningFloor askEvent floor s
    = (recompute askEvent s.warning.rules (some .floor) (underFloor floor s),
        .reply [.num 1 floor, .num 1 (recompute askEvent s.warning.rules (some .floor) (underFloor floor s)).warning.level]) := by
  have kept := (LevelOnly.recompute askEvent LevelOnly.askEvent s.warning.rules (some .floor) (underFloor floor s)).floor
  unfold takeWarningFloor
  rw [if_neg (Nat.not_lt.2 range)]
  dsimp only [underFloor] at *
  rw [kept] <;> rfl

theorem underFloor_base {floor : Nat} (f : HostFrame) (s : State) : LevelBase s (underFloor floor (takenAt f s)) := by
  have same := takenAt_same f s
  refine ⟨takenAt_time f s, takenAt_field f s, takenAt_stage f s, takenAt_cable f s, takenAt_gauging f s, takenAt_supervisor f s,
    by simp [underFloor], by simp [underFloor], same.level, same.settings, same.siren, same.spell, same.autonomous,
    same.stageInput, same.rateInput⟩

/-- Settles O23: the level computed under the floor, what its change brings about, and the refusal. -/
theorem warningFloor : Obligations.WarningFloor := by
  unfold Obligations.WarningFloor
  intro s tag floor calm
  refine ⟨fun range => ?_, fun high => refused_request tag (.warningFloor floor) s calm .range (if_pos high)⟩
  have arrival := keeps_takenAt (requestFrame tag (.warningFloor floor)) s
  have base : LevelBase s (underFloor floor (takenAt (requestFrame tag (.warningFloor floor)) s)) := underFloor_base _ s
  have inHand : (takenAt (requestFrame tag (.warningFloor floor)) s).link.inHand
      = some { kind := requestKind (.warningFloor floor), tag := tag } := by simp [requestFrame]
  generalize u_eq : takenAt (requestFrame tag (.warningFloor floor)) s = u at base arrival inHand
  have answer_ : answer (.warningFloor floor) (takenAt (requestFrame tag (.warningFloor floor)) s)
      = (recompute askEvent u.warning.rules (some .floor) (underFloor floor u),
          .reply [.num 1 floor, .num 1 (recompute askEvent u.warning.rules (some .floor) (underFloor floor u)).warning.level]) := by
    rw [u_eq]
    exact takeWarningFloor_taken range u
  have only := LevelOnly.recompute askEvent LevelOnly.askEvent u.warning.rules (some .floor) (underFloor floor u)
  have held := recompute_held askEvent askEvent_held u.warning.rules (some .floor) (underFloor floor u)
  have raises := RaisesOnly.recompute (l := voteSources) (by decide) (RaisesOnly.askEvent fun _ h => h) u.warning.rules
    (some .floor) (underFloor floor u)
  have rules : u.warning.rules = s.warning.rules := arrival.warning.rules
  have computed : computedLevel (underFloor floor u).warning = max floor (rulesLevel s.warning.rules) := by
    rw [← rules]
    rfl
  have changes := recompute_changes (ask := askEvent) (before := u.warning.rules) (forced := some .floor) (s := underFloor floor u)
  have stands := recompute_stands (ask := askEvent) (before := u.warning.rules) (forced := some .floor) (s := underFloor floor u)
  rw [computed, base.level] at changes stands
  rw [Option.getD_some] at changes
  have answers := answered_request tag (.warningFloor floor) s _ calm _ answer_ (by rw [only.link]; exact inHand)
  have occupied : s.link.notice ≠ none →
      (recompute askEvent u.warning.rules (some .floor) (underFloor floor u)).link.notice ≠ none :=
    fun notice => raises.occupied (by rw [base.notice]; exact notice)
  generalize recompute askEvent u.warning.rules (some .floor) (underFloor floor u) = z at *
  obtain ⟨t, next, placed, answered⟩ := answers
  have kept := keeps_placeReply (requestFrame tag (.warningFloor floor)) (z, .reply [.num 1 floor, .num 1 z.warning.level]) z
    (Keeps.refl z)
  rw [← placed] at kept
  have after : LevelStands z t := ⟨kept.warning, kept.field, kept.stage, kept.cable, kept.gauging, kept.supervisor⟩
  refine ⟨t, next, ?_, levelHeld_sameBut held kept.warning, fun i => ?_, ?_, ?_, ?_, ?_, fun same => ?_, fun differs => ⟨?_, fun quiet => ?_⟩⟩
  · rw [kept.warning.floor, only.floor]
    rfl
  · rw [kept.warning.rules, only.definitions i, ← rules]
    rfl
  · rw [kept.supervisor, only.supervisor (by rw [base.supervisor, calm.2.2.1]; decide), base.supervisor]
  · rw [kept.channels, only.channels]
    exact arrival.channels
  · have runTime : u.time.runTime = s.time.runTime := by rw [arrival.time]
    rw [kept.time, only.time]
    exact runTime
  · rw [kept.warning.level]
    exact answered
  · rw [stands same] at kept
    have under : (s.setWarning { s.warning with floor := floor }).Keeps (underFloor floor u) := by
      obtain ⟨time, field, channels, stage, warning, rest⟩ := arrival
      refine ⟨time, field, channels, stage, ?_, rest⟩
      unfold sameBut at *
      show { s.warning with floor := floor, monitor := u.warning.monitor } = { u.warning with floor := floor }
      rw [← warning]
    exact Keeps.trans under kept
  · have last := (changeLevel_changedAt .floor (max floor (rulesLevel s.warning.rules)) (underFloor floor u)).last
    have now : (underFloor floor u).now = s.now := congrArg TimeBase.runTime base.time
    rw [now] at last
    rw [kept.warning.lastChange, changes differs]
    exact last
  · have settled : (underFloor floor u).AppendWaits ∨ (underFloor floor u).NoRateRule := by
      rw [appendWaits_congr base.stage (congrArg TimeBase.runTime base.time)]
      refine quiet.imp_right fun noRate => ?_
      unfold State.NoRateRule
      show ∀ j : Fin 8, u.warning.rules[j].definition.enable = true → u.warning.rules[j].definition.kind = .stage
      rw [rules]
      exact noRate
    obtain ⟨changed, sameRules⟩ := changeLevel_levelChanged (cause := .floor) computed.symm settled
    rw [changes differs] at after kept occupied placed
    refine ⟨(changed.ofBase base).after after fun shut => ?_, fun j => ?_⟩
    · have notice : s.link.notice ≠ none := shut.resolve_right (by rw [calm.2.2.2]; decide)
      rw [placed, (placeReply_notices _ (occupied notice)).1]
    · have under : (underFloor floor u).warning.rules = s.warning.rules := rules
      rw [kept.warning.rules, sameRules, under]

end Sys2Proof.Machine

namespace Sys2Proof.Machine

/-! ## The level over one rule that moves (R87, R89) -/

/-- R89: a level above 0 is that of a rule in ACTIVE or CLEARING. -/
theorem rulesLevel_attained {rules : Vector Rule 8} (some_ : 0 < rulesLevel rules) :
    ∃ i : Fin 8, ruleHolds rules[i] = true ∧ rules[i].definition.level = rulesLevel rules := by
  have above : ¬ rulesLevel rules ≤ rulesLevel rules - 1 := by omega
  rw [rulesLevel_le_iff] at above
  simp only [not_forall] at above
  obtain ⟨i, holds, high⟩ := above
  have least := (rulesLevel_le_iff rules _).1 (Nat.le_refl _) i holds
  exact ⟨i, holds, by omega⟩

theorem level_le_rulesLevel {rules : Vector Rule 8} {i : Fin 8} (holds : ruleHolds rules[i] = true) :
    rules[i].definition.level ≤ rulesLevel rules :=
  (rulesLevel_le_iff rules _).1 (Nat.le_refl _) i holds

/-- R87: rule `i` goes from CONFIRMING to ACTIVE, or from CLEARING to IDLE, and is `r` then. -/
def RuleMoved (s : State) (i : Fin 8) (r : Rule) : Prop :=
  (s.warning.rules[i].state = .confirming
      ∧ r = { s.warning.rules[i] with state := .active, timer := .none, lastChange := some s.now })
    ∨ (s.warning.rules[i].state = .clearing
      ∧ r = { s.warning.rules[i] with state := .idle, timer := .none, lastChange := some s.now })

/-- R87: a rule stands as `r`, and the level is computed. -/
def ruleMoves (i : Fin 8) (r : Rule) (s : State) : State :=
  recompute askEvent s.warning.rules none (s.setRules (s.warning.rules.set i r))

namespace RuleMoved

variable {s : State} {i : Fin 8} {r : Rule}

theorem definition (h : RuleMoved s i r) : r.definition = s.warning.rules[i].definition := by
  rcases h with ⟨-, rfl⟩ | ⟨-, rfl⟩
  · rfl
  · rfl

theorem blind (h : RuleMoved s i r) : r.blind = s.warning.rules[i].blind := by
  rcases h with ⟨-, rfl⟩ | ⟨-, rfl⟩
  · rfl
  · rfl

theorem state_ne (h : RuleMoved s i r) : s.warning.rules[i].state ≠ r.state := by
  rcases h with ⟨state, rfl⟩ | ⟨state, rfl⟩
  · rw [state]
    exact nofun
  · rw [state]
    exact nofun

end RuleMoved

/-- Only rule `i` has changed its state. -/
theorem changed_of_set {rules : Vector Rule 8} {i : Fin 8} {r : Rule} (moved : rules[i].state ≠ r.state) :
    ((places 8).filter fun j => rules[j].state != (rules.set i r)[j].state) = [i] := by
  have only (j : Fin 8) : (rules[j].state != (rules.set i r)[j].state) = (j == i) := by
    by_cases same : j = i
    · subst same
      simpa using moved
    · have apart : i.val ≠ j.val := fun equal => same (Fin.ext equal.symm)
      simp [apart, same]
  rw [List.filter_congr fun j _ => only j]
  clear only moved
  revert i
  decide

theorem set_holds {rules : Vector Rule 8} {i j : Fin 8} (r : Rule) (apart : j ≠ i) : (rules.set i r)[j] = rules[j] :=
  Vector.getElem_set_ne _ _ fun same => apart (Fin.ext same.symm)

theorem set_self (rules : Vector Rule 8) (i : Fin 8) (r : Rule) : (rules.set i r)[i] = r := Vector.getElem_set_self _

/-- R89: the rule that alone has moved is the cause of the change. -/
theorem changeCause_of_moved {s : State} {i : Fin 8} {r : Rule} {new : Nat} (moved : RuleMoved s i r) (held : s.LevelHeld)
    (computed : new = max s.warning.floor (rulesLevel (s.warning.rules.set i r))) (differs : new ≠ s.warning.level) :
    changeCause s.warning.rules { s.warning with rules := s.warning.rules.set i r } new = .rule i := by
  have level : s.warning.level = max s.warning.floor (rulesLevel s.warning.rules) := held
  unfold changeCause
  dsimp only
  rw [changed_of_set moved.state_ne]
  by_cases rise : s.warning.level < new
  · have positive : 0 < rulesLevel (s.warning.rules.set i r) := by omega
    obtain ⟨j, holds, attained⟩ := rulesLevel_attained positive
    have same : j = i := by
      by_contra apart
      rw [set_holds r apart] at holds attained
      have := level_le_rulesLevel holds
      omega
    subst same
    have isNew : (s.warning.rules.set j r)[j].definition.level = new := by omega
    rw [if_pos rise, List.find?_cons_of_pos (by rw [holds, isNew, beq_self_eq_true, Bool.and_self])]
  · have positive : 0 < rulesLevel s.warning.rules := by omega
    obtain ⟨j, holds, attained⟩ := rulesLevel_attained positive
    have same : j = i := by
      by_contra apart
      rw [← set_holds r apart] at holds attained
      have := level_le_rulesLevel holds
      omega
    subst same
    have isOld : s.warning.rules[j].definition.level = s.warning.level := by omega
    rw [if_neg rise, List.find?_cons_of_pos (by rw [holds, isOld, beq_self_eq_true, Bool.and_self])]

section
variable {s : State} {i : Fin 8} {r : Rule}

theorem ruleMoves_only (i : Fin 8) (r : Rule) (s : State) :
    LevelOnly (s.setRules (s.warning.rules.set i r)) (ruleMoves i r s) :=
  LevelOnly.recompute askEvent LevelOnly.askEvent _ _ _

theorem ruleMoves_held (i : Fin 8) (r : Rule) (s : State) : (ruleMoves i r s).LevelHeld :=
  recompute_held askEvent askEvent_held _ _ _

/-- R87, R88: what stands over a moved rule. -/
theorem ruleMoves_stands (moved : RuleMoved s i r) :
    (ruleMoves i r s).LevelHeld ∧ (ruleMoves i r s).warning.floor = s.warning.floor
      ∧ (ruleMoves i r s).channels = s.channels ∧ (ruleMoves i r s).time.runTime = s.time.runTime
      ∧ (ruleMoves i r s).field.heads = s.field.heads ∧ s.QualityTold (ruleMoves i r s) := by
  have only := ruleMoves_only i r s
  have told : (s.setRules (s.warning.rules.set i r)).BlindTold (ruleMoves i r s) :=
    State.BlindTold.recompute (fun x => State.BlindTold.requestAppend .event x) (RaisesOnly.askEvent fun _ h => h) _ _ _
  refine ⟨ruleMoves_held i r s, only.floor, only.channels, ?_, ?_, (told.before (s := s) (RaisesOnly.ofSame rfl rfl) fun j => ?_).quality ?_⟩
  · rw [only.time]
    rfl
  · rw [only.field]
    rfl
  · show (s.warning.rules.set i r)[j].blind = _
    by_cases same : j = i
    · subst same
      rw [set_self, moved.blind]
    · rw [set_holds r same]
  · rw [only.stage]
    rfl

theorem ruleMoves_stage (kind : r.definition.kind = .stage) : (ruleMoves i r s).warning.rules[i] = r := by
  have moved : (s.setRules (s.warning.rules.set i r)).warning.rules[i] = r := set_self _ i r
  rw [(ruleMoves_only i r s).stageRules i (by rw [moved]; exact kind), moved]

/-- R89: a level over the level of its rule in ACTIVE. -/
theorem ruleMoves_reaches {t : State} (held : t.LevelHeld) (rule : t.warning.rules[i] = r) (active : r.state = .active) :
    r.definition.level ≤ t.warning.level := by
  have holds : ruleHolds t.warning.rules[i] = true := by rw [rule, ruleHolds, active]; rfl
  have below := level_le_rulesLevel holds
  rw [rule] at below
  rw [held, computedLevel]
  omega

/-- R89 to R94: a rule moves where no rate can change the level again. -/
theorem ruleMoves_levelChanged {new : Nat} (moved : RuleMoved s i r) (held : s.LevelHeld)
    (quiet : s.AppendWaits ∨ s.NoRateRule)
    (computed : new = max s.warning.floor (rulesLevel (s.warning.rules.set i r))) :
    (ruleMoves i r s).warning.rules = s.warning.rules.set i r
      ∧ (new = s.warning.level → ruleMoves i r s = s.setWarning { s.warning with rules := s.warning.rules.set i r })
      ∧ (new ≠ s.warning.level → s.LevelChanged (ruleMoves i r s) (.rule i) new) := by
  by_cases differs : new = s.warning.level
  · have stands : ruleMoves i r s = s.setRules (s.warning.rules.set i r) := recompute_stands (computed.symm.trans differs)
    rw [stands]
    exact ⟨rfl, fun _ => rfl, fun no => absurd differs no⟩
  · have changes : ruleMoves i r s = changeLevel askEvent (.rule i) new (s.setRules (s.warning.rules.set i r)) := by
      have cause := changeCause_of_moved moved held computed differs
      have := recompute_changes (ask := askEvent) (before := s.warning.rules) (forced := none)
        (s := s.setRules (s.warning.rules.set i r)) (fun same => differs (computed.trans same))
      rw [ruleMoves, this, ← cause, computed]
      rfl
    have noRate : s.NoRateRule → (s.setRules (s.warning.rules.set i r)).NoRateRule := by
      intro noRate j
      show (s.warning.rules.set i r)[j].definition.enable = true → (s.warning.rules.set i r)[j].definition.kind = .stage
      by_cases same : j = i
      · subst same
        rw [set_self, moved.definition]
        exact noRate j
      · rw [set_holds r same]
        exact noRate j
    obtain ⟨changed, rules⟩ := changeLevel_levelChanged (cause := .rule i) (s := s.setRules (s.warning.rules.set i r))
      computed (quiet.imp id noRate)
    rw [changes]
    refine ⟨rules, fun same => absurd same differs, fun _ => changed.ofBase ?_⟩
    exact ⟨rfl, rfl, rfl, rfl, rfl, rfl, rfl, rfl, rfl, rfl, rfl, rfl, rfl, rfl, rfl⟩

/-- R77, R85: the rate of the event record judges an enabled RATE rule that has moved. -/
theorem ruleMoves_rate (kind : r.definition.kind = .rate) : (ruleMoves i r s).warning.rules[i]
    = if r.definition.enable = true ∧ (ruleMoves i r s).stage.nextSequence ≠ s.stage.nextSequence
      then handRule s.now (ruleMoves i r s).stage.rate r else r := by
  have handed : RateHanded (s.setRules (s.warning.rules.set i r)) (ruleMoves i r s) := recompute_rateHanded _ _ _
  rcases handed with ⟨same, rules, -⟩ | ⟨next, rules, -⟩
  · have still : (ruleMoves i r s).stage.nextSequence = s.stage.nextSequence := same
    rw [rules, if_neg fun both => both.2 still]
    exact set_self _ i r
  · have moved : (ruleMoves i r s).stage.nextSequence ≠ s.stage.nextSequence := by
      rw [next]
      exact next_ne s.stage.nextSequence
    rw [rules, LevelOnly.handRules_get]
    show (if watches .rate (s.warning.rules.set i r)[i] = true then handRule s.now _ (s.warning.rules.set i r)[i]
      else (s.warning.rules.set i r)[i]) = _
    rw [set_self]
    refine if_congr ?_ rfl rfl
    rw [watches_iff]
    exact ⟨fun both => ⟨both.1, moved⟩, fun both => ⟨both.1, kind⟩⟩

/-- R89: the level computed once a rule has become ACTIVE. -/
theorem computed_active (moved : RuleMoved s i r) (held : s.LevelHeld) (active : r.state = .active) :
    computedLevel (s.setRules (s.warning.rules.set i r)).warning = max s.warning.level r.definition.level := by
  have resting : ruleHolds s.warning.rules[i] = false := by
    rcases moved with ⟨state, -⟩ | ⟨-, rfl⟩
    · rw [ruleHolds, state]
      rfl
    · exact absurd active nofun
  have holds : ruleHolds r = true := by rw [ruleHolds, active]; rfl
  refine eq_of_forall_ge_iff fun n => ?_
  show max s.warning.floor (rulesLevel (s.warning.rules.set i r)) ≤ n ↔ _
  rw [held, computedLevel, Nat.max_le, Nat.max_le, Nat.max_le, rulesLevel_le_iff, rulesLevel_le_iff]
  constructor
  · rintro ⟨floor, rules⟩
    refine ⟨⟨floor, fun j at_ => ?_⟩, ?_⟩
    · have apart : j ≠ i := fun same => by rw [same, resting] at at_; exact Bool.false_ne_true at_
      have := rules j (by rw [set_holds r apart]; exact at_)
      rwa [set_holds r apart] at this
    · have := rules i (by rw [set_self]; exact holds)
      rwa [set_self] at this
  · rintro ⟨⟨floor, rules⟩, own⟩
    refine ⟨floor, fun j at_ => ?_⟩
    by_cases same : j = i
    · subst same
      rwa [set_self]
    · rw [set_holds r same] at at_ ⊢
      exact rules j at_

/-- R89: a rule that becomes ACTIVE at a level not above the station's changes no level. -/
theorem ruleMoves_below (moved : RuleMoved s i r) (held : s.LevelHeld) (active : r.state = .active)
    (below : r.definition.level ≤ s.warning.level) : ruleMoves i r s = s.setRules (s.warning.rules.set i r) :=
  recompute_stands ((computed_active moved held active).trans (Nat.max_eq_left below))

/-- R89, R91: one that becomes ACTIVE above the station's level raises it to its own. -/
theorem ruleMoves_above (moved : RuleMoved s i r) (held : s.LevelHeld) (active : r.state = .active)
    (above : s.warning.level < r.definition.level) : ∃ cause, ruleMoves i r s
      = changeLevel askEvent cause r.definition.level (s.setRules (s.warning.rules.set i r)) := by
  have computed := (computed_active moved held active).trans (Nat.max_eq_right above.le)
  have changes := recompute_changes (ask := askEvent) (before := s.warning.rules) (forced := none)
    (s := s.setRules (s.warning.rules.set i r)) (by rw [computed]; exact above.ne')
  rw [computed] at changes
  exact ⟨_, changes⟩

/-- R71, R91: where the event record of a level change is appended at once. -/
theorem changeLevel_appends {cause : LevelCause} {new : Nat} {x : State} (go : ¬ x.AppendWaits) :
    (changeLevel askEvent cause new x).stage.nextSequence = (x.stage.nextSequence + 1) % 2 ^ 32 := by
  have stage := levelTold_stage cause new x
  have goes : ¬ (levelTold cause new x).AppendWaits := by rwa [appendWaits_congr stage (levelTold_now ..)]
  obtain ⟨empty, opened⟩ := Decidable.not_not.1 (mt (appendWaits_iff _).2 goes)
  rw [changeLevel_eq, levelSettled_stage, askEvent, requestAppend_open .event empty opened,
    (append_appended .event (levelTold cause new x)).nextSequence, stage]

/-- R71, R91: where it waits. -/
theorem changeLevel_waits {cause : LevelCause} {new : Nat} {x : State} (wait : x.AppendWaits) :
    (changeLevel askEvent cause new x).stage = { x.stage with waiting := x.stage.waiting ++ [.event] }
      ∧ (changeLevel askEvent cause new x).warning.level = new := by
  have stage := levelTold_stage cause new x
  have waits : (levelTold cause new x).AppendWaits := by rwa [appendWaits_congr stage (levelTold_now ..)]
  rw [changeLevel_eq, levelSettled_stage, (levelSettled_warning ..).level, askEvent, requestAppend_waits .event waits]
  exact ⟨by rw [State.setStage_stage, stage], levelTold_level ..⟩

end

/-! ## O46: the rule timers (R87) and one hand-over (R86, R88) -/

theorem exec_confirmTimerExpiry (i : Fin 8) (s : State) :
    exec (.confirmTimerExpiry (i.val + 1)) s = .next (ruleExpires askEvent .confirming .active i s) := by
  show Host.Outcome.next ((place (i.val + 1) 8).elim s _) = _
  rw [(place_eq_some _ _ i).2 rfl]
  rfl

theorem exec_clearTimerExpiry (i : Fin 8) (s : State) :
    exec (.clearTimerExpiry (i.val + 1)) s = .next (ruleExpires askEvent .clearing .idle i s) := by
  show Host.Outcome.next ((place (i.val + 1) 8).elim s _) = _
  rw [(place_eq_some _ _ i).2 rfl]
  rfl

theorem ruleDue_iff (st : RuleState) (i : Fin 8) (s : State) {e : Nat} (timer : s.warning.rules[i].timer = .running e) :
    ruleDue st i s = true ↔ s.warning.rules[i].state = st ∧ e ≤ s.now := by
  rw [ruleDue, ruleTimerReached, timer, Bool.and_eq_true, beq_iff_eq, decide_eq_true_iff]

theorem ruleExpires_idle {st next : RuleState} {i : Fin 8} {s : State} {e : Nat}
    (timer : s.warning.rules[i].timer = .running e) (not : ¬ (s.warning.rules[i].state = st ∧ e ≤ s.now)) :
    ruleExpires askEvent st next i s = s :=
  if_neg fun due => not ((ruleDue_iff st i s timer).1 due)

theorem exec_ruleMoves {s : State} {i : Fin 8} {e : Nat} {c : Instr} {r : Rule}
    (timer : s.warning.rules[i].timer = .running e) (due : e ≤ s.now)
    (moves : (s.warning.rules[i].state = .confirming ∧ c = .confirmTimerExpiry (i.val + 1)
        ∧ r = { s.warning.rules[i] with state := .active, timer := .none, lastChange := some s.now })
      ∨ (s.warning.rules[i].state = .clearing ∧ c = .clearTimerExpiry (i.val + 1)
        ∧ r = { s.warning.rules[i] with state := .idle, timer := .none, lastChange := some s.now })) :
    exec c s = .next (ruleMoves i r s) ∧ RuleMoved s i r := by
  rcases moves with ⟨state, rfl, rfl⟩ | ⟨state, rfl, rfl⟩
  · rw [exec_confirmTimerExpiry, ruleExpires, if_pos ((ruleDue_iff _ i s timer).2 ⟨state, due⟩)]
    exact ⟨rfl, .inl ⟨state, rfl⟩⟩
  · rw [exec_clearTimerExpiry, ruleExpires, if_pos ((ruleDue_iff _ i s timer).2 ⟨state, due⟩)]
    exact ⟨rfl, .inr ⟨state, rfl⟩⟩

theorem handRule_none (now : Nat) (r : Rule) : handRule now none r = { r with blind := true, timer := match r.timer with
    | .running e => .paused (e - now)
    | x => x } := by
  unfold handRule pauseTimer
  cases r.timer <;> rfl

section
variable {now : Nat} {v : Int} {r : Rule}

theorem ruleStep_idle (idle : r.state = .idle) : ruleStep now v r
    = if r.definition.setThreshold ≤ v then
        if r.definition.confirmTime = 0 then moveRule now .active .none r
        else moveRule now .confirming (ruleTimer now r.definition.confirmTime) r
      else r := by
  unfold ruleStep
  rw [idle]

theorem ruleStep_confirming (confirming : r.state = .confirming) : ruleStep now v r
    = if v < r.definition.setThreshold then moveRule now .idle .none r else r := by
  unfold ruleStep
  rw [confirming]

theorem ruleStep_active (active : r.state = .active) : ruleStep now v r
    = if v ≤ r.definition.clearThreshold then
        if r.definition.clearDelay = 0 then moveRule now .idle .none r
        else moveRule now .clearing (ruleTimer now r.definition.clearDelay) r
      else r := by
  unfold ruleStep
  rw [active]

theorem ruleStep_clearing (clearing : r.state = .clearing) : ruleStep now v r
    = if r.definition.clearThreshold < v then moveRule now .active .none r else r := by
  unfold ruleStep
  rw [clearing]

theorem ruleStep_blind (now : Nat) (v : Int) (r : Rule) : (ruleStep now v r).blind = r.blind := by
  cases state : r.state with
  | idle => rw [ruleStep_idle state]; split_ifs <;> rfl
  | confirming => rw [ruleStep_confirming state]; split_ifs <;> rfl
  | active => rw [ruleStep_active state]; split_ifs <;> rfl
  | clearing => rw [ruleStep_clearing state]; split_ifs <;> rfl

/-- R86: the last change is that of the state. -/
theorem ruleStep_lastChange (now : Nat) (v : Int) (r : Rule) : (ruleStep now v r).lastChange
    = if (ruleStep now v r).state = r.state then r.lastChange else some now := by
  cases state : r.state with
  | idle => rw [ruleStep_idle state]; split_ifs <;> simp_all [moveRule]
  | confirming => rw [ruleStep_confirming state]; split_ifs <;> simp_all [moveRule]
  | active => rw [ruleStep_active state]; split_ifs <;> simp_all [moveRule]
  | clearing => rw [ruleStep_clearing state]; split_ifs <;> simp_all [moveRule]

end

/-- R88: a rule as it stands once its paused timer has resumed. -/
def resumed (now : Nat) (r : Rule) : Rule := { r with blind := false, timer := resumeTimer now r.timer }

theorem resumed_definition (now : Nat) (r : Rule) : (resumed now r).definition = r.definition := rfl

/-- R86: a value against a rule, its paused timer resumed first. -/
theorem handRule_some (now : Nat) (v : Int) (r : Rule) : handRule now (some v) r
    = { ruleStep now v (resumed now r) with lastValue := some v, judged := true } := rfl

/-- Settles O46: a rule's timer through the level computed, and one hand-over state by state. -/
theorem ruleStates : Obligations.RuleStates := by
  unfold Obligations.RuleStates
  refine ⟨fun s i e timer => ⟨fun kind due => ⟨fun state => ?_, fun state => ?_⟩,
    fun c r new due held quiet moves computed => ?_, fun c r kind due moves => ?_, fun early => ⟨?_, ?_⟩, fun other => ?_,
    fun other => ?_⟩, fun now r => ⟨handRule_none now r, fun v r' handed => ?_⟩⟩
  · obtain ⟨next, moved⟩ := exec_ruleMoves timer due (.inl ⟨state, rfl, rfl⟩)
    obtain ⟨held, floor, channels, runTime, heads, told⟩ := ruleMoves_stands moved
    have rule := ruleMoves_stage (s := s) (i := i) (r := { s.warning.rules[i] with
      state := .active, timer := .none, lastChange := some s.now }) kind
    exact ⟨_, next, rule, held, ruleMoves_reaches (r := { s.warning.rules[i] with
      state := .active, timer := .none, lastChange := some s.now }) held rule rfl, floor, channels, runTime, heads, told⟩
  · obtain ⟨next, moved⟩ := exec_ruleMoves timer due (.inr ⟨state, rfl, rfl⟩)
    obtain ⟨held, floor, channels, runTime, heads, told⟩ := ruleMoves_stands moved
    have rule := ruleMoves_stage (s := s) (i := i) (r := { s.warning.rules[i] with
      state := .idle, timer := .none, lastChange := some s.now }) kind
    exact ⟨_, next, rule, held, floor, channels, runTime, heads, told⟩
  · obtain ⟨next, moved⟩ := exec_ruleMoves timer due moves
    exact ⟨_, next, ruleMoves_levelChanged moved held quiet computed⟩
  · obtain ⟨next, moved⟩ := exec_ruleMoves timer due moves
    obtain ⟨held, floor, channels, runTime, heads, told⟩ := ruleMoves_stands moved
    have rate : r.definition.kind = .rate := by rw [moved.definition, kind]
    refine ⟨_, next, held, floor, channels, runTime, heads, told, ?_, fun sHeld active below => ?_, fun sHeld active above =>
      ⟨fun empty later => ?_, fun wait => ?_⟩⟩
    · rw [ruleMoves_rate rate, moved.definition]
    · rw [ruleMoves_below moved sHeld active below]
      exact ⟨rfl, rfl⟩
    · obtain ⟨cause, changes⟩ := ruleMoves_above moved sHeld active above
      rw [changes]
      refine changeLevel_appends (x := s.setRules (s.warning.rules.set i r)) ?_
      rintro (waiting | ⟨x, newest, early⟩)
      · exact waiting empty
      · exact absurd (later x newest) (Nat.not_lt.2 early)
    · obtain ⟨cause, changes⟩ := ruleMoves_above moved sHeld active above
      rw [changes]
      exact changeLevel_waits (x := s.setRules (s.warning.rules.set i r)) wait
  · rw [exec_confirmTimerExpiry, ruleExpires_idle timer fun both => absurd both.2 (Nat.not_le.2 early)]
  · rw [exec_clearTimerExpiry, ruleExpires_idle timer fun both => absurd both.2 (Nat.not_le.2 early)]
  · rw [exec_confirmTimerExpiry, ruleExpires_idle timer fun both => other both.1]
  · rw [exec_clearTimerExpiry, ruleExpires_idle timer fun both => other both.1]
  · rw [handRule_some] at handed
    have stands {st : RuleState} (state : r.state = st) : (resumed now r).state = st := state
    refine ⟨?_, ?_, ?_, fun state below => ?_, fun state above zero => ?_, fun state above some_ => ?_, fun state below => ?_,
      fun state above => ?_, fun state above => ?_, fun state below zero => ?_, fun state below some_ => ?_,
      fun state above => ?_, fun state below => ?_, ?_⟩
    · rw [← handed]
      exact ruleStep_blind now v (resumed now r)
    · rw [← handed]
    · rw [← handed]
      exact LevelOnly.ruleStep_definition now v (resumed now r)
    · rw [← handed, ruleStep_idle (stands state), resumed_definition, if_neg (Int.not_le.2 below)]
      exact state
    · rw [← handed, ruleStep_idle (stands state), resumed_definition, if_pos above, if_pos zero]
      exact ⟨rfl, rfl⟩
    · rw [← handed, ruleStep_idle (stands state), resumed_definition, if_pos above, if_neg some_.ne']
      exact ⟨rfl, rfl⟩
    · rw [← handed, ruleStep_confirming (stands state), resumed_definition, if_pos below]
      exact ⟨rfl, rfl⟩
    · rw [← handed, ruleStep_confirming (stands state), resumed_definition, if_neg (Int.not_lt.2 above)]
      refine ⟨state, ?_⟩
      show resumeTimer now r.timer = _
      cases r.timer <;> rfl
    · rw [← handed, ruleStep_active (stands state), resumed_definition, if_neg (Int.not_le.2 above)]
      exact state
    · rw [← handed, ruleStep_active (stands state), resumed_definition, if_pos below, if_pos zero]
      exact ⟨rfl, rfl⟩
    · rw [← handed, ruleStep_active (stands state), resumed_definition, if_pos below, if_neg some_.ne']
      exact ⟨rfl, rfl⟩
    · rw [← handed, ruleStep_clearing (stands state), resumed_definition, if_pos above]
      exact ⟨rfl, rfl⟩
    · rw [← handed, ruleStep_clearing (stands state), resumed_definition, if_neg (Int.not_lt.2 below)]
      exact state
    · rw [← handed]
      exact ruleStep_lastChange now v (resumed now r)

end Sys2Proof.Machine

namespace Sys2Proof.Machine

/-! ## A rule defined anew (R82, R83) -/

section
variable (now : Nat) (d : RuleDef) (old : Rule)

theorem redefinedRule_disabled (input : Option Int) (off : d.enable = false) :
    redefinedRule now input d old = freshRule now d old := by
  rw [redefinedRule, off, if_neg Bool.false_ne_true]

theorem redefinedRule_enabled (input : Option Int) (on : d.enable = true) :
    redefinedRule now input d old = handRule now input (freshRule now d old) := by
  rw [redefinedRule, if_pos on]

theorem redefinedRule_definition (input : Option Int) : (redefinedRule now input d old).definition = d := by
  unfold redefinedRule
  split
  · exact LevelOnly.handRule_definition _ _ _
  · rfl

/-- R83: what an enabled rule is, judged at once against the input of its kind. -/
structure JudgedAfresh (now : Nat) (d : RuleDef) (v : Int) (r : Rule) : Prop where
  blind : r.blind = false
  lastValue : r.lastValue = some v
  below : v < d.setThreshold → r.state = .idle ∧ r.timer = .none
  atOnce : d.setThreshold ≤ v → d.confirmTime = 0 → r.state = .active ∧ r.timer = .none
  confirming : d.setThreshold ≤ v → 0 < d.confirmTime →
    r.state = .confirming ∧ r.timer = .running (now + d.confirmTime * 1000)

theorem redefinedRule_judged (v : Int) (on : d.enable = true) : JudgedAfresh now d v (redefinedRule now (some v) d old) := by
  have fresh : (resumed now (freshRule now d old)).state = .idle := rfl
  have own : (resumed now (freshRule now d old)).definition = d := rfl
  rw [redefinedRule_enabled now d old (some v) on, handRule_some]
  refine ⟨ruleStep_blind now v (resumed now (freshRule now d old)), rfl, fun below => ?_, fun above zero => ?_, fun above some_ => ?_⟩
  · rw [ruleStep_idle fresh, own, if_neg (Int.not_le.2 below)]
    exact ⟨rfl, rfl⟩
  · rw [ruleStep_idle fresh, own, if_pos above, if_pos zero]
    exact ⟨rfl, rfl⟩
  · rw [ruleStep_idle fresh, own, if_pos above, if_neg some_.ne']
    exact ⟨rfl, rfl⟩

/-- R88: without an input it is BLIND. -/
theorem redefinedRule_blind (on : d.enable = true) : (redefinedRule now none d old).state = .idle
    ∧ (redefinedRule now none d old).timer = .none ∧ (redefinedRule now none d old).blind = true
    ∧ (redefinedRule now none d old).lastValue = none := by
  rw [redefinedRule_enabled now d old none on]
  exact ⟨rfl, rfl, rfl, rfl⟩

end

/-- R83: the rule as RULE_SET defines it. -/
def newRule (i : Fin 8) (d : RuleDef) (s : State) : Rule :=
  redefinedRule s.now (inputOf s.warning d.kind) d s.warning.rules[i]

/-- R83, R89: the rules with it, and the level computed. -/
def definedRules (i : Fin 8) (d : RuleDef) (s : State) : State :=
  recompute askEvent s.warning.rules (some (.rule i)) (s.setRules (s.warning.rules.set i (newRule i d s)))

theorem defineRule_eq (i : Fin 8) (d : RuleDef) (s : State) : defineRule askEvent i d s
    = reportBlind (blindDiffers s.warning.rules (s.warning.rules.set i (newRule i d s))) (definedRules i d s) := rfl

theorem definedRules_only (i : Fin 8) (d : RuleDef) (s : State) :
    LevelOnly (s.setRules (s.warning.rules.set i (newRule i d s))) (definedRules i d s) :=
  LevelOnly.recompute askEvent LevelOnly.askEvent _ _ _

theorem defineRule_only (i : Fin 8) (d : RuleDef) (s : State) :
    LevelOnly (s.setRules (s.warning.rules.set i (newRule i d s))) (defineRule askEvent i d s) :=
  (definedRules_only i d s).trans (LevelOnly.reportBlind _ _)

theorem defineRule_held (i : Fin 8) (d : RuleDef) (s : State) : (defineRule askEvent i d s).LevelHeld := by
  have computed : (definedRules i d s).LevelHeld := recompute_held askEvent askEvent_held _ _ _
  rw [defineRule_eq]
  unfold reportBlind
  split
  · exact levelHeld_sameBut computed (raise_warning ..)
  · exact computed

theorem newRule_definition (i : Fin 8) (d : RuleDef) (s : State) : (newRule i d s).definition = d :=
  redefinedRule_definition ..

theorem defineRule_rules (i : Fin 8) (d : RuleDef) (s : State) :
    (defineRule askEvent i d s).warning.rules = (definedRules i d s).warning.rules
      ∧ (defineRule askEvent i d s).stage = (definedRules i d s).stage := by
  have judges := reportBlind_judges (blindDiffers s.warning.rules (s.warning.rules.set i (newRule i d s))) (definedRules i d s)
  simp only [State.judges, Prod.mk.injEq] at judges
  exact ⟨judges.1, reportBlind_stage _ _⟩

/-- R77, R83, R85: the rule itself; where the event record of the level change is appended, its rate judges an enabled RATE
rule there (log 34). -/
theorem definedRules_self (i : Fin 8) (d : RuleDef) (s : State) : (definedRules i d s).warning.rules[i]
    = if d.enable = true ∧ d.kind = .rate ∧ (definedRules i d s).stage.nextSequence ≠ s.stage.nextSequence
      then handRule s.now (definedRules i d s).stage.rate (newRule i d s) else newRule i d s := by
  have handed : RateHanded (s.setRules (s.warning.rules.set i (newRule i d s))) (definedRules i d s) := recompute_rateHanded _ _ _
  rcases handed with ⟨same, rules, -⟩ | ⟨next, rules, -⟩
  · have still : (definedRules i d s).stage.nextSequence = s.stage.nextSequence := same
    rw [rules, if_neg fun all => all.2.2 still]
    exact set_self _ i _
  · have moved : (definedRules i d s).stage.nextSequence ≠ s.stage.nextSequence := by
      rw [next]
      exact next_ne s.stage.nextSequence
    rw [rules, LevelOnly.handRules_get]
    show (if watches .rate (s.warning.rules.set i (newRule i d s))[i] = true then
        handRule s.now _ (s.warning.rules.set i (newRule i d s))[i]
      else (s.warning.rules.set i (newRule i d s))[i]) = _
    rw [set_self]
    refine if_congr ?_ rfl rfl
    rw [watches_iff, newRule_definition]
    exact ⟨fun both => ⟨both.1, both.2, moved⟩, fun all => ⟨all.1, all.2.1⟩⟩

/-- R88: STAGE_QUALITY over a RULE_SET, where no rate judges the rule again. -/
theorem defineRule_told (i : Fin 8) (d : RuleDef) (s : State) (alone : (definedRules i d s).warning.rules[i] = newRule i d s) :
    s.QualityTold (defineRule askEvent i d s) := by
  have told : s.BlindTold (defineRule askEvent i d s) := by
    refine rulesChanged_blindTold (ask := askEvent) (fun x => State.BlindTold.requestAppend .event x)
      (RaisesOnly.askEvent fun _ h => h) s.warning.rules (some (.rule i))
      { s.warning with rules := s.warning.rules.set i (newRule i d s) } s fun j changed => ?_
    by_cases same : j = i
    · subst same
      show (definedRules j d s).warning.rules[j].blind = (s.warning.rules.set j (newRule j d s))[j].blind
      rw [alone, set_self]
    · refine absurd ?_ changed
      show (s.warning.rules.set i (newRule i d s))[j].blind = _
      rw [set_holds _ same]
  refine told.quality ?_
  rw [(defineRule_only i d s).stage]
  rfl

/-- R88: and where one does, what has been told before. -/
theorem defineRule_blind {i : Fin 8} {d : RuleDef} {s : State} (occupied : s.link.notice ≠ none)
    (changed : (newRule i d s).blind ≠ s.warning.rules[i].blind) : ∃ x,
    (defineRule askEvent i d s).notices.slots[sourcePlace .stageQuality] = some x
      ∧ x.content = (defineRule askEvent i d s).qualitySnapshot false := by
  have raised : RaisesOnly voteSources s (definedRules i d s) :=
    (RaisesOnly.recompute (by decide) (RaisesOnly.askEvent fun _ h => h) _ _
      (s.setRules (s.warning.rules.set i (newRule i d s)))).after
  have differs : blindDiffers s.warning.rules (s.warning.rules.set i (newRule i d s)) = true := by
    rw [blindDiffers_iff]
    exact ⟨i, by rw [set_self]; exact changed.symm⟩
  rw [defineRule_eq, differs]
  exact reportBlind_told (raised.occupied occupied)

theorem defineRule_raises (i : Fin 8) (d : RuleDef) (s : State) : RaisesOnly voteSources s (defineRule askEvent i d s) := by
  rw [defineRule_eq]
  refine RaisesOnly.trans ?_ (RaisesOnly.reportBlind (by decide) _ _)
  exact (RaisesOnly.recompute (by decide) (RaisesOnly.askEvent fun _ h => h) _ _
    (s.setRules (s.warning.rules.set i (newRule i d s)))).after

/-! ## O22: RULE_SET -/

theorem takeRuleSet_eq {a : RuleSetArgs} {i : Fin 8} (rule : a.rule = i.val + 1) (enable : a.enable ≤ 1) (kind : a.kind ≤ 1)
    (least : 1 ≤ a.level) (most : a.level ≤ 3) (s : State) (d : RuleDef)
    (d_eq : d = heldRule a (a.enable == 1) (if a.kind = 0 then .stage else .rate)) :
    takeRuleSet askEvent a s = if s.saveRuns then (s, .refuse .busy)
      else (defineRule askEvent i d s, .reply (ruleDefFields (defineRule askEvent i d s).warning.rules[i].definition
        ++ [.code (ruleStateCode (defineRule askEvent i d s).warning.rules[i].state),
            .flag (defineRule askEvent i d s).warning.rules[i].blind])) := by
  have at_ : place a.rule 8 = some i := (place_eq_some _ _ i).2 rule
  have named : ruleKindOf a.kind = some (if a.kind = 0 then .stage else .rate) := by
    obtain h | h : a.kind = 0 ∨ a.kind = 1 := by omega
    · rw [h]; rfl
    · rw [h]; rfl
  have level : ¬ (a.level = 0 ∨ 3 < a.level) := by omega
  unfold takeRuleSet
  rw [at_, onOff_of_le enable, named]
  dsimp only
  rw [← d_eq, if_neg level]

/-- A request's arrival before and its reply after leave what has been told of STAGE_QUALITY. -/
theorem State.QualityTold.answered {s : State} {f : HostFrame} {p : State × Answer} (h : (takenAt f s).QualityTold p.1)
    (raises : RaisesOnly voteSources (takenAt f s) p.1) : s.QualityTold (placeReply f p) := by
  have base := ChannelBase.takenAt f s
  have after := ChannelBase.placeReply f p
  have same : (placeReply f p).qualitySnapshot = p.1.qualitySnapshot :=
    funext (qualitySnapshot_congr after.stage after.warning.rules after.now after.stationTime)
  intro occupied
  obtain ⟨notice, slot, -⟩ := base.told occupied
  obtain ⟨-, slot', -⟩ := after.told (raises.occupied notice)
  have told := h notice
  rw [same, after.stage, after.warning.rules, slot']
  rw [base.stage, base.warning.rules, slot] at told
  exact told

/-- R82: the definition as held. -/
theorem heldRule_eq (a : RuleSetArgs) (enable : Bool) (d : RuleDef)
    (held : d = heldRule a enable (if a.kind = 0 then .stage else .rate)) :
    d.enable = enable ∧ d.kind = (if a.kind = 0 then .stage else .rate) ∧ d.level = a.level
      ∧ (let bound : Int := if a.kind = 0 then 999999 else 99999
        d.setThreshold = max (-bound) (min bound a.setThreshold)
          ∧ d.clearThreshold = min d.setThreshold (max (-bound) (min bound a.clearThreshold)))
      ∧ d.confirmTime = min 3600 a.confirmTime ∧ d.clearDelay = min 21600 a.clearDelay := by
  subst held
  refine ⟨rfl, rfl, rfl, ?_, Nat.zero_max _, Nat.zero_max _⟩
  by_cases stage : a.kind = 0
  · simp [heldRule, stage, thresholdBound, clampInt]
  · simp [heldRule, stage, thresholdBound, clampInt]

theorem ruleKindCode_of {n : Nat} (kind : n ≤ 1) : ruleKindCode (if n = 0 then .stage else .rate) = n := by
  obtain h | h : n = 0 ∨ n = 1 := by omega
  · rw [h]; rfl
  · rw [h]; rfl

/-- What RULE_SET leaves in `t`, of the part as it stood in `s`. -/
structure RuleDefined (s t : State) (i : Fin 8) (d : RuleDef) : Prop where
  rule : t.warning.rules[i] = if d.enable = true ∧ d.kind = .rate ∧ t.stage.nextSequence ≠ s.stage.nextSequence
    then handRule s.now t.stage.rate (newRule i d s) else newRule i d s
  definition : t.warning.rules[i].definition = d
  others : ∀ j : Fin 8, j ≠ i → t.warning.rules[j].definition = s.warning.rules[j].definition
  held : t.LevelHeld
  floor : t.warning.floor = s.warning.floor
  supervisor : t.supervisor = s.supervisor
  channels : t.channels = s.channels
  runTime : t.time.runTime = s.time.runTime
  told : t.warning.rules[i] = newRule i d s → s.QualityTold t
  blind : s.link.notice ≠ none → (newRule i d s).blind ≠ s.warning.rules[i].blind →
    ∃ x, t.notices.slots[sourcePlace .stageQuality] = some x ∧ x.content = t.qualitySnapshot false

theorem newRule_congr {s u : State} (i : Fin 8) (d : RuleDef) (warning : sameBut s.warning u.warning) (now : u.now = s.now) :
    newRule i d u = newRule i d s := by
  have input : inputOf u.warning d.kind = inputOf s.warning d.kind := by
    cases d.kind
    · exact warning.stageInput
    · exact warning.rateInput
  rw [newRule, input, now, warning.rules, newRule]

theorem ruleDefined {s t : State} {f : HostFrame} {a : Answer} (calm : s.Calm) (i : Fin 8) (d : RuleDef)
    (placed : t = placeReply f (defineRule askEvent i d (takenAt f s), a)) : RuleDefined s t i d := by
  have base := ChannelBase.takenAt f s
  have only := defineRule_only i d (takenAt f s)
  have raises := defineRule_raises i d (takenAt f s)
  have after := ChannelBase.placeReply f (defineRule askEvent i d (takenAt f s), a)
  have kept := keeps_placeReply f (defineRule askEvent i d (takenAt f s), a) _ (Keeps.refl _)
  rw [← placed] at after kept
  have same := newRule_congr i d base.warning base.now
  obtain ⟨rules, stage⟩ := defineRule_rules i d (takenAt f s)
  have moved (j : Fin 8) (apart : j ≠ i) :
      ((takenAt f s).setRules ((takenAt f s).warning.rules.set i (newRule i d (takenAt f s)))).warning.rules[j]
        = s.warning.rules[j] := by
    rw [← base.warning.rules]
    exact set_holds _ apart
  have own : ((takenAt f s).setRules ((takenAt f s).warning.rules.set i (newRule i d (takenAt f s)))).warning.rules[i].definition
      = d := by
    show ((takenAt f s).warning.rules.set i _)[i].definition = d
    rw [set_self, newRule_definition]
  refine ⟨?_, ?_, fun j apart => ?_, ?_, ?_, ?_, ?_, ?_, fun alone => ?_, fun occupied changed => ?_⟩
  · rw [after.warning.rules, after.stage, rules, stage, definedRules_self, same, base.now, base.stage]
  · rw [after.warning.rules, only.definitions i, own]
  · rw [after.warning.rules, only.definitions j, moved j apart]
  · exact levelHeld_sameBut (defineRule_held i d _) after.warning
  · rw [after.warning.floor, only.floor]
    exact base.warning.floor
  · rw [after.supervisor, only.supervisor, ← base.supervisor]
    · rfl
    · show (takenAt f s).supervisor.quiet ≠ _
      rw [base.supervisor, calm.2.2.1]
      decide
  · rw [after.channels, only.channels]
    exact base.channels
  · have runTime : (takenAt f s).time.runTime = s.time.runTime := base.now
    rw [kept.time, only.time]
    exact runTime
  · rw [after.warning.rules, rules, ← same] at alone
    rw [placed]
    exact (defineRule_told i d (takenAt f s) alone).answered raises
  · have occupied' := (base.told occupied).1
    rw [← same, ← base.warning.rules] at changed
    obtain ⟨x, slot, content⟩ := defineRule_blind occupied' changed
    refine ⟨x, ?_, ?_⟩
    · rw [(after.told (raises.occupied occupied')).2.1, slot]
    · rw [content]
      exact (qualitySnapshot_congr after.stage after.warning.rules after.now after.stationTime false).symm

/-- Settles O22: the definition as held, the rule judged at once, the level computed, and the refusal. -/
theorem ruleSet : Obligations.RuleSet := by
  unfold Obligations.RuleSet
  intro s tag a i calm rule enable kind least most
  generalize d_eq : heldRule a (a.enable == 1) (if a.kind = 0 then .stage else .rate) = d
  have takes (x : State) := takeRuleSet_eq rule enable kind least most x d d_eq.symm
  have saves := takenAt_saveRuns (requestFrame tag (.ruleSet a)) s
  refine ⟨fun idle => ?_, fun saving => ?_⟩
  · have answer_ : answer (.ruleSet a) (takenAt (requestFrame tag (.ruleSet a)) s) = _ :=
      (takes _).trans (by rw [saves, saveRuns_of_none idle, if_neg Bool.false_ne_true])
    have inHand : (takenAt (requestFrame tag (.ruleSet a)) s).link.inHand
        = some { kind := requestKind (.ruleSet a), tag := tag } := by simp [requestFrame]
    have only := defineRule_only i d (takenAt (requestFrame tag (.ruleSet a)) s)
    obtain ⟨t, next, placed, answered⟩ := answered_request tag (.ruleSet a) s _ calm _ answer_
      (by rw [only.link]; exact inHand)
    have done := ruleDefined calm i d placed
    have shown : t.warning.rules[i] = (defineRule askEvent i d (takenAt (requestFrame tag (.ruleSet a)) s)).warning.rules[i] := by
      rw [placed, placeReply_warning]
    obtain ⟨on, kinds, level, bounds, confirm, clear⟩ := heldRule_eq a (a.enable == 1) d d_eq.symm
    refine ⟨t, d, next, done.definition, on, kinds, level, bounds, confirm, clear, done.others, done.held, done.floor,
      done.supervisor, done.channels, done.runTime, fun off => ?_, fun enabled stage absent => ?_, fun enabled stage v present => ?_,
      fun enabled rate => ⟨newRule i d s, newRule_definition i d s, fun absent => ?_, fun v present => ?_, ?_, done.blind⟩,
      fun alone => done.told ?_, ?_⟩
    · have disabled : d.enable = false := by rw [on, off]; rfl
      have own : t.warning.rules[i] = newRule i d s :=
        done.rule.trans (if_neg fun all => by rw [disabled] at all; exact Bool.false_ne_true all.1)
      rw [own, newRule, redefinedRule_disabled s.now d _ _ disabled]
      exact ⟨rfl, rfl, rfl, rfl⟩
    · have isStage : d.kind = .stage := by rw [kinds, if_pos stage]
      have input : inputOf s.warning d.kind = none := by rw [isStage]; exact absent
      obtain ⟨state, timer, blind, -⟩ := redefinedRule_blind s.now d s.warning.rules[i] (by rw [on, enabled]; rfl)
      have own : t.warning.rules[i] = newRule i d s :=
        done.rule.trans (if_neg fun all => by rw [isStage] at all; exact nomatch all.2.1)
      rw [own, newRule, input]
      exact ⟨state, timer, blind⟩
    · have isStage : d.kind = .stage := by rw [kinds, if_pos stage]
      have input : inputOf s.warning d.kind = some v := by rw [isStage]; exact present
      have judged := redefinedRule_judged s.now d s.warning.rules[i] v (by rw [on, enabled]; rfl)
      have own : t.warning.rules[i] = newRule i d s :=
        done.rule.trans (if_neg fun all => by rw [isStage] at all; exact nomatch all.2.1)
      rw [own, newRule, input]
      exact ⟨judged.blind, judged.lastValue, judged.below, judged.atOnce, judged.confirming⟩
    · have isRate : d.kind = .rate := by rw [kinds, rate]; rfl
      have input : inputOf s.warning d.kind = none := by rw [isRate]; exact absent
      rw [newRule, input]
      exact redefinedRule_blind s.now d s.warning.rules[i] (by rw [on, enabled]; rfl)
    · have isRate : d.kind = .rate := by rw [kinds, rate]; rfl
      have input : inputOf s.warning d.kind = some v := by rw [isRate]; exact present
      have judged := redefinedRule_judged s.now d s.warning.rules[i] v (by rw [on, enabled]; rfl)
      rw [newRule, input]
      exact ⟨judged.blind, judged.lastValue, judged.below, judged.atOnce, judged.confirming⟩
    · have isRate : d.kind = .rate := by rw [kinds, rate]; rfl
      have isOn : d.enable = true := by rw [on, enabled]; rfl
      rw [done.rule]
      exact if_congr ⟨fun all => all.2.2, fun moved => ⟨isOn, isRate, moved⟩⟩ rfl rfl
    · rw [done.rule, if_neg]
      rintro ⟨isOn, isRate, moved⟩
      rcases alone with stage | off | still
      · rw [kinds, if_pos stage] at isRate
        exact nomatch isRate
      · rw [on, off] at isOn
        exact nomatch isOn
      · exact moved still
    · rw [← shown, done.definition, ruleDefFields, kinds, ruleKindCode_of kind, level] at answered
      exact answered
  · refine refused_request tag (.ruleSet a) s calm .busy ?_
    show takeRuleSet askEvent a _ = _
    rw [takes, saves, saveRuns_of_ne_none saving, if_pos rfl]

end Sys2Proof.Machine

namespace Sys2Proof.Machine

/-! ## An edge of the crystal (R3, R4) -/

theorem crystalSeesEdge_stopped {t : TimeBase} (stopped : t.crystal = .stopped) : crystalSeesEdge t
    = { t with crystal := .starting, edgeGap := some (t.reference + 4), qualification := some (t.reference + 1000) } := by
  unfold crystalSeesEdge
  rw [stopped] <;> rfl

theorem crystalSeesEdge_runs {t : TimeBase} (runs : t.crystal ≠ .stopped) :
    crystalSeesEdge t = { t with edgeGap := some (t.reference + 4) } := by
  unfold crystalSeesEdge
  cases crystal : t.crystal with
  | stopped => exact absurd crystal runs
  | starting => rfl
  | running => rfl

/-- R4: the monitor alone sees the edge. -/
def MonitorOnly (t u : TimeBase) : Prop :=
  u = { t with crystal := u.crystal, edgeGap := u.edgeGap, qualification := u.qualification }

theorem crystalSeesEdge_only (t : TimeBase) : MonitorOnly t (crystalSeesEdge t) := by
  unfold MonitorOnly
  by_cases stopped : t.crystal = .stopped
  · rw [crystalSeesEdge_stopped stopped]
  · rw [crystalSeesEdge_runs stopped]

/-- R3: a cycle of the group touches of the time base the clocks, the group and the ms in progress. -/
def GroupOnly (t u : TimeBase) : Prop :=
  u = { t with runTime := u.runTime, stationTime := u.stationTime, groupCycles := u.groupCycles, completing := u.completing }

theorem cycleOfGroup_only (t : TimeBase) : GroupOnly t (cycleOfGroup t) := by
  unfold cycleOfGroup GroupOnly
  dsimp only
  split
  · split <;> rfl
  · split <;> rfl

theorem crystalEdge_rc {t : TimeBase} (rc : t.source = .rc) : crystalEdge t = crystalSeesEdge t := by
  have source : (crystalSeesEdge t).source = .rc := by
    rw [crystalSeesEdge_only t]
    exact rc
  unfold crystalEdge
  dsimp only
  rw [source]

theorem crystalEdge_xtal {t : TimeBase} (xtal : t.source = .xtal) :
    crystalEdge t = cycleOfGroup { crystalSeesEdge t with edgeless := 0 } := by
  have source : (crystalSeesEdge t).source = .xtal := by
    rw [crystalSeesEdge_only t]
    exact xtal
  unfold crystalEdge
  dsimp only
  rw [source]

/-- R4: what an edge does at the monitor, under either source. -/
theorem crystalEdge_monitor (t : TimeBase) : (crystalEdge t).edgeGap = (crystalSeesEdge t).edgeGap
    ∧ (crystalEdge t).crystal = (crystalSeesEdge t).crystal
    ∧ (crystalEdge t).qualification = (crystalSeesEdge t).qualification
    ∧ (crystalEdge t).source = t.source ∧ (crystalEdge t).reference = t.reference ∧ (crystalEdge t).arm = t.arm := by
  have seen := crystalSeesEdge_only t
  cases source : t.source with
  | rc =>
    rw [crystalEdge_rc source, seen]
    exact ⟨rfl, rfl, rfl, source, rfl, rfl⟩
  | xtal =>
    rw [crystalEdge_xtal source, cycleOfGroup_only, seen]
    exact ⟨rfl, rfl, rfl, source, rfl, rfl⟩

theorem exec_crystalEdge (s : State) : exec .crystalEdge s = .next (s.setTime (crystalEdge s.time)) := rfl

/-- R4: the edge as the crystal monitor takes it. -/
theorem crystalEdge_seen (s : State) : ∃ t, exec .crystalEdge s = .next t ∧ t = s.setTime t.time
    ∧ t.time.edgeGap = some (s.time.reference + 4)
    ∧ (s.time.crystal = .stopped →
        t.time.crystal = .starting ∧ t.time.qualification = some (s.time.reference + 1000))
    ∧ (s.time.crystal ≠ .stopped →
        t.time.crystal = s.time.crystal ∧ t.time.qualification = s.time.qualification)
    ∧ t.time.source = s.time.source ∧ t.time.reference = s.time.reference ∧ t.time.arm = s.time.arm
    ∧ (s.time.source = .xtal → t.time.edgeless = 0)
    ∧ (s.time.source = .rc → t.time.runTime = s.time.runTime ∧ t.time.stationTime = s.time.stationTime
        ∧ t.time.groupCycles = s.time.groupCycles ∧ t.time.edgeless = s.time.edgeless) := by
  obtain ⟨gap, crystal, qualification, source, reference, arm⟩ := crystalEdge_monitor s.time
  refine ⟨_, exec_crystalEdge s, rfl, gap.trans ?_, fun stopped => ?_, fun runs => ?_, source, reference, arm,
    crystalEdge_edgeless s.time, fun rc => ?_⟩
  · by_cases stopped : s.time.crystal = .stopped
    · rw [crystalSeesEdge_stopped stopped]
    · rw [crystalSeesEdge_runs stopped]
  · refine ⟨crystal.trans ?_, qualification.trans ?_⟩
    · rw [crystalSeesEdge_stopped stopped]
    · rw [crystalSeesEdge_stopped stopped]
  · refine ⟨crystal.trans ?_, qualification.trans ?_⟩
    · rw [crystalSeesEdge_runs runs]
    · rw [crystalSeesEdge_runs runs]
  · rw [State.setTime_time, crystalEdge_rc rc, crystalSeesEdge_only]
    exact ⟨rfl, rfl, rfl, rfl⟩

/-! ## The monitor's expiries (R4 to R6, R8) -/

theorem exec_edgeGapExpiry (s : State) : exec .edgeGapExpiry s = .next (edgeGapExpires s) := rfl
theorem exec_qualificationExpiry (s : State) : exec .qualificationExpiry s = .next (qualificationExpires s) := rfl

/-- R4: the part with its crystal STOPPED. -/
def crystalStopped (s : State) : State :=
  s.setTime { s.time with crystal := .stopped, edgeGap := none, qualification := none }

theorem edgeGapDue_iff (s : State) :
    edgeGapDue s = true ↔ s.time.crystal ≠ .stopped ∧ reached s.time.edgeGap s.time.reference = true := by
  simp [edgeGapDue]

theorem edgeGapExpires_running {s : State} (due : edgeGapDue s = true) (running : s.time.crystal = .running) :
    edgeGapExpires s = raiseTimeSource .crystalStopped (selectRc s.time.edgeless (crystalStopped s)) := by
  unfold edgeGapExpires
  rw [if_pos due]
  dsimp only
  rw [running]
  rfl

theorem edgeGapExpires_starting {s : State} (due : edgeGapDue s = true) (starting : s.time.crystal = .starting) :
    edgeGapExpires s = crystalStopped s := by
  unfold edgeGapExpires
  rw [if_pos due]
  dsimp only
  rw [starting]
  rfl

theorem raiseTimeSource_keeps (c : TimeCause) (s : State) : s.Keeps (raiseTimeSource c s) := keeps_raise_low _ _ _ (by decide)

/-- R8: what TIME_SOURCE tells. -/
theorem raiseTimeSource_told (c : TimeCause) {s : State} (occupied : s.link.notice ≠ none) : ∃ x,
    (raiseTimeSource c s).notices.slots[sourcePlace .timeSource] = some x ∧ x.content = timeSourceContent s c :=
  ⟨_, told_raise .timeSource (timeSourceContent s c) s (by decide) occupied, rfl⟩

/-- R6, R7, R13: the time base once the source has become RC, so many ms counted at once. -/
def chosenRc (atOnce : Nat) (t : TimeBase) : TimeBase :=
  markSpans
    { countMilliseconds atOnce t with
      source := .rc, blockCount := 0, early := 0, edgeless := 0, completing := some (max 1 (t.edgeless - atOnce)) }

theorem selectRc_of_xtal {s : State} (n : Nat) (xtal : s.time.source = .xtal) :
    selectRc n s = s.setTime (chosenRc n s.time) := by
  unfold selectRc
  rw [xtal]
  rfl

theorem chosenRc_only (n : Nat) (t : TimeBase) : (chosenRc n t).source = .rc ∧ (chosenRc n t).recordMark = true
    ∧ (chosenRc n t).exposureSpan = (t.exposureSpan.map fun _ => true) ∧ (chosenRc n t).crystal = t.crystal
    ∧ (chosenRc n t).qualification = t.qualification := by
  have only := countMilliseconds_clocksOnly n t
  unfold chosenRc markSpans
  rw [only]
  exact ⟨rfl, rfl, rfl, rfl, rfl⟩

/-- R6, R8: what the choice of RC at a crystal that has stopped leaves, and the snapshot TIME_SOURCE takes of it. -/
theorem timeSourceContent_rc {s : State} (rc : s.time.source = .rc) (stopped : s.time.crystal = .stopped) :
    timeSourceContent s .crystalStopped
      = [.code 1, .code 1, .code 2, .code (if s.time.stationTime = none then 0 else 2), .num 6 s.now]
        ++ optTime s.time.stationTime := by
  rw [timeSourceContent, timeQualityCode_rc rc, rc, stopped]
  rfl

/-- R4, R6, R8: the edge-gap timer. -/
theorem edgeGap_expired {s : State} (runs : s.time.crystal ≠ .stopped) (gap : reached s.time.edgeGap s.time.reference = true) :
    ∃ t, exec .edgeGapExpiry s = .next t ∧ (s.setTime t.time).Keeps t
      ∧ t.time.crystal = .stopped ∧ t.time.qualification = none
      ∧ (s.time.crystal = .running → s.time.source = .xtal →
          t.time.source = .rc ∧ t.time.recordMark = true
            ∧ t.time.exposureSpan = (s.time.exposureSpan.map fun _ => true)
            ∧ (s.time.runTime + s.time.edgeless ≤ Config.lastRunTime →
                t.time.runTime = s.time.runTime + s.time.edgeless)
            ∧ ((∀ v, s.time.stationTime = some v → v ≤ Config.lastStationTime) →
                t.time.stationTime
                  = s.time.stationTime.map fun v => min (v + s.time.edgeless) Config.lastStationTime))
      ∧ (s.time.crystal = .starting ∨ s.time.source = .rc →
          t.time.runTime = s.time.runTime ∧ t.time.stationTime = s.time.stationTime
            ∧ t.time.source = s.time.source ∧ t.time.recordMark = s.time.recordMark)
      ∧ (s.time.crystal = .starting → t = s.setTime t.time)
      ∧ (s.time.crystal = .running → s.link.notice ≠ none →
          ∃ x, t.notices.slots[sourcePlace .timeSource] = some x
            ∧ x.content = [.code 1, .code 1, .code 2, .code (if t.time.stationTime = none then 0 else 2),
                .num 6 t.now] ++ optTime t.time.stationTime) := by
  have due := (edgeGapDue_iff s).2 ⟨runs, gap⟩
  rw [exec_edgeGapExpiry]
  cases crystal : s.time.crystal with
  | stopped => exact absurd crystal runs
  | starting =>
    rw [edgeGapExpires_starting due crystal]
    exact ⟨_, rfl, Keeps.refl _, rfl, rfl, fun no => (nomatch no), fun _ => ⟨rfl, rfl, rfl, rfl⟩, fun _ => rfl, fun no => (nomatch no)⟩
  | running =>
    have tells {u : State} (rc : u.time.source = .rc) (stopped : u.time.crystal = .stopped)
        (link : u.link = s.link) (occupied : s.link.notice ≠ none) : ∃ x,
        (raiseTimeSource .crystalStopped u).notices.slots[sourcePlace .timeSource] = some x
          ∧ x.content = [.code 1, .code 1, .code 2,
              .code (if (raiseTimeSource .crystalStopped u).time.stationTime = none then 0 else 2),
              .num 6 (raiseTimeSource .crystalStopped u).now] ++ optTime (raiseTimeSource .crystalStopped u).time.stationTime := by
      have kept := raiseTimeSource_keeps .crystalStopped u
      obtain ⟨x, slot, content⟩ := raiseTimeSource_told .crystalStopped (s := u) (by rw [link]; exact occupied)
      refine ⟨x, slot, ?_⟩
      rw [content, State.now, kept.time]
      exact timeSourceContent_rc rc stopped
    rw [edgeGapExpires_running due crystal]
    cases source : s.time.source with
    | rc =>
      rw [selectRc_of_rc _ (by exact source)]
      have kept := raiseTimeSource_keeps .crystalStopped (crystalStopped s)
      have time := kept.time
      refine ⟨_, rfl, ?_, ?_, ?_, fun _ no => (nomatch no), fun _ => ?_, fun no => (nomatch no), fun _ =>
        tells (u := crystalStopped s) source rfl rfl⟩
      · rw [time]
        exact kept
      · rw [time]
        rfl
      · rw [time]
        rfl
      · rw [time]
        exact ⟨rfl, rfl, source, rfl⟩
    | xtal =>
      rw [selectRc_of_xtal _ (by exact source)]
      obtain ⟨rc, mark, span, stopped, qualification⟩ := chosenRc_only s.time.edgeless (crystalStopped s).time
      have kept := raiseTimeSource_keeps .crystalStopped
        ((crystalStopped s).setTime (chosenRc s.time.edgeless (crystalStopped s).time))
      have time := kept.time
      refine ⟨_, rfl, ?_, ?_, ?_, fun _ _ => ⟨?_, ?_, ?_, fun room => ?_, fun least => ?_⟩, fun no => ?_, fun no => (nomatch no), fun _ =>
        tells (u := (crystalStopped s).setTime (chosenRc s.time.edgeless (crystalStopped s).time)) rc stopped rfl⟩
      · rw [time]
        exact kept
      · rw [time]
        exact stopped
      · rw [time]
        exact qualification
      · rw [time]
        exact rc
      · rw [time]
        exact mark
      · rw [time]
        exact span
      · rw [time]
        exact countMilliseconds_runTime s.time.edgeless (crystalStopped s).time room
      · rw [time]
        exact countMilliseconds_stationTime s.time.edgeless (crystalStopped s).time least
      · rcases no with no | no
        · exact nomatch no
        · exact nomatch no

/-! ### The qualification timer (R4, R5) -/

/-- R4: the part with its crystal RUNNING. -/
def crystalRuns (s : State) : State := s.setTime { s.time with crystal := .running, qualification := none }

theorem qualificationExpires_due {s : State} (starting : s.time.crystal = .starting)
    (over_ : reached s.time.qualification s.time.reference = true) : qualificationExpires s
      = if s.time.arm then
          raiseTimeSource .autoXtal ((selectXtal (crystalRuns s)).setTime { (selectXtal (crystalRuns s)).time with arm := false })
        else raiseTimeSource .crystalReturned (crystalRuns s) := by
  unfold qualificationExpires
  rw [if_pos (by simp [qualificationDue, starting, over_])]
  rfl

/-- R5: the time base as an armed part under RC takes XTAL up again. -/
def takenUp (s : State) : TimeBase :=
  { s.time with
    crystal := .running, qualification := none, arm := false, source := .xtal, groupCycles := 0, early := 0, edgeless := 0
    completing := some (1 + Config.phaseLeft s.freeCount % 33) }

/-- R4, R5: the part with its crystal qualified, before TIME_SOURCE is raised. -/
def qualified (s : State) : State :=
  if s.time.arm = true ∧ s.time.source = .rc then (s.setTime (takenUp s)).freeTaken
  else s.setTime { s.time with crystal := .running, qualification := none, arm := false }

theorem qualificationExpires_eq {s : State} (starting : s.time.crystal = .starting)
    (over_ : reached s.time.qualification s.time.reference = true) : qualificationExpires s
      = raiseTimeSource (if s.time.arm then .autoXtal else .crystalReturned) (qualified s) := by
  rw [qualificationExpires_due starting over_, qualified]
  cases arm : s.time.arm with
  | false =>
    have same : crystalRuns s = s.setTime { s.time with crystal := .running, qualification := none, arm := false } := by
      rw [crystalRuns, ← arm]
    rw [if_neg Bool.false_ne_true, if_neg Bool.false_ne_true, if_neg fun both => Bool.false_ne_true both.1, same]
  | true =>
    rw [if_pos rfl, if_pos rfl]
    cases source : s.time.source with
    | rc =>
      rw [if_pos ⟨rfl, rfl⟩, selectXtal_of_rc (s := crystalRuns s) source]
      rfl
    | xtal =>
      have stays : selectXtal (crystalRuns s) = crystalRuns s := selectXtal_of_xtal source
      rw [if_neg fun both => nomatch both.2]
      simp only [stays] <;> rfl

theorem qualified_time (s : State) : (qualified s).time.crystal = .running ∧ (qualified s).time.arm = false
    ∧ (qualified s).time.runTime = s.time.runTime ∧ (qualified s).time.recordMark = s.time.recordMark
    ∧ (qualified s).time.stationTime = s.time.stationTime ∧ (qualified s).time.exposureSpan = s.time.exposureSpan
    ∧ (qualified s).link = s.link
    ∧ (qualified s).time.source = (if s.time.arm = true then .xtal else s.time.source) := by
  unfold qualified
  split
  case isTrue armed =>
    rw [armed.1]
    exact ⟨rfl, rfl, rfl, rfl, rfl, rfl, rfl, rfl⟩
  case isFalse not =>
    refine ⟨rfl, rfl, rfl, rfl, rfl, rfl, rfl, ?_⟩
    show s.time.source = _
    split
    case isTrue arm =>
      cases source : s.time.source with
      | xtal => rfl
      | rc => exact absurd ⟨arm, source⟩ not
    case isFalse => rfl

/-- R8: the snapshot of TIME_SOURCE at a RUNNING crystal. -/
theorem timeSourceContent_running {s : State} (cause : TimeCause) (running : s.time.crystal = .running) :
    timeSourceContent s cause
      = [.code (timeCauseCode cause), .code (if s.time.source = .xtal then 0 else 1), .code 1,
          .code (if s.time.stationTime = none then 0 else if s.time.source = .xtal then 1 else 2), .num 6 s.now]
        ++ optTime s.time.stationTime := by
  unfold timeSourceContent
  rw [running]
  cases source : s.time.source with
  | rc => rw [timeQualityCode_rc source]; rfl
  | xtal => rw [timeQualityCode_xtal source]; rfl

/-- Settles O6: the edge at the monitor, and its two expiries under either source. -/
theorem crystalMonitor : Obligations.CrystalMonitor := by
  unfold Obligations.CrystalMonitor
  refine ⟨crystalEdge_seen, fun s _ runs gap => edgeGap_expired runs gap, fun s _ starting over_ => ?_⟩
  rw [exec_qualificationExpiry, qualificationExpires_eq starting over_]
  obtain ⟨running, arm, runTime, mark, stationTime, span, link, source⟩ := qualified_time s
  have kept := raiseTimeSource_keeps (if s.time.arm then .autoXtal else .crystalReturned) (qualified s)
  have time := kept.time
  refine ⟨_, rfl, ?_, ?_, ?_, ?_, ?_, ?_, fun armed rc => ?_, fun other => ?_, fun occupied => ?_⟩
  · rw [time, running]
  · rw [time, arm]
  · rw [time, runTime]
  · rw [time, mark]
  · rw [time, stationTime]
  · rw [time, span]
  · have up : qualified s = (s.setTime (takenUp s)).freeTaken := if_pos ⟨armed, rc⟩
    rw [time, up]
    refine ⟨rfl, rfl, ?_⟩
    rw [up] at kept
    exact kept
  · have still : qualified s = s.setTime { s.time with crystal := .running, qualification := none, arm := false } := by
      refine if_neg ?_
      rintro ⟨armed, rc⟩
      rcases other with clear | xtal
      · exact Bool.false_ne_true (clear.symm.trans armed)
      · exact nomatch xtal.symm.trans rc
    rw [time, still]
    refine ⟨rfl, ?_⟩
    rw [still] at kept
    exact kept
  · obtain ⟨x, slot, content⟩ := raiseTimeSource_told (if s.time.arm then .autoXtal else .crystalReturned) (s := qualified s)
      (by rw [link]; exact occupied)
    refine ⟨x, _, slot, rfl, ?_⟩
    rw [content, timeSourceContent_running _ running, source, stationTime, State.now, runTime]
    cases s.time.arm <;> rfl

end Sys2Proof.Machine

namespace Sys2Proof.Machine

/-! ## A group of crystal cycles (R3, R9) -/

/-- R3: the ms counted within the first `k` cycles of a group. -/
def countedAfter (k : Nat) : Nat := (125 * k + 124) / 4096

theorem countsAtCycle_iff (k : Nat) (inGroup : k < 4096) : countsAtCycle (k + 1) = true ↔ countedAfter (k + 1) = countedAfter k + 1 := by
  unfold countsAtCycle countedAfter
  rw [List.any_eq_true]
  simp only [List.mem_range, beq_iff_eq]
  constructor
  · rintro ⟨m, inRange, at_⟩
    have low : 125 * (k + 1) ≤ 4096 * (m + 1) := by omega
    have high : 4096 * (m + 1) < 125 * (k + 1) + 125 := by omega
    have before : (125 * k + 124) / 4096 = m := by omega
    have after : (125 * (k + 1) + 124) / 4096 = m + 1 := by omega
    rw [before, after]
  · intro next
    exact ⟨(125 * k + 124) / 4096, by omega, by omega⟩

theorem countedAfter_stands (k : Nat) : countedAfter (k + 1) = countedAfter k ∨ countedAfter (k + 1) = countedAfter k + 1 := by
  unfold countedAfter
  omega

theorem countedAfter_le {k : Nat} (inGroup : k ≤ 4096) : countedAfter k ≤ 125 := by
  unfold countedAfter
  omega

/-- R3, R9: under XTAL, `k` cycles into the group that began at `t`. -/
structure GroupAt (t : TimeBase) (k : Nat) (u : TimeBase) : Prop where
  source : u.source = .xtal
  completing : u.completing = none
  groupCycles : u.groupCycles = k % 4096
  runTime : u.runTime = t.runTime + countedAfter k
  stationTime : u.stationTime = stationAfter^[countedAfter k] t.stationTime

/-- One cycle of a group with no ms in progress from before it. -/
theorem cycleOfGroup_within {t : TimeBase} (whole : t.completing = none) : cycleOfGroup t
    = if countsAtCycle (t.groupCycles + 1) then countMillisecond { t with groupCycles := (t.groupCycles + 1) % 4096 }
      else { t with groupCycles := (t.groupCycles + 1) % 4096 } := by
  unfold cycleOfGroup
  rw [whole]

theorem GroupAt.crystalEdge {t u : TimeBase} {k : Nat} (h : GroupAt t k u) (inGroup : k < 4096)
    (room : t.runTime + 125 ≤ Config.lastRunTime) : GroupAt t (k + 1) (crystalEdge u) := by
  have seen := crystalSeesEdge_only u
  have at_ : u.groupCycles = k := h.groupCycles.trans (Nat.mod_eq_of_lt inGroup)
  have whole : ({ crystalSeesEdge u with edgeless := 0 } : TimeBase).completing = none := by
    rw [seen]
    exact h.completing
  have cycle : ({ crystalSeesEdge u with edgeless := 0 } : TimeBase).groupCycles = k := by
    rw [seen]
    exact at_
  have run : ({ crystalSeesEdge u with edgeless := 0 } : TimeBase).runTime = t.runTime + countedAfter k := by
    rw [seen]
    exact h.runTime
  have station : ({ crystalSeesEdge u with edgeless := 0 } : TimeBase).stationTime
      = stationAfter^[countedAfter k] t.stationTime := by
    rw [seen]
    exact h.stationTime
  have source : ({ crystalSeesEdge u with edgeless := 0 } : TimeBase).source = .xtal := by
    rw [seen]
    exact h.source
  rw [crystalEdge_xtal h.source]
  generalize ({ crystalSeesEdge u with edgeless := 0 } : TimeBase) = v at *
  rw [cycleOfGroup_within whole, cycle]
  have most : countedAfter (k + 1) ≤ 125 := countedAfter_le inGroup
  by_cases counts : countsAtCycle (k + 1) = true
  · have next := (countsAtCycle_iff k inGroup).1 counts
    rw [if_pos counts]
    refine ⟨source, whole, rfl, ?_, ?_⟩
    · rw [countMillisecond_runTime _ (by show v.runTime + 1 ≤ _; omega), next]
      show v.runTime + 1 = _
      omega
    · rw [next, Function.iterate_succ_apply', ← station]
      rfl
  · have next : countedAfter (k + 1) = countedAfter k :=
      (countedAfter_stands k).resolve_right fun next => counts ((countsAtCycle_iff k inGroup).2 next)
    rw [if_neg counts]
    exact ⟨source, whole, rfl, by rw [next]; exact run, by rw [next]; exact station⟩

theorem groupAt_iterate {t : TimeBase} (xtal : t.source = .xtal) (whole : t.completing = none) (fresh : t.groupCycles = 0)
    (room : t.runTime + 125 ≤ Config.lastRunTime) (k : Nat) (inGroup : k ≤ 4096) : GroupAt t k (crystalEdge^[k] t) := by
  induction k with
  | zero => exact ⟨xtal, whole, fresh, rfl, rfl⟩
  | succ k ih =>
    rw [Function.iterate_succ_apply']
    exact (ih (by omega)).crystalEdge (by omega) room

/-- R9: station time over `n` ms. -/
theorem stationAfter_iterate (n : Nat) (x : Option Nat) :
    stationAfter^[n + 1] x = x.map fun v => min (v + (n + 1)) Config.lastStationTime := by
  induction n with
  | zero => rfl
  | succ n ih =>
    rw [Function.iterate_succ_apply', ih]
    cases x with
    | none => rfl
    | some v =>
      simp only [stationAfter, Option.map_some, Option.some.injEq]
      omega

theorem stationAfter_iterate_of_le (n : Nat) {x : Option Nat} (least : ∀ v, x = some v → v ≤ Config.lastStationTime) :
    stationAfter^[n] x = x.map fun v => min (v + n) Config.lastStationTime := by
  cases n with
  | zero =>
    cases x with
    | none => rfl
    | some v => simp [least v rfl]
  | succ n => exact stationAfter_iterate n x

/-! ## A block under RC (R3) -/

theorem blockAdvance_zero (c : Int) : blockAdvance c 0 = 0 := by
  simp [blockAdvance]

theorem blockAdvance_whole {c : Int} (low : -2000 ≤ c) : (blockAdvance c 1000000 : Int) = 1000000 + c := by
  unfold blockAdvance
  rw [show ((1000000 : Nat) : Int) = 1000000 from rfl, Int.mul_ediv_cancel _ (by decide)]
  omega

theorem blockAdvance_step {c : Int} (low : -2000 ≤ c) (high : c ≤ 2000) (j : Nat) :
    blockAdvance c j ≤ blockAdvance c (j + 1) ∧ blockAdvance c (j + 1) ≤ blockAdvance c j + 2 := by
  unfold blockAdvance
  have next : (1000000 + c) * ((j + 1 : Nat) : Int) = (1000000 + c) * (j : Int) + (1000000 + c) := by
    push_cast
    ring
  have above : 0 ≤ (1000000 + c) * (j : Int) := Int.mul_nonneg (by omega) (by omega)
  rw [next]
  generalize (1000000 + c) * (j : Int) = x at *
  omega

/-- R3, R9: a factory-trimmed ms that goes on with its block ends, and has given `n` ms. -/
def tickGiven (n : Nat) (t : TimeBase) : TimeBase :=
  { t with
    reference := t.reference + 1, early := 0, blockCount := (t.blockCount + 1) % 1000000
    runTime := t.runTime + n, stationTime := stationAfter^[n] t.stationTime }

theorem countMillisecond_eq {t : TimeBase} (room : t.runTime + 1 ≤ Config.lastRunTime) :
    countMillisecond t = { t with runTime := t.runTime + 1, stationTime := stationAfter t.stationTime } := by
  have run := countMillisecond_runTime t room
  rw [countMillisecond_clocksOnly t, run]
  rfl

theorem endTick_within {t : TimeBase} (within : t.completing = none) : endTick t
    = { t with reference := t.reference + 1, early := 0, blockCount := (t.blockCount + 1) % 1000000 } := by
  unfold endTick
  rw [within]

theorem countEarly_within {t : TimeBase} (within : t.completing = none) (room : t.runTime + 1 ≤ Config.lastRunTime) :
    countEarly t = { t with early := t.early + 1, runTime := t.runTime + 1, stationTime := stationAfter t.stationTime } := by
  have early : countEarly t = countMillisecond { t with early := t.early + 1 } := by
    unfold countEarly
    rw [within]
  exact early.trans (countMillisecond_eq room)

theorem tickTime_early {t : TimeBase} (rc : t.source = .rc) (several : 2 ≤ leftOfTick t) : tickTime t = countEarly t := by
  rw [tickTime_rc t rc]
  rcases tickRc_cases t with ⟨left, -⟩ | ⟨left, -⟩ | ⟨-, tick⟩
  · omega
  · omega
  · exact tick

/-- R3, log 9: of the ms that a factory-trimmed ms gives the last is counted at its end, the others within it. -/
theorem ticks_within (n : Nat) (t : TimeBase) (rc : t.source = .rc) (within : t.completing = none) (left : leftOfTick t = n)
    (room : t.runTime + n ≤ Config.lastRunTime) : tickTime^[max 1 n] t = tickGiven n t := by
  induction n generalizing t with
  | zero =>
    show tickTime t = _
    rw [tickTime_rc t rc, tickRc, left, endTick_within within]
    rfl
  | succ n ih =>
    cases n with
    | zero =>
      show tickTime t = _
      rw [tickTime_rc t rc, tickRc, left]
      show countMillisecond (endTick t) = _
      rw [endTick_within within, countMillisecond_eq (by exact room)]
      rfl
    | succ n =>
      have tick : tickTime t = countEarly t := tickTime_early rc (by omega)
      have early := countEarly_within within (by omega)
      have less : leftOfTick (countEarly t) = n + 1 := by rw [leftOfTick_countEarly, left]; rfl
      have most : max 1 (n + 1 + 1) = max 1 (n + 1) + 1 := by omega
      rw [most, Function.iterate_succ_apply, tick, ih (countEarly t) (by rw [early]; exact rc) (by rw [early]; exact within) less
        (by rw [early]; show t.runTime + 1 + (n + 1) ≤ _; omega), early]
      unfold tickGiven
      dsimp only
      rw [show t.runTime + 1 + (n + 1) = t.runTime + (n + 1 + 1) by omega]
      rfl

theorem leftOfTick_within {t : TimeBase} (within : t.completing = none) (fresh : t.early = 0) :
    leftOfTick t = blockAdvance t.correction (t.blockCount + 1) - blockAdvance t.correction t.blockCount := by
  unfold leftOfTick earnedInBlock
  rw [within, fresh]
  rfl

/-- R3, R9: a whole factory-trimmed ms. -/
theorem ticks_block {t : TimeBase} (rc : t.source = .rc) (within : t.completing = none) (fresh : t.early = 0) {n : Nat}
    (gives : n = blockAdvance t.correction (t.blockCount + 1) - blockAdvance t.correction t.blockCount)
    (room : t.runTime + n ≤ Config.lastRunTime) : tickTime^[max 1 n] t = tickGiven n t :=
  ticks_within n t rc within ((leftOfTick_within within fresh).trans gives.symm) room

/-- `j` factory-trimmed ms into the block that began at `t`. -/
structure BlockAt (t : TimeBase) (j : Nat) (u : TimeBase) : Prop where
  source : u.source = .rc
  completing : u.completing = none
  early : u.early = 0
  correction : u.correction = t.correction
  blockCount : u.blockCount = j % 1000000
  reference : u.reference = t.reference + j
  runTime : u.runTime = t.runTime + blockAdvance t.correction j

theorem blockAt_ticks {t : TimeBase} (rc : t.source = .rc) (within : t.completing = none) (fresh : t.early = 0)
    (begins : t.blockCount = 0) (low : -2000 ≤ t.correction) (high : t.correction ≤ 2000) (j : Nat) (inBlock : j ≤ 1000000)
    (room : t.runTime + blockAdvance t.correction j ≤ Config.lastRunTime) : ∃ m, BlockAt t j (tickTime^[m] t) := by
  induction j with
  | zero => exact ⟨0, rc, within, fresh, rfl, begins, rfl, by rw [blockAdvance_zero]; rfl⟩
  | succ j ih =>
    obtain ⟨rises, -⟩ := blockAdvance_step low high j
    obtain ⟨m, h⟩ := ih (by omega) (by omega)
    have count : (tickTime^[m] t).blockCount = j := h.blockCount.trans (Nat.mod_eq_of_lt (by omega))
    have gives := ticks_block h.source h.completing h.early rfl (by rw [h.correction, count, h.runTime]; omega)
    rw [h.correction, count] at gives
    refine ⟨max 1 (blockAdvance t.correction (j + 1) - blockAdvance t.correction j) + m, ?_⟩
    rw [Function.iterate_add_apply, gives]
    refine ⟨h.source, h.completing, rfl, h.correction, ?_, ?_, ?_⟩
    · show ((tickTime^[m] t).blockCount + 1) % 1000000 = _
      rw [count]
    · show (tickTime^[m] t).reference + 1 = _
      rw [h.reference]
      rfl
    · show (tickTime^[m] t).runTime + _ = _
      rw [h.runTime]
      omega

/-! ## Run time within its range (R3) -/

theorem tickTime_runTime_le {t : TimeBase} (least : t.runTime ≤ Config.lastRunTime) : (tickTime t).runTime ≤ Config.lastRunTime := by
  cases source : t.source with
  | xtal =>
    rw [tickTime_xtal t source]
    exact least
  | rc =>
    rw [tickTime_rc t source]
    rcases tickRc_cases t with ⟨-, tick⟩ | ⟨-, tick⟩ | ⟨-, tick⟩
    · rw [tick]
      exact least
    · rw [tick]
      exact countMillisecond_runTime_le _
    · rw [tick]
      exact countMillisecond_runTime_le _

theorem cycleOfGroup_runTime_le {t : TimeBase} (least : t.runTime ≤ Config.lastRunTime) :
    (cycleOfGroup t).runTime ≤ Config.lastRunTime := by
  unfold cycleOfGroup
  dsimp only
  split
  · split
    · exact countMillisecond_runTime_le _
    · exact least
  · split
    · exact countMillisecond_runTime_le _
    · exact least

theorem crystalEdge_runTime_le {t : TimeBase} (least : t.runTime ≤ Config.lastRunTime) :
    (crystalEdge t).runTime ≤ Config.lastRunTime := by
  have seen : (crystalSeesEdge t).runTime ≤ Config.lastRunTime := by
    rw [crystalSeesEdge_only t]
    exact least
  cases source : t.source with
  | xtal =>
    rw [crystalEdge_xtal source]
    exact cycleOfGroup_runTime_le seen
  | rc =>
    rw [crystalEdge_rc source]
    exact seen

theorem countMilliseconds_runTime_le (n : Nat) {t : TimeBase} (least : t.runTime ≤ Config.lastRunTime) :
    (countMilliseconds n t).runTime ≤ Config.lastRunTime := by
  induction n generalizing t with
  | zero => exact least
  | succ n ih => exact ih (countMillisecond_runTime_le t)

/-- Settles O7: the cycles of a group, the ms of a block, and the range of run time. -/
theorem runTimeAdvance : Obligations.RunTimeAdvance := by
  unfold Obligations.RunTimeAdvance
  refine ⟨fun t xtal whole fresh room => ?_, fun c low high => ⟨blockAdvance_zero c, blockAdvance_whole low,
    blockAdvance_step low high⟩, ⟨fun t n rc within fresh gives room least => ⟨?_, fun two => ?_⟩,
      fun t j rc within fresh begins inBlock room low high => ?_, tickTime_xtal, exec_crystalEdge⟩,
    fun t n least => ⟨tickTime_runTime_le least, crystalEdge_runTime_le least, countMilliseconds_runTime_le n least⟩⟩
  · obtain ⟨-, -, cycles, runTime, stationTime⟩ := groupAt_iterate xtal whole fresh room 4096 le_rfl
    exact ⟨runTime, cycles, stationTime.trans (stationAfter_iterate 124 t.stationTime)⟩
  · rw [ticks_block rc within fresh gives room, tickGiven, stationAfter_iterate_of_le n least, ← fresh]
  · have left : leftOfTick t = 2 := (leftOfTick_within within fresh).trans (gives.symm.trans two)
    rw [tickTime_early rc left.ge, countEarly_within within (by omega), fresh]
    rfl
  · obtain ⟨m, h⟩ := blockAt_ticks rc within fresh begins low high j inBlock room
    exact ⟨m, h.runTime, h.reference, h.blockCount, h.early⟩

end Sys2Proof.Machine

namespace Sys2Proof.Machine

/-! ## A wake (R98, R173) -/

theorem wake_unmet {r : WakeReason} {s : State} (unmet : s.supervisor.quiet ≠ .quiet ∨ wakeMet s.supervisor.wake r = false) :
    wake r s = s := by
  unfold wake
  rw [if_neg]
  rintro ⟨quiet, met⟩
  rcases unmet with awake | no
  · exact awake quiet
  · exact Bool.false_ne_true (no.symm.trans met)

/-- R98: the monitor over a wake. -/
def wokenMonitor (s : State) : Monitor :=
  if s.warning.monitor = .suspended then .running (s.now + 15000 * 2 ^ s.warning.monitorSettings.exponent)
  else s.warning.monitor

theorem setMonitor_same {s : State} {x : Monitor} (same : s.warning.monitor = x) :
    s.setWarning { s.warning with monitor := x } = s := by
  rw [← same]
  rfl

theorem monitorWoken_eq (s : State) : monitorWoken s = s.setWarning { s.warning with monitor := wokenMonitor s } := by
  unfold monitorWoken wokenMonitor monitorInterval
  cases monitor : s.warning.monitor with
  | suspended => rfl
  | off => rw [if_neg nofun]; exact (setMonitor_same monitor).symm
  | stopped => rw [if_neg nofun]; exact (setMonitor_same monitor).symm
  | running e => rw [if_neg nofun]; exact (setMonitor_same monitor).symm

/-- R173: what a wake leaves. -/
structure Woken (r : WakeReason) (s t : State) : Prop where
  supervisor : t.supervisor = { s.supervisor with quiet := .woken, wakeOutput := true }
  warning : t.warning = { s.warning with monitor := wokenMonitor s }
  keeps : ((s.setWarning t.warning).setSupervisor t.supervisor).Keeps t
  told : s.link.notice ≠ none → t.notices = { s.notices with
    slots := s.notices.slots.set (sourcePlace .quietWake)
      (some (raisedSlot .quietWake s.notices.slots[sourcePlace .quietWake] (quietWakeContent s r))) }
  link : s.link.notice ≠ none → t.link = s.link

theorem wake_woken {r : WakeReason} {s : State} (quiet : s.supervisor.quiet = .quiet)
    (met : wakeMet s.supervisor.wake r = true) : Woken r s (wake r s) := by
  have filled := keeps_fillSlot .quietWake (quietWakeContent s r)
    (s.setSupervisor { s.supervisor with quiet := .woken, wakeOutput := true })
  have only := RunOnly.fillSlot (s.setSupervisor { s.supervisor with quiet := .woken, wakeOutput := true }) .quietWake
    (quietWakeContent s r)
  have told : s.link.notice ≠ none → _ := fun occupied => fillSlot_of_occupied .quietWake (quietWakeContent s r)
    (s.setSupervisor { s.supervisor with quiet := .woken, wakeOutput := true }) occupied
  unfold wake
  rw [if_pos ⟨quiet, met⟩, monitorWoken_eq]
  generalize fillSlot .quietWake (quietWakeContent s r)
    (s.setSupervisor { s.supervisor with quiet := .woken, wakeOutput := true }) = z at *
  have warning : z.warning = s.warning := only.warning
  have now : z.now = s.now := by rw [State.now, filled.time]; rfl
  have monitor : wokenMonitor z = wokenMonitor s := by rw [wokenMonitor, warning, now]; rfl
  have new : ({ z.warning with monitor := wokenMonitor z } : WarningUnit) = { s.warning with monitor := wokenMonitor s } := by
    rw [warning, monitor]
  rw [new]
  refine ⟨filled.supervisor, rfl, ?_, fun occupied => ?_, fun occupied => ?_⟩
  · obtain ⟨time, field, channels, stage, -, cable, gauging, supervisor, rest⟩ := filled
    exact ⟨time, field, channels, stage, sameBut_refl _, cable, gauging, rfl, rest⟩
  · rw [State.setWarning_notices, told occupied]
    rfl
  · rw [State.setWarning_link, told occupied]
    rfl

/-! ## QUIET (R172) -/

theorem monitorSuspended_eq (s : State) : monitorSuspended s = s.setWarning { s.warning with monitor :=
    match s.warning.monitor with
    | .running _ => .suspended
    | x => x } := by
  unfold monitorSuspended
  cases monitor : s.warning.monitor with
  | running e => rfl
  | off => exact (setMonitor_same monitor).symm
  | stopped => exact (setMonitor_same monitor).symm
  | suspended => exact (setMonitor_same monitor).symm

/-- R172: the part once quiet mode is entered. -/
theorem enterQuiet_eq (s : State) : enterQuiet s
    = ((s.setSupervisor { s.supervisor with quiet := .quiet, wakeOutput := false, quietEntry := s.now }).setField
        { s.field with
          heads := mapTable (fun e => if e.config.quiet = 0 then { e with nextDue := none } else e) s.field.heads }).setWarning
        { s.warning with monitor := match s.warning.monitor with
          | .running _ => .suspended
          | x => x } := by
  have quieted : pollsQuieted (s.setSupervisor { s.supervisor with quiet := .quiet, wakeOutput := false, quietEntry := s.now })
      = ((s.setSupervisor { s.supervisor with quiet := .quiet, wakeOutput := false, quietEntry := s.now }).setField
          { s.field with
            heads := mapTable (fun e => if e.config.quiet = 0 then { e with nextDue := none } else e) s.field.heads }) := rfl
  rw [enterQuiet, quieted, monitorSuspended_eq]
  rfl

/-- R172: QUIET where it is taken. -/
theorem takeQuiet_taken {s : State} (idle : s.run.state ≠ .active) (rest : s.cable.motion = .parked ∨ s.cable.motion = .unreferenced)
    (free : s.field.management = none) (notSaving : s.supervisor.saving = none) (heard : s.warning.autonomous = false) :
    takeQuiet s = (judgeInputs (enterQuiet s), .reply [.code (quietCode (judgeInputs (enterQuiet s)).supervisor.quiet)]) := by
  have atRest : carriageAtRest s.cable.motion = true := by
    rcases rest with parked | unreferenced
    · rw [parked]; rfl
    · rw [unreferenced]; rfl
  unfold takeQuiet
  rw [runActive_of_ne idle, atRest, free, saveRuns_of_none notSaving, heard]
  rfl

/-- What the entry to quiet mode leaves, at the taking of its request. -/
structure QuietEntered (s e : State) : Prop where
  supervisor : e.supervisor = { s.supervisor with quiet := .quiet, wakeOutput := false, quietEntry := s.now }
  heads : ∀ i : Fin 8, e.field.heads[i] =
    if s.field.heads[i].config.quiet = 0 then { s.field.heads[i] with nextDue := none } else s.field.heads[i]
  field : e.field = { s.field with heads := e.field.heads }
  warning : sameBut s.warning e.warning
  suspended : s.warning.monitorSettings.enable = true → e.warning.monitor = .suspended
  keeps : (((s.setField e.field).setWarning e.warning).setSupervisor e.supervisor).Keeps e
  now : e.now = s.now

theorem enterQuiet_entered (f : HostFrame) (s : State) : QuietEntered s (enterQuiet (takenAt f s)) := by
  have arrival := keeps_takenAt f s
  have monitor : s.warning.monitorSettings.enable = true →
      (takenAt f s).warning.monitor = .running (s.now + monitorInterval s.warning.monitorSettings) := fun enabled => by
    rw [takenAt_warning, if_pos enabled]
  have now : (takenAt f s).now = s.now := takenAt_now f s
  rw [enterQuiet_eq]
  obtain ⟨time, field, channels, stage, warning, cable, gauging, supervisor, rest⟩ := arrival
  refine ⟨?_, fun i => ?_, ?_, ?_, fun enabled => ?_, ⟨time, rfl, channels, stage, sameBut_refl _, cable, gauging, rfl, rest⟩, now⟩
  · show ({ (takenAt f s).supervisor with quiet := _, wakeOutput := _, quietEntry := (takenAt f s).now } : Supervisor) = _
    rw [supervisor, now]
  · show (mapTable _ (takenAt f s).field.heads)[i] = _
    rw [mapTable_get, field]
  · show ({ (takenAt f s).field with heads := _ } : FieldLine) = _
    rw [field] <;> rfl
  · exact sameBut_trans warning rfl
  · show (match (takenAt f s).warning.monitor with
      | .running _ => Monitor.suspended
      | x => x) = _
    rw [monitor enabled]

theorem judgeInputs_unset {s : State} (stage : s.supervisor.wake.stage = false) (rate : s.supervisor.wake.rate = false) :
    judgeInputs s = s := by
  have noStage (v : Int) : wake (.stage v) s = s := wake_unmet (.inr (by simp [wakeMet, stage]))
  have noRate (v : Int) : wake (.rate v) s = s := wake_unmet (.inr (by simp [wakeMet, rate]))
  unfold judgeInputs
  cases s.warning.stageInput with
  | none =>
    cases s.warning.rateInput with
    | none => rfl
    | some r => exact noRate r
  | some v =>
    show (match s.warning.rateInput with
      | some r => wake (.rate r) (wake (.stage v) s)
      | none => wake (.stage v) s) = s
    rw [noStage v]
    cases s.warning.rateInput with
    | none => rfl
    | some r => exact noRate r

theorem judgeInputs_staged {s : State} {v : Int} (input : s.warning.stageInput = some v)
    (woken : Woken (.stage v) s (wake (.stage v) s)) : judgeInputs s = wake (.stage v) s := by
  have awake (r : Int) : wake (.rate r) (wake (.stage v) s) = wake (.stage v) s :=
    wake_unmet (.inl (by rw [woken.supervisor]; exact nofun))
  unfold judgeInputs
  rw [input]
  show (match s.warning.rateInput with
    | some r => wake (.rate r) (wake (.stage v) s)
    | none => wake (.stage v) s) = _
  cases s.warning.rateInput with
  | none => rfl
  | some r => exact awake r

/-- R172: a part at rest, free to run quietly. -/
structure AtRest (s : State) : Prop where
  idle : s.run.state ≠ .active
  rest : s.cable.motion = .parked ∨ s.cable.motion = .unreferenced
  free : s.field.management = none
  notSaving : s.supervisor.saving = none

theorem AtRest.takenAt {s : State} (h : AtRest s) (f : HostFrame) : AtRest (takenAt f s) := by
  refine ⟨?_, ?_, ?_, ?_⟩
  · rw [takenAt_run]
    exact h.idle
  · rw [takenAt_cable]
    exact h.rest
  · rw [takenAt_field]
    exact h.free
  · rw [takenAt_supervisor]
    exact h.notSaving

theorem quiet_enters {s : State} (tag : Byte) (calm : s.Calm) (rest : AtRest s) (stage : s.supervisor.wake.stage = false)
    (rate : s.supervisor.wake.rate = false) : ∃ t, exec (.quiet tag) s = .next t
      ∧ (((s.setField t.field).setWarning t.warning).setSupervisor t.supervisor).Keeps t
      ∧ t.supervisor = { s.supervisor with quiet := .quiet, wakeOutput := false, quietEntry := s.now }
      ∧ (∀ i : Fin 8, t.field.heads[i] =
          if s.field.heads[i].config.quiet = 0 then { s.field.heads[i] with nextDue := none } else s.field.heads[i])
      ∧ t.field.settings = s.field.settings ∧ t.field.tx = s.field.tx ∧ t.field.captured = s.field.captured
      ∧ sameBut s.warning t.warning
      ∧ (s.warning.monitorSettings.enable = true → t.warning.monitor = .suspended)
      ∧ t.Answered 0x34 tag [.code 1] := by
  have taken := rest.takenAt (requestFrame tag .quiet)
  have entered := enterQuiet_entered (requestFrame tag .quiet) s
  have heard : (takenAt (requestFrame tag .quiet) s).warning.autonomous = false :=
    (takenAt_same _ s).autonomous.trans calm.2.2.2
  have takes := takeQuiet_taken taken.idle taken.rest taken.free taken.notSaving heard
  have inHand : (enterQuiet (takenAt (requestFrame tag .quiet) s)).link.inHand = some { kind := requestKind .quiet, tag := tag } := by
    rw [enterQuiet_eq]
    simp [requestFrame]
  rw [judgeInputs_unset (by rw [entered.supervisor]; exact stage) (by rw [entered.supervisor]; exact rate)] at takes
  generalize enterQuiet (takenAt (requestFrame tag .quiet) s) = e at *
  have code : quietCode e.supervisor.quiet = 1 := by rw [entered.supervisor]; rfl
  rw [code] at takes
  obtain ⟨t, next, placed, answered⟩ := answered_request tag .quiet s e calm _ takes inHand
  have kept := keeps_placeReply (requestFrame tag .quiet) (e, .reply [.code 1]) _ entered.keeps
  have warning : t.warning = e.warning := by rw [placed, placeReply_warning]
  have field : t.field = e.field := by rw [placed, placeReply_field]
  have supervisor : t.supervisor = e.supervisor := by rw [placed, placeReply_supervisor]
  rw [← placed, ← warning, ← field, ← supervisor] at kept
  refine ⟨t, next, kept, supervisor.trans entered.supervisor, fun i => ?_, ?_, ?_, ?_, ?_, fun enabled => ?_, answered⟩
  · rw [field, entered.heads i]
  · rw [field, entered.field]
  · rw [field, entered.field]
  · rw [field, entered.field]
  · rw [warning]
    exact entered.warning
  · rw [warning]
    exact entered.suspended enabled

theorem quiet_woken {s : State} (tag : Byte) (calm : s.Calm) (rest : AtRest s) {v : Int} (stage : s.supervisor.wake.stage = true)
    (input : s.warning.stageInput = some v) (reached : s.supervisor.wake.wakeStage ≤ v)
    (enabled : s.warning.monitorSettings.enable = true) : ∃ t, exec (.quiet tag) s = .next t
      ∧ (((s.setField t.field).setWarning t.warning).setSupervisor t.supervisor).Keeps t
      ∧ t.supervisor = { s.supervisor with quiet := .woken, wakeOutput := true, quietEntry := s.now }
      ∧ sameBut s.warning t.warning
      ∧ t.warning.monitor = .running (s.now + 15000 * 2 ^ s.warning.monitorSettings.exponent)
      ∧ t.Answered 0x34 tag [.code 2] := by
  have taken := rest.takenAt (requestFrame tag .quiet)
  have entered := enterQuiet_entered (requestFrame tag .quiet) s
  have heard : (takenAt (requestFrame tag .quiet) s).warning.autonomous = false :=
    (takenAt_same _ s).autonomous.trans calm.2.2.2
  have takes := takeQuiet_taken taken.idle taken.rest taken.free taken.notSaving heard
  have inHand : (enterQuiet (takenAt (requestFrame tag .quiet) s)).link.inHand = some { kind := requestKind .quiet, tag := tag } := by
    rw [enterQuiet_eq]
    simp [requestFrame]
  generalize enterQuiet (takenAt (requestFrame tag .quiet) s) = e at *
  have woken : Woken (.stage v) e (wake (.stage v) e) := by
    refine wake_woken ?_ ?_
    · rw [entered.supervisor]
    · rw [entered.supervisor]
      simp [wakeMet, stage, reached]
  rw [judgeInputs_staged (entered.warning.stageInput.trans input) woken, woken.supervisor] at takes
  obtain ⟨t, next, placed, answered⟩ := answered_request tag .quiet s _ calm _ takes (by rw [wake_link_inHand]; exact inHand)
  have line := wake_field (.stage v) e
  generalize wake (.stage v) e = z at *
  have kept : z.Keeps t := by
    rw [placed]
    exact keeps_placeReply _ _ z (Keeps.refl z)
  have warning : t.warning = z.warning := by rw [placed, placeReply_warning]
  have field : t.field = e.field := by rw [placed, placeReply_field, line]
  have supervisor : t.supervisor = z.supervisor := by rw [placed, placeReply_supervisor]
  have monitor : wokenMonitor e = .running (s.now + 15000 * 2 ^ s.warning.monitorSettings.exponent) := by
    rw [wokenMonitor, if_pos (entered.suspended enabled), entered.now, show e.warning.monitorSettings = s.warning.monitorSettings
      from (congrArg WarningUnit.monitorSettings entered.warning).symm]
  refine ⟨t, next, ?_, ?_, ?_, ?_, answered⟩
  · have base : (((s.setField t.field).setWarning t.warning).setSupervisor t.supervisor).Keeps
        ((e.setWarning z.warning).setSupervisor z.supervisor) := by
      obtain ⟨time, -, channels, stages, -, cable, gauging, -, others⟩ := entered.keeps
      exact ⟨time, field.symm, channels, stages, by rw [warning]; exact sameBut_refl _, cable, gauging, supervisor.symm, others⟩
    exact Keeps.trans (Keeps.trans base woken.keeps) kept
  · rw [supervisor, woken.supervisor, entered.supervisor]
  · rw [warning, woken.warning]
    exact sameBut_trans entered.warning rfl
  · rw [warning, woken.warning]
    exact monitor

theorem quiet_refused {s : State} (tag : Byte) (calm : s.Calm) (r : Reason)
    (refuses : takeQuiet (takenAt (requestFrame tag .quiet) s) = (takenAt (requestFrame tag .quiet) s, .refuse r)) :
    ∃ t, exec (.quiet tag) s = .next t ∧ s.Keeps t ∧ t.RefusedFor 0x34 tag (reasonCode r) :=
  refused_request tag .quiet s calm r refuses

theorem carriageAtRest_iff (m : Motion) : carriageAtRest m = true ↔ m = .parked ∨ m = .unreferenced := by
  unfold carriageAtRest
  cases m <;> simp

theorem takeQuiet_unfit {s : State} (unfit : s.run.state = .active ∨ (s.cable.motion ≠ .parked ∧ s.cable.motion ≠ .unreferenced)
    ∨ s.field.management ≠ none) : takeQuiet s = (s, .refuse .state) := by
  unfold takeQuiet
  split_ifs with active moving managed saves
  · rfl
  · rfl
  · rfl
  all_goals
    exfalso
    rw [Bool.not_eq_true', ← Bool.not_eq_true, not_not, carriageAtRest_iff] at moving
    rw [runActive_iff] at active
    rw [Option.isSome_iff_ne_none] at managed
    tauto

theorem takeQuiet_saves {s : State} (idle : s.run.state ≠ .active) (rest : s.cable.motion = .parked ∨ s.cable.motion = .unreferenced)
    (free : s.field.management = none) (saving : s.supervisor.saving ≠ none) : takeQuiet s = (s, .refuse .busy) := by
  have atRest := (carriageAtRest_iff _).2 rest
  unfold takeQuiet
  rw [runActive_of_ne idle, atRest, free, saveRuns_of_ne_none saving]
  rfl

/-- R173: a condition as a reason gives it, enabled and met. -/
theorem wake_reason {s : State} {r : WakeReason} {met : Bool} {fields : List Field}
    (reason : (∃ l, r = .levelChange l ∧ met = s.supervisor.wake.levelChange ∧ fields = [.code 0, .num 1 l])
      ∨ (∃ v, r = .stage v ∧ met = (s.supervisor.wake.stage && decide (s.supervisor.wake.wakeStage ≤ v))
          ∧ fields = [.code 1, .num 3 v])
      ∨ (∃ v, r = .rate v ∧ met = (s.supervisor.wake.rate && decide (s.supervisor.wake.wakeRate ≤ v))
          ∧ fields = [.code 2, .num 3 v])
      ∨ (∃ n, r = .levelFive n ∧ met = s.supervisor.wake.levelFive ∧ fields = [.code 3, .num 1 n])
      ∨ (∃ n, r = .postFault n ∧ met = s.supervisor.wake.postFault ∧ fields = [.code 4, .num 1 n])) :
    wakeMet s.supervisor.wake r = met ∧ wakeFields r = fields := by
  rcases reason with ⟨l, rfl, rfl, rfl⟩ | ⟨l, rfl, rfl, rfl⟩ | ⟨l, rfl, rfl, rfl⟩ | ⟨l, rfl, rfl, rfl⟩ | ⟨l, rfl, rfl, rfl⟩
  · exact ⟨rfl, rfl⟩
  · exact ⟨rfl, rfl⟩
  · exact ⟨rfl, rfl⟩
  · exact ⟨rfl, rfl⟩
  · exact ⟨rfl, rfl⟩

/-- R150: a QUIET_WAKE takes the newer content whole. -/
theorem raisedSlot_quietWake (slot : Option Slot) (c : List Field) : (raisedSlot .quietWake slot c).content = c := by
  cases slot with
  | none => rfl
  | some held => exact replacedContent_of_ne (src := .quietWake) (by decide) held.content c

end Sys2Proof.Machine

namespace Sys2Proof.Machine

/-! ## A level change seen by a part in quiet mode (R91, R150, R173) -/

/-- Nothing can be handed over, the supervisor is `sup`, and this stands in the slot of QUIET_WAKE. -/
structure State.Asleep (sup : Supervisor) (y : Option Slot) (s : State) : Prop where
  occupied : s.link.notice ≠ none
  supervisor : s.supervisor = sup
  slot : s.notices.slots[sourcePlace .quietWake] = y

/-- Neither a level-5 notice nor a rate wakes this supervisor. -/
def Supervisor.deaf (sup : Supervisor) : Prop :=
  sup.quiet ≠ .quiet ∨ (sup.wake.levelFive = false ∧ sup.wake.rate = false)

namespace State.Asleep

variable {sup : Supervisor} {y : Option Slot} {s t : State}

theorem ofSame (h : s.Asleep sup y) (link : t.link = s.link) (supervisor : t.supervisor = s.supervisor)
    (notices : t.notices = s.notices) : t.Asleep sup y :=
  ⟨by rw [link]; exact h.occupied, supervisor.trans h.supervisor, by rw [notices]; exact h.slot⟩

theorem fillSlot {src : NoticeSource} (other : src ≠ .quietWake) (c : List Field) (h : s.Asleep sup y) :
    (fillSlot src c s).Asleep sup y := by
  rw [fillSlot_of_occupied src c s h.occupied]
  refine ⟨h.occupied, h.supervisor, ?_⟩
  have apart : (sourcePlace src).val ≠ (sourcePlace .quietWake).val := fun same => other (sourcePlace_injective (Fin.ext same))
  simpa [apart] using h.slot

theorem wake_levelFive (deaf : sup.deaf) (n : Nat) (h : s.Asleep sup y) : wake (.levelFive n) s = s :=
  wake_unmet (by rw [h.supervisor]; exact deaf.imp_right fun both => both.1)

theorem wake_rate (deaf : sup.deaf) (v : Int) (h : s.Asleep sup y) : wake (.rate v) s = s :=
  wake_unmet (by rw [h.supervisor]; exact deaf.imp_right fun both => by simp [wakeMet, both.2])

theorem raise (deaf : sup.deaf) {src : NoticeSource} (other : src ≠ .quietWake) (c : List Field) (h : s.Asleep sup y) :
    (raise src c s).Asleep sup y := by
  have filled := fillSlot other c h
  unfold Machine.raise
  dsimp only
  split
  · rw [wake_levelFive deaf _ filled]
    exact filled
  · exact filled

theorem runLeaves (deaf : sup.deaf) (y : Option Slot) : RunLeaves (State.Asleep sup y) where
  cable _ h := h.ofSame rfl rfl rfl
  run _ h := h.ofSame rfl rfl rfl
  time _ h := h.ofSame rfl rfl rfl
  told src c h runs := by
    refine raise deaf ?_ c h
    rcases runs with rfl | rfl | rfl <;> decide

/-- R73, R77: the event record is asked for where no enabled rule is a RATE rule. -/
theorem askEvent (deaf : sup.deaf) (noRate : s.NoRateRule) (held : s.LevelHeld) (h : s.Asleep sup y) :
    (askEvent s).Asleep sup y := by
  have joined : ((joinRing .event s).setWarning
      { (joinRing .event s).warning with rateInput := (joinRing .event s).stage.rate }).Asleep sup y := h.ofSame rfl rfl rfl
  have handed : handInput (Machine.queueAppend .event) .rate (joinRing .event s).stage.rate (joinRing .event s)
      = (joinRing .event s).setWarning { (joinRing .event s).warning with rateInput := (joinRing .event s).stage.rate } :=
    handInput_noRateRule (s := joinRing .event s) (by exact noRate) (by exact held) _
  by_cases now_ : s.stage.waiting = [] ∧ ringOpen s = true
  · have asked : Machine.askEvent s = append .event s := requestAppend_open .event now_.1 now_.2
    rw [asked, append]
    unfold handRate
    dsimp only
    rw [handed]
    split
    · rw [wake_rate deaf _ joined]
      exact joined
    · exact joined
  · rw [Machine.askEvent, requestAppend_waits .event ((appendWaits_iff s).2 now_)]
    exact h.ofSame rfl rfl rfl

end State.Asleep

/-- R91, up to the supervisor: a level change that nothing before its own wake condition wakes at. -/
theorem asleep_withdrawn {sup : Supervisor} {y : Option Slot} (deaf : sup.deaf) {x : State} {cause : LevelCause} {new : Nat}
    (noRate : x.NoRateRule) (computed : new = computedLevel x.warning) (told : (levelTold cause new x).Asleep sup y) :
    (judgeWithdraw (requestWarn (askEvent (levelTold cause new x)))).Asleep sup y := by
  have quiet : (levelTold cause new x).NoRateRule := by
    unfold State.NoRateRule
    rw [levelTold_rules]
    exact noRate
  have asked := told.askEvent deaf quiet (levelTold_held computed)
  exact (State.Asleep.runLeaves deaf y).judgeWithdraw
    (asked.ofSame (requestWarn_link _) (requestWarn_supervisor _) (requestWarn_notices _))

theorem changeLevel_withdrawn (cause : LevelCause) (new : Nat) (x : State) : changeLevel askEvent cause new x
    = wake (.levelChange new) (judgeWithdraw (requestWarn (askEvent (levelTold cause new x)))) := by
  rw [changeLevel_eq, levelSettled]

theorem withdrawn_only (cause : LevelCause) (new : Nat) (x : State) :
    LevelOnly x (judgeWithdraw (requestWarn (askEvent (levelTold cause new x)))) := by
  have told : LevelOnly x (levelTold cause new x) :=
    (((LevelOnly.placeLevel x cause new).trans (LevelOnly.judgeSiren _ _ _)).trans (LevelOnly.raiseSpell _ _)).trans
      (LevelOnly.raise _ _ _)
  exact ((told.trans (LevelOnly.askEvent _)).trans (LevelOnly.requestWarn _)).trans (LevelOnly.judgeWithdraw _)

/-- R173: what QUIET_WAKE tells, of the part in quiet mode. -/
def wakeTold (r : WakeReason) (s : State) : List Field :=
  wakeFields r ++ [.num 6 s.supervisor.quietEntry, .num 6 s.now] ++ optTime s.time.stationTime

/-- R173: the part has been woken for this reason. -/
structure WokenFor (r : WakeReason) (s t : State) : Prop where
  quiet : t.supervisor.quiet = .woken
  output : t.supervisor.wakeOutput = true
  told : t.notices.slots[sourcePlace .quietWake].map (·.content) = some (wakeTold r s)

theorem Woken.wokenFor {r : WakeReason} {s t : State} (h : Woken r s t) (occupied : s.link.notice ≠ none) : WokenFor r s t := by
  refine ⟨by rw [h.supervisor], by rw [h.supervisor], ?_⟩
  have slot : t.notices.slots[sourcePlace .quietWake]
      = some (raisedSlot .quietWake s.notices.slots[sourcePlace .quietWake] (quietWakeContent s r)) := by
    rw [h.told occupied]
    exact Vector.getElem_set_self _
  rw [slot, Option.map_some, raisedSlot_quietWake]
  rfl

/-- R150, R173: a level change in QUIET whose WARNING, raised into an empty slot, is a condition that wakes. -/
theorem changeLevel_levelFive {x : State} {cause : LevelCause} {new : Nat} (quiet : x.supervisor.quiet = .quiet)
    (occupied : x.link.notice ≠ none) (noRate : x.NoRateRule) (computed : new = computedLevel x.warning)
    (five : x.supervisor.wake.levelFive = true) (empty : x.notices.slots[sourcePlace .warning] = none) :
    WokenFor (.levelFive 2) x (changeLevel askEvent cause new x) := by
  have raised : ∃ w : State, levelTold cause new x = wake (.levelFive 2) w ∧ w.link = x.link ∧ w.supervisor = x.supervisor
      ∧ w.time = x.time := by
    have filled := fillSlot_of_occupied .warning
      (warningContent x.warning.level new cause ((x.setField (levelledField cause new x)).setWarning (levelledWarning cause new x)))
      ((x.setField (levelledField cause new x)).setWarning (levelledWarning cause new x)) occupied
    refine ⟨_, ?_, (congrArg State.link filled).trans rfl, (congrArg State.supervisor filled).trans rfl,
      (congrArg State.time filled).trans rfl⟩
    rw [levelTold_eq]
    exact if_pos ⟨by decide, empty⟩
  obtain ⟨w, told, link, supervisor, time⟩ := raised
  have woken : Woken (.levelFive 2) w (wake (.levelFive 2) w) :=
    wake_woken (by rw [supervisor]; exact quiet) (by rw [supervisor]; exact five)
  have wOccupied : w.link.notice ≠ none := by rw [link]; exact occupied
  have first := woken.wokenFor wOccupied
  have deaf : (wake (.levelFive 2) w).supervisor.deaf := .inl (by rw [first.quiet]; exact nofun)
  have asleep : (levelTold cause new x).Asleep (wake (.levelFive 2) w).supervisor
      (wake (.levelFive 2) w).notices.slots[sourcePlace .quietWake] := by
    rw [told]
    exact ⟨by rw [woken.link wOccupied]; exact wOccupied, rfl, rfl⟩
  have settled := asleep_withdrawn deaf noRate computed asleep
  rw [changeLevel_withdrawn, wake_unmet (.inl (by rw [settled.supervisor, first.quiet]; exact nofun))]
  refine ⟨by rw [settled.supervisor, first.quiet], by rw [settled.supervisor, first.output], ?_⟩
  rw [settled.slot, first.told, wakeTold, supervisor, State.now, time]
  rfl

/-- R91, step 9, R173: and one that the condition on a level change wakes at. -/
theorem changeLevel_woken {x : State} {cause : LevelCause} {new : Nat} (quiet : x.supervisor.quiet = .quiet)
    (occupied : x.link.notice ≠ none) (noRate : x.NoRateRule) (computed : new = computedLevel x.warning)
    (change : x.supervisor.wake.levelChange = true) (five : x.supervisor.wake.levelFive = false)
    (rate : x.supervisor.wake.rate = false) : WokenFor (.levelChange new) x (changeLevel askEvent cause new x) := by
  have deaf : x.supervisor.deaf := .inr ⟨five, rate⟩
  have before : ((x.setField (levelledField cause new x)).setWarning (levelledWarning cause new x)).Asleep x.supervisor
      x.notices.slots[sourcePlace .quietWake] := ⟨occupied, rfl, rfl⟩
  have told : (levelTold cause new x).Asleep x.supervisor x.notices.slots[sourcePlace .quietWake] := by
    rw [levelTold_eq]
    exact before.raise deaf (by decide) _
  have settled := asleep_withdrawn deaf noRate computed told
  have only := withdrawn_only cause new x
  rw [changeLevel_withdrawn]
  generalize judgeWithdraw (requestWarn (askEvent (levelTold cause new x))) = z at *
  have woken : Woken (.levelChange new) z (wake (.levelChange new) z) :=
    wake_woken (by rw [settled.supervisor]; exact quiet) (by rw [settled.supervisor]; exact change)
  obtain ⟨isWoken, output, content⟩ := woken.wokenFor settled.occupied
  refine ⟨isWoken, output, content.trans (congrArg some ?_)⟩
  rw [wakeTold, settled.supervisor, State.now, only.time]
  rfl

end Sys2Proof.Machine

namespace Sys2Proof.Machine

/-! ## O32: QUIET, and the wakes that end it (R172, R173) -/

theorem changeLevel_level {cause : LevelCause} {new : Nat} {x : State} (computed : new = computedLevel x.warning)
    (noRate : x.NoRateRule) : (changeLevel askEvent cause new x).warning.level = new := by
  obtain ⟨⟨starts, stops, old, y, -, -, -, -, level, -⟩, -⟩ := changeLevel_levelChanged (cause := cause) computed (.inr noRate)
  exact level

theorem WokenFor.of_setRules {reason} {s t : State} {rules : Vector _ 8} (woken : WokenFor reason (s.setRules rules) t) :
    WokenFor reason s t := by
  obtain ⟨isWoken, output, told⟩ := woken
  exact ⟨isWoken, output, told⟩

/-- R91, R150: a confirm timer that raises the level of a part in quiet mode. -/
theorem quiet_confirmed {s : State} {i : Fin 8} {e : Nat} (quiet : s.supervisor.quiet = .quiet) (occupied : s.link.notice ≠ none)
    (held : s.LevelHeld) (timer : s.warning.rules[i].timer = .running e) (due : e ≤ s.now)
    (confirming : s.warning.rules[i].state = .confirming) (above : s.warning.level < s.warning.rules[i].definition.level)
    (stages : ∀ j : Fin 8, s.warning.rules[j].definition.kind = .stage) :
    ∃ t, exec (.confirmTimerExpiry (i.val + 1)) s = .next t
      ∧ t.warning.level = s.warning.rules[i].definition.level
      ∧ (s.supervisor.wake.levelFive = true → s.notices.slots[sourcePlace .warning] = none → WokenFor (.levelFive 2) s t)
      ∧ (s.supervisor.wake.levelChange = true → s.supervisor.wake.levelFive = false → s.supervisor.wake.rate = false →
        WokenFor (.levelChange t.warning.level) s t) := by
  obtain ⟨next, moved⟩ := exec_ruleMoves timer due (.inl ⟨confirming, rfl, rfl⟩)
  obtain ⟨cause, changes⟩ := ruleMoves_above moved held rfl above
  have computed := (computed_active moved held rfl).trans (Nat.max_eq_right (Nat.le_of_lt above))
  have noRate : (s.setRules (s.warning.rules.set i { s.warning.rules[i] with
      state := .active, timer := .none, lastChange := some s.now })).NoRateRule := by
    intro j _
    by_cases same : j = i
    · subst same
      exact (congrArg (fun r => r.definition.kind) (set_self s.warning.rules j { s.warning.rules[j] with
        state := .active, timer := .none, lastChange := some s.now })).trans (stages j)
    · exact (congrArg (fun r => r.definition.kind) (set_holds _ same)).trans (stages j)
  rw [changes] at next
  have level := changeLevel_level (cause := cause) computed.symm noRate
  refine ⟨_, next, level, fun five empty => ?_, fun change five rate => ?_⟩
  · exact (changeLevel_levelFive (cause := cause) (by exact quiet) (by exact occupied) noRate computed.symm (by exact five)
      (by exact empty)).of_setRules
  · rw [level]
    exact (changeLevel_woken (cause := cause) (by exact quiet) (by exact occupied) noRate computed.symm (by exact change)
      (by exact five) (by exact rate)).of_setRules

/-! ### A post fault (R41) -/

theorem transmitterFree_kept (s : State) : (transmitterFree s).supervisor = s.supervisor
    ∧ (transmitterFree s).notices = s.notices := by
  unfold transmitterFree arbitrate
  constructor
  · split
    · split
      · rfl
      · split
        · rfl
        · split <;> rfl
    · rfl
  · split
    · split
      · rfl
      · split
        · rfl
        · split <;> rfl
    · rfl

theorem handContent_faulted {before s : State} {i : Fin 8} {f : FieldFrame} (status : f.kind = 0x21)
    (new : postFault (statusPlaced i (postStatusOf f) s) i = true) (sound : postFault before i = false) :
    handContent before i f s = wake (.postFault (i.val + 1)) (judgePosts before (statusPlaced i (postStatusOf f) s)) := by
  have notReading : f.kind ≠ kindReading := by
    rw [status]
    decide
  have kept : postFault (judgePosts before (statusPlaced i (postStatusOf f) s)) i = true := by
    rw [postFault, (keeps_judgePosts before _).field]
    exact new
  unfold handContent
  rw [if_neg notReading, if_pos (show f.kind = kindPostStatus from status)]
  show handPostFault before i (judgePosts before (statusPlaced i (postStatusOf f) s)) = _
  rw [handPostFault, kept, sound]
  rfl

/-- R41: a POST_STATUS that shows a new fault of its post wakes the part. -/
theorem handContent_wakes {before s x : State} {i : Fin 8} {f : FieldFrame} (quiet : s.supervisor.quiet = .quiet)
    (condition : s.supervisor.wake.postFault = true) (status : f.kind = 0x21) (fault : (postStatusOf f).fault = true)
    (sound : postFault before i = false) (supervisor : x.supervisor = s.supervisor) (occupied : x.link.notice ≠ none)
    (time : x.time = s.time) : WokenFor (.postFault (i.val + 1)) s (handContent before i f x) := by
  have placed : postFault (statusPlaced i (postStatusOf f) x) i = true := by
    rw [postFault, statusPlaced_get]
    exact fault
  have kept := keeps_judgePosts before (statusPlaced i (postStatusOf f) x)
  have stillOccupied := (judgePosts_raises before (statusPlaced i (postStatusOf f) x)).occupied occupied
  rw [handContent_faulted status placed sound]
  generalize judgePosts before (statusPlaced i (postStatusOf f) x) = z at *
  have same : z.supervisor = s.supervisor := kept.supervisor.trans supervisor
  have woken : Woken (.postFault (i.val + 1)) z (wake (.postFault (i.val + 1)) z) :=
    wake_woken (by rw [same]; exact quiet) (by rw [same]; exact condition)
  obtain ⟨isWoken, output, told⟩ := woken.wokenFor stillOccupied
  refine ⟨isWoken, output, told.trans (congrArg some ?_)⟩
  have zTime : z.time = s.time := kept.time.trans time
  rw [wakeTold, same, State.now, zTime]
  rfl

theorem WokenFor.after {r : WakeReason} {s t u : State} (h : WokenFor r s t) (supervisor : u.supervisor = t.supervisor)
    (notices : u.notices = t.notices) : WokenFor r s u :=
  ⟨by rw [supervisor]; exact h.quiet, by rw [supervisor]; exact h.output, by rw [notices]; exact h.told⟩

theorem quiet_postFault {s : State} {octets : List Byte} {f : FieldFrame} {i : Fin 8} {a b : Byte}
    (quiet : s.supervisor.quiet = .quiet) (condition : s.supervisor.wake.postFault = true) (occupied : s.link.notice ≠ none)
    (listens : s.field.tx ≠ .sending) (good : fieldFrameOf octets = some f) (off : s.field.settings.capture = false)
    (status : f.kind = 0x21) (payload : f.payload = [a, b, 1]) (own : f.destination = s.field.settings.ownAddress)
    (on : s.field.heads[i].config.enable = true) (post : s.field.heads[i].config.kind = .post)
    (source : s.field.heads[i].config.address = f.source)
    (alone : ∀ j : Fin 8, j ≠ i → s.field.heads[j].config.enable = true → s.field.heads[j].config.address ≠ f.source)
    (sound : ∀ q, s.field.heads[i].post = some q → q.fault = false) :
    ∃ t, exec (.fieldFrameReceived octets) s = .next t ∧ WokenFor (.postFault (i.val + 1)) s t := by
  have passed : (filterFrame s f).2 = some i :=
    filterFrame_own own (kindTaken_status status payload) on source (by rw [status]; exact nofun) (fun _ => post) alone
  have fault : (postStatusOf f).fault = true := by
    rw [postStatusOf, payload]
    rfl
  have soundBefore : postFault (frameEnded s) i = false := by
    show (match s.field.heads[i].post with
      | some q => q.fault
      | none => false) = false
    cases held : s.field.heads[i].post with
    | none => rfl
    | some q => exact sound q held
  rw [exec_fieldFrameReceived, frameReceived_passed listens good passed, frameOffered_off off]
  refine ⟨_, rfl, ?_⟩
  cases answers : answersWindow (frameEnded s) i f with
  | none =>
    rw [deliver_unasked answers]
    exact handContent_wakes quiet condition status fault soundBefore rfl occupied rfl
  | some x =>
    obtain ⟨-, -, ⟨poll, -⟩ | ⟨-, reply, -⟩⟩ := answersWindow_some answers
    · rw [deliver_polled answers poll]
      have handed := handContent_wakes (x := setEntry i (fun e => { e with lastOutcome := some .reply }) (signOfLife i (frameEnded s)))
        quiet condition status fault soundBefore rfl occupied rfl
      obtain ⟨supervisor, notices⟩ := transmitterFree_kept (scheduleEntry i (handContent (frameEnded s) i f
        (setEntry i (fun e => { e with lastOutcome := some .reply }) (signOfLife i (frameEnded s)))))
      exact handed.after supervisor notices
    · rw [status] at reply
      exact nomatch reply

/-! ### A rate (R77) -/

theorem wake_either {x : Supervisor} {z : State} {r : WakeReason} (quiet : x.quiet = .quiet) (met : wakeMet x.wake r = true)
    (either : SupervisorWoken x z.supervisor) : (wake r z).supervisor = { x with quiet := .woken, wakeOutput := true } := by
  rcases either with same | woken
  · rw [(wake_woken (r := r) (s := z) (by rw [same]; exact quiet) (by rw [same]; exact met)).supervisor, same]
  · rw [wake_unmet (.inl (by rw [woken]; exact nofun)), woken]

theorem append_wakes {kind : Append} {s : State} {v : Int} (quiet : s.supervisor.quiet = .quiet)
    (condition : s.supervisor.wake.rate = true) (rate : (builtRecord kind s).rate = some v)
    (reached : s.supervisor.wake.wakeRate ≤ v) :
    (append kind s).supervisor = { s.supervisor with quiet := .woken, wakeOutput := true } := by
  have handed : SupervisorWoken s.supervisor
      (handInput (queueAppend .event) .rate (some v) (joinRing kind s)).supervisor :=
    SupervisorWoken.handInput (s := joinRing kind s) (ask := queueAppend .event) (fun _ held => held) .rate (some v) (.inl rfl)
  have stage : (joinRing kind s).stage.rate = some v := rate
  rw [append]
  show (handRate (queueAppend .event) (joinRing kind s).stage.rate (joinRing kind s)).supervisor = _
  rw [stage]
  exact wake_either quiet (by simp [wakeMet, condition, reached]) handed

theorem recordInterval_quiet {s : State} (quiet : s.supervisor.quiet = .quiet) :
    recordInterval s = s.stage.settings.quietInterval * 1000 := by
  simp [recordInterval, State.quietInForce, quiet]

/-- Settles O32: QUIET taken, woken at once and refused, and the conditions that wake the part. -/
theorem quiet : Obligations.Quiet := by
  unfold Obligations.Quiet
  refine ⟨fun s tag calm idle rest free notSaving => ⟨quiet_enters tag calm ⟨idle, rest, free, notSaving⟩,
      fun v => quiet_woken tag calm ⟨idle, rest, free, notSaving⟩⟩,
    fun s tag calm => ⟨fun unfit => quiet_refused tag calm .state (takeQuiet_unfit ?_),
      fun idle rest free saving => quiet_refused tag calm .busy (takeQuiet_saves ?_ ?_ ?_ ?_)⟩,
    fun s r met fields reason => ⟨fun unmet => wake_unmet ?_, fun isQuiet isMet => ?_⟩,
    fun s i e isQuiet occupied held timer due _ confirming above stages => ?_,
    fun s octets f i a b isQuiet condition occupied listens good off status payload own on post source alone sound => ?_,
    fun s isQuiet condition due empty later => ?_⟩
  · rw [takenAt_run, takenAt_cable, takenAt_field]
    exact unfit
  · rw [takenAt_run]
    exact idle
  · rw [takenAt_cable]
    exact rest
  · rw [takenAt_field]
    exact free
  · rw [takenAt_supervisor]
    exact saving
  · rw [(wake_reason reason).1]
    exact unmet
  · obtain ⟨met_eq, fields_eq⟩ := wake_reason reason
    have woken : Woken r s (wake r s) := wake_woken isQuiet (met_eq.trans isMet)
    refine ⟨_, rfl, woken.keeps, woken.supervisor, woken.warning, fun occupied => ⟨_, woken.told occupied, ?_⟩⟩
    rw [raisedSlot_quietWake, quietWakeContent, fields_eq]
    rfl
  · obtain ⟨t, next, level, five, change⟩ := quiet_confirmed isQuiet occupied held timer due confirming above stages
    refine ⟨t, next, level, fun condition empty => ?_, fun condition noFive noRate => ?_⟩
    · obtain ⟨isWoken, output, told⟩ := five condition empty
      exact ⟨isWoken, output, told⟩
    · obtain ⟨isWoken, output, told⟩ := change condition noFive noRate
      exact ⟨isWoken, output, told⟩
  · obtain ⟨t, next, isWoken, output, told⟩ := quiet_postFault isQuiet condition occupied listens good off status payload own on
      post source alone sound
    exact ⟨t, next, isWoken, output, told⟩
  · have done := append_appended .interval s
    refine ⟨append .interval s, builtRecord .interval s, ?_, done.rate, done.ring, ?_, fun v rate reached => ?_⟩
    · rw [exec_recordTimerExpiry, recordExpires_due due (by rw [empty]; exact List.not_mem_nil),
        requestAppend_open .interval empty ((ringOpen_iff s).2 later)]
    · rw [done.recordExpiry, recordInterval_quiet isQuiet]
    · rw [append_wakes isQuiet condition rate reached]
      exact ⟨rfl, rfl⟩

end Sys2Proof.Machine

namespace Sys2Proof.Machine

/-! ## What an answer leaves of the link (R161, R163)

While a request is taken the host link is not ready: whatever the request raises waits in its slot, and of the link itself only
LINK_SET and RESTART set anything. -/

/-- From `s` to `t` a request may have been answered, with the link not ready. -/
def AnswerLink (s t : State) : Prop :=
  s.link.unready = true → t.link = { s.link with rateHeld := t.link.rateHeld, restart := t.link.restart }

/-- What a request raises through the blocks. -/
def answerSources : List NoticeSource := .channelState :: .postState :: voteSources

namespace AnswerLink

variable {s t : State}

theorem ofSame (same : t.link = s.link) : AnswerLink s t := fun _ => by rw [same]

theorem refl (s : State) : AnswerLink s s := ofSame rfl

theorem ofRaises (h : RaisesOnly answerSources s t) : AnswerLink s t :=
  fun unready => by rw [(h (by simp [linkReady, unready])).1]

theorem runLeaves (s : State) : RunLeaves (RaisesOnly answerSources s) := RaisesOnly.runLeaves (by decide) s

/-! ### The channels, the stage unit and the warning unit -/

theorem takeChannelSet (a : ChannelSetArgs) (s : State) : AnswerLink s (takeChannelSet a s).1 := by
  have applied : ∀ i x, AnswerLink s (applyChannel i x s) := fun i x =>
    ofRaises ((RaisesOnly.handChannel (by decide) i (s.setChannel i _)).after.trans
      (RaisesOnly.raise (src := .channelState) (by decide) (fun _ => by decide) _ _))
  unfold Machine.takeChannelSet
  split
  · dsimp only
    split_ifs
    case neg => exact applied _ _
    all_goals exact refl s
  · exact refl s

theorem takeStageSet (a : StageSetArgs) (s : State) : AnswerLink s (takeStageSet a s).1 := by
  have applied : ∀ x, AnswerLink s (applyStage x s) := fun x =>
    ofRaises ((RaisesOnly.runVote (by decide) (s.setStage _)).after.trans (RaisesOnly.ofSame rfl rfl))
  unfold Machine.takeStageSet
  split
  · exact refl s
  · split
    · exact refl s
    · exact applied _

theorem takeRuleSet (a : RuleSetArgs) (s : State) : AnswerLink s (takeRuleSet askEvent a s).1 := by
  unfold Machine.takeRuleSet
  split
  · split_ifs
    · exact refl s
    · exact refl s
    · exact ofRaises ((defineRule_raises _ _ s).mono (by decide))
  · exact refl s

theorem takeWarningFloor (n : Nat) (s : State) : AnswerLink s (takeWarningFloor askEvent n s).1 := by
  unfold Machine.takeWarningFloor
  split
  · exact refl s
  · exact ofRaises (RaisesOnly.recompute (by decide) (RaisesOnly.askEvent (by decide)) _ _ (s.setWarning _)).after

theorem takeWarningSet (a : WarningSetArgs) (s : State) : AnswerLink s (takeWarningSet a s).1 := by
  have applied : ∀ x, AnswerLink s (applyWarning x s) := by
    intro x
    refine ofRaises ((runLeaves s).judgeWithdraw ?_)
    split
    · exact (RaisesOnly.requestWarn _ _).after
    · exact RaisesOnly.ofSame rfl rfl
  unfold Machine.takeWarningSet
  split_ifs
  · exact refl s
  · exact refl s
  · exact applied _

theorem takeWarningAck (s : State) : AnswerLink s (takeWarningAck s).1 := by
  unfold Machine.takeWarningAck
  dsimp only
  split
  · exact ofSame (requestWarn_link _)
  · exact refl s

theorem takeMonitorSet (e n : Nat) (s : State) : AnswerLink s (takeMonitorSet e n s).1 := by
  unfold Machine.takeMonitorSet
  split
  · exact refl s
  · split <;> exact refl s

/-! ### The field line and the time base -/

theorem takeFieldSet (a : FieldSetArgs) (s : State) : AnswerLink s (takeFieldSet a s).1 := by
  unfold Machine.takeFieldSet
  split
  · exact refl s
  · split_ifs <;> exact refl s

theorem takeHeadSet (a : HeadSetArgs) (s : State) : AnswerLink s (takeHeadSet a s).1 := by
  have applied : ∀ i c, AnswerLink s (applyHead i c s) := by
    intro i c
    have told : RaisesOnly answerSources s (raisePostState (s.setHead i (freshHead s.now c))) :=
      (RaisesOnly.raise (src := .postState) (by decide) (fun _ => by decide) _ _).after
    refine ofRaises (RaisesOnly.trans (t := match s.field.heads[i].config.kind with
      | .post => raisePostState (s.setHead i (freshHead s.now c))
      | .stage => s.setHead i (freshHead s.now c)) ?_ (RaisesOnly.ofSame (arbitrate_link _) (arbitrate_notices _)))
    split
    · exact told
    · exact RaisesOnly.ofSame rfl rfl
  unfold Machine.takeHeadSet
  split
  · split_ifs
    case neg => exact applied _ _
    all_goals exact refl s
  · exact refl s

theorem takeHeadParam (a : HeadParamArgs) (s : State) : AnswerLink s (takeHeadParam a s).1 := by
  unfold Machine.takeHeadParam
  split
  · split_ifs
    case neg => exact ofSame (arbitrate_link _)
    all_goals exact refl s
  · exact refl s

theorem takeCaptureRead (s : State) : AnswerLink s (takeCaptureRead s).1 := by
  unfold Machine.takeCaptureRead
  split <;> exact refl s

theorem takeTimeSource (n : Nat) (s : State) : AnswerLink s (takeTimeSource n s).1 := by
  have xtal : ∀ x : State, (selectXtal x).link = x.link := by
    intro x
    unfold selectXtal
    split <;> rfl
  have rc : ∀ (n : Nat) (x : State), (selectRc n x).link = x.link := by
    intro n x
    unfold selectRc
    split <;> rfl
  unfold Machine.takeTimeSource
  dsimp only
  split
  · split
    · exact ofSame (xtal _)
    · exact refl s
  · exact ofSame (rc _ _)
  · exact refl s

theorem takeTimeSet (n : Nat) (s : State) : AnswerLink s (takeTimeSet n s).1 := by
  unfold Machine.takeTimeSet
  split <;> exact refl s

theorem takeTrimSet (c : Int) (s : State) : AnswerLink s (takeTrimSet c s).1 := by
  unfold Machine.takeTrimSet
  split <;> exact refl s

/-! ### The carriage and the run -/

theorem takeCarriageHome (s : State) : AnswerLink s (takeCarriageHome s).1 := by
  have homing : AnswerLink s (beginHoming s) := ofRaises ((runLeaves s).pursue (RaisesOnly.ofSame rfl rfl))
  unfold Machine.takeCarriageHome
  split_ifs
  case neg =>
    split
    case h_3 | h_4 | h_5 => exact homing
    all_goals exact refl s
  all_goals exact refl s

theorem takeCarriageSet (a : CarriageSetArgs) (s : State) : AnswerLink s (takeCarriageSet a s).1 := by
  unfold Machine.takeCarriageSet
  split_ifs <;> exact refl s

theorem takeRunStart (s : State) : AnswerLink s (takeRunStart s).1 := by
  unfold Machine.takeRunStart
  split_ifs
  case neg => exact ofRaises ((runLeaves s).startRun (RaisesOnly.refl _ s))
  all_goals exact refl s

theorem takeRunSkip (s : State) : AnswerLink s (takeRunSkip s).1 := by
  unfold Machine.takeRunSkip
  split
  · exact ofRaises ((runLeaves s).skipVertical (RaisesOnly.refl _ s))
  · exact refl s

theorem takeRunAbort (s : State) : AnswerLink s (takeRunAbort s).1 := by
  unfold Machine.takeRunAbort
  split
  · exact ofRaises ((runLeaves s).abortRun (RaisesOnly.refl _ s) _)
  · exact refl s

theorem takePlanPut (a : PlanPutArgs) (s : State) : AnswerLink s (takePlanPut a s).1 := by
  unfold Machine.takePlanPut
  dsimp only
  split
  · exact refl s
  · split_ifs <;> exact refl s

theorem takeMeterSet (a : MeterSetArgs) (s : State) : AnswerLink s (takeMeterSet a s).1 := by
  unfold Machine.takeMeterSet
  split_ifs <;> exact refl s

theorem takePlanClear (e l : Nat) (s : State) : AnswerLink s (takePlanClear e l s).1 := by
  unfold Machine.takePlanClear
  split <;> exact refl s

/-! ### The supervisor, the dispatcher and the link itself -/

theorem takeWakeSet (a : WakeSetArgs) (s : State) : AnswerLink s (takeWakeSet a s).1 := by
  unfold Machine.takeWakeSet
  split
  · exact refl s
  · split <;> exact refl s

theorem takeSave (s : State) : AnswerLink s (takeSave s).1 := by
  unfold Machine.takeSave
  split <;> exact refl s

theorem takeQuiet (s : State) : AnswerLink s (takeQuiet s).1 := by
  have woken : ∀ r x, RaisesOnly answerSources x (wake r x) := RaisesOnly.wake (by decide)
  have staged : ∀ x : State, RaisesOnly answerSources x (match x.warning.stageInput with
      | some v => wake (.stage v) x
      | none => x) := by
    intro x
    split
    · exact woken _ x
    · exact RaisesOnly.refl _ x
  have judged : ∀ x : State, RaisesOnly answerSources x (judgeInputs x) := by
    intro x
    unfold judgeInputs
    dsimp only
    split
    · exact (staged x).trans (woken _ _)
    · exact staged x
  have suspended : ∀ x : State, RaisesOnly answerSources x (monitorSuspended x) := by
    intro x
    unfold monitorSuspended
    split <;> exact RaisesOnly.ofSame rfl rfl
  unfold Machine.takeQuiet
  split_ifs
  case neg => exact ofRaises ((suspended _).after.trans (judged _))
  all_goals exact refl s

theorem takeNoticeSet (m : Nat) (x : Option NoticeItem) (s : State) : AnswerLink s (takeNoticeSet m x s).1 := by
  unfold Machine.takeNoticeSet
  split
  · exact refl s
  · exact refl s
  · split <;> exact refl s

theorem takeNoticeDone (s : State) : AnswerLink s (takeNoticeDone s).1 := by
  unfold Machine.takeNoticeDone
  split <;> exact refl s

theorem takeLinkSet (n : Nat) (s : State) : AnswerLink s (takeLinkSet n s).1 := by
  unfold Machine.takeLinkSet
  split_ifs <;> exact fun _ => rfl

theorem takeRestart (s : State) : AnswerLink s (takeRestart s).1 := by
  unfold Machine.takeRestart
  split <;> exact fun _ => rfl

/-- R161: whatever the request. -/
theorem answer (q : Request) (s : State) : AnswerLink s (answer q s).1 := by
  cases q with
  | linkSet n => exact takeLinkSet n s
  | timeSet n => exact takeTimeSet n s
  | timeSource n => exact takeTimeSource n s
  | trimSet c => exact takeTrimSet c s
  | fieldSet a => exact takeFieldSet a s
  | headSet a => exact takeHeadSet a s
  | headParam a => exact takeHeadParam a s
  | captureRead => exact takeCaptureRead s
  | channelSet a => exact takeChannelSet a s
  | stageSet a => exact takeStageSet a s
  | ruleSet a => exact takeRuleSet a s
  | warningSet a => exact takeWarningSet a s
  | warningAck => exact takeWarningAck s
  | warningFloor n => exact takeWarningFloor n s
  | monitorSet e n => exact takeMonitorSet e n s
  | carriageSet a => exact takeCarriageSet a s
  | carriageHome => exact takeCarriageHome s
  | meterSet a => exact takeMeterSet a s
  | planClear e l => exact takePlanClear e l s
  | planPut a => exact takePlanPut a s
  | runStart => exact takeRunStart s
  | runSkip => exact takeRunSkip s
  | runAbort => exact takeRunAbort s
  | quiet => exact takeQuiet s
  | wakeSet a => exact takeWakeSet a s
  | noticeSet m x => exact takeNoticeSet m x s
  | noticeDone => exact takeNoticeDone s
  | save => exact takeSave s
  | restart => exact takeRestart s
  | headRead n => exact Kept.takeHeadRead (refl s) n
  | channelRead n => exact Kept.takeChannelRead (refl s) n
  | recordRead start count => exact Kept.takeRecordRead (refl s) start count
  | ruleRead n => exact Kept.takeRuleRead (refl s) n
  | planRead n => exact Kept.takePlanRead (refl s) n
  | resultRead n => exact Kept.takeResultRead (refl s) n
  | causeClear | hold | identify | timeRead | stageRead | warningRead | carriageRead | runRead | causeRead => exact refl s

end AnswerLink

end Sys2Proof.Machine

namespace Sys2Proof.Machine

/-! ## O10: the frame on the line has gone (R161, R163, R169) -/

/-- R163: a frame that is on the line stays there. -/
theorem startLine_held {s : State} {x : Holder} (held : s.link.line = some x) : startLine s = s := by
  simp only [startLine, held]

theorem dispatch_line {s : State} {x : Holder} (held : s.link.line = some x) : (dispatch s).link.line = some x := by
  unfold dispatch
  split
  · split
    · exact held
    · unfold handOver
      split
      · exact held
      · exact (congrArg (fun u : State => u.link.line) (startLine_held (by exact held))).trans held
  · exact held

/-- R152: with nothing to choose the notice holder stands. -/
theorem lineFree_unchosen {s : State} (none_ : bestSource s = none) : (lineFree s).link.notice = s.link.notice := by
  have freed : bestSource (startLine (s.setLink { s.link with line := none })) = none := by
    rw [bestSource_congr (startLine_notices _) (congrArg WarningUnit.autonomous (startLine_warning _))]
    exact none_
  rw [lineFree, dispatch_of_none freed]
  unfold startLine
  split
  · rfl
  · split_ifs <;> rfl

/-- R163: the reply goes first. -/
theorem lineFree_reply {s : State} (held : s.link.reply.isSome = true) : (lineFree s).link.line = some .reply :=
  dispatch_line (by rw [startLine_line]; exact if_pos held)

theorem lineFree_notice {s : State} (reply : s.link.reply = none) (held : s.link.notice.isSome = true) :
    (lineFree s).link.line = some .notice := by
  refine dispatch_line ?_
  rw [startLine_line]
  show (if s.link.reply.isSome = true then _ else _) = _
  rw [reply, if_neg nofun]
  exact if_pos held

theorem keeps_lineFree (s : State) : s.Keeps (lineFree s) := by
  simp [State.Keeps, lineFree, sameBut_refl]

/-- R161: a request is taken on a free line: what the link then holds. -/
theorem takeFrame_link (f : HostFrame) {s : State} (free : s.link.line = none) (none_ : s.link.waiting = none) :
    (takeFrame f s).link.inHand = some { kind := f.kind, tag := f.tag } ∧ (takeFrame f s).link.waiting = none
      ∧ (takeFrame f s).link.reply.map (·.tag) = some f.tag ∧ (takeFrame f s).link.line = some .reply := by
  obtain ⟨u, u_eq⟩ : ∃ u : State, u = s.setLink
    { s.link with inHand := some { kind := f.kind, tag := f.tag }, unready := true } := ⟨_, rfl⟩
  have judged : AnswerLink u (judgeFrame f u).1 := by
    unfold judgeFrame
    split
    · exact .refl u
    · exact .answer _ u
  have link := judged (by rw [u_eq]; rfl)
  have taken : takeFrame f s = placeReply f (judgeFrame f u) := by rw [takeFrame, u_eq]
  rw [taken]
  refine ⟨?_, ?_, ?_, ?_⟩
  · rw [placeReply_inHand, link, u_eq]
    rfl
  · rw [placeReply_waiting, link, u_eq]
    exact none_
  · rw [placeReply_reply]
    unfold replyFrame
    split <;> rfl
  · refine dispatch_line ?_
    rw [startLine_line]
    have unheld : (judgeFrame f u).1.link.line = none := by
      rw [link, u_eq]
      exact free
    show (match (judgeFrame f u).1.link.line with | some h => _ | none => _) = _
    rw [unheld]
    rfl

theorem replyGone_alone {s : State} (none_ : s.link.waiting = none) : replyGone s
    = lineFree (s.setLink { s.link with inHand := none, reply := none, line := none }) := by
  unfold replyGone
  dsimp only
  split
  case h_1 f waits => exact absurd (none_.symm.trans waits) nofun
  case h_2 => rfl

/-- Settles O10: by the frame on the line; a waiting request is taken with the link not ready. -/
theorem frameGone : Obligations.FrameGone := by
  unfold Obligations.FrameGone
  refine ⟨fun s none_ => ?_, fun s line => ?_, fun s line stays none_ => ?_, fun s f line stays waits => ?_,
    fun s line accepted => ?_⟩
  · exact congrArg Host.Outcome.next (by rw [hostSent, none_])
  · refine ⟨_, rfl, ?_⟩
    have gone : hostSent s = lineFree (s.setLink { s.link with notice := none }) := by rw [hostSent, line]
    rw [gone]
    exact ⟨keeps_lineFree (s.setLink _), by simp [lineFree], by simp [lineFree], by simp [lineFree],
      fun none_ => lineFree_unchosen none_, fun held => lineFree_reply held⟩
  · refine ⟨_, rfl, ?_⟩
    have gone : hostSent s = lineFree (s.setLink { s.link with inHand := none, reply := none, line := none }) := by
      rw [hostSent, line]
      dsimp only
      rw [if_neg stays]
      exact replyGone_alone none_
    rw [gone]
    exact ⟨keeps_lineFree (s.setLink _), by simp [lineFree], by simp [lineFree], by simp [lineFree, none_],
      fun held => lineFree_notice rfl held⟩
  · exact ⟨_, exec_hostFrameSent_waiting line stays waits, takeFrame_link f rfl rfl⟩
  · refine congrArg Host.Outcome.next ?_
    rw [hostSent, line]
    exact if_pos accepted

end Sys2Proof.Machine

namespace Sys2Proof.Machine

/-! ## O11: a frame that arrives in AUTONOMOUS and in quiet mode at once (R101, R150, R173)

No part is AUTONOMOUS in quiet mode (R100, R172), but the statement is about every state. In such a one the LINK that the end of
AUTONOMOUS raises is of level 5 and wakes the part, and the wake sets a SUSPENDED monitor running that is not enabled. -/

/-- AUTONOMOUS in quiet mode with a spell, the monitor SUSPENDED and not enabled. -/
def autonomousAsleep : State :=
  (State.reset.setWarning
    { State.reset.warning with
      autonomous := true
      monitor := .suspended
      monitorSettings := { enable := false, exponent := 0 }
      spell := some { enteredRunTime := 0, enteredStation := none, leftRunTime := none, leftStation := none
                      highest := 0, atDeparture := none, sirenStarts := 0 } }).setSupervisor
    { State.reset.supervisor with quiet := .quiet }

/-- R173: the wake by LINK sets the monitor running. -/
theorem autonomousAsleep_monitor :
    (frameArrives { kind := 0x03, tag := 0, content := .error .unknownKind } autonomousAsleep).warning.monitor
      = .running 15000 := by decide

/-- Refutes O11, in its clause on a monitor that is not enabled: it does not stand in `autonomousAsleep`. -/
theorem not_frameArrival : ¬ Obligations.FrameArrival := by
  unfold Obligations.FrameArrival
  rintro ⟨-, heard, -⟩
  obtain ⟨t, next, -, awake, -⟩ := heard autonomousAsleep (.unknownKind 0x03 0) (.inl ⟨_, _, rfl⟩)
  obtain ⟨-, -, stands⟩ := awake nofun
  have stood : t.warning.monitor = .suspended := stands nofun rfl
  injection next with arrived
  rw [← arrived] at stood
  exact absurd (autonomousAsleep_monitor.symm.trans stood) nofun

end Sys2Proof.Machine

namespace Sys2Proof.Machine

/-! ## The end of a reset: RESTART is raised last and handed over at once (R169) -/

theorem arbitrate_unmanaged {s : State} (none_ : s.field.management = none) : (arbitrate s).field.management = none := by
  unfold arbitrate
  split
  · split_ifs
    · exact none_
    · simp only [none_, Option.filter_none]
      split
      · exact none_
      · exact none_
  · exact none_

/-- Before the end of a reset: the link and the dispatcher as the reset starts them, but for a WARNING that the reset's own
level change may have raised. -/
structure RestartReady (s : State) : Prop where
  notice : s.link.notice = none
  waiting : s.link.waiting = none
  line : s.link.line = none
  reply : s.link.reply = none
  slots : ∀ src, src ≠ .warning → s.notices.slots[sourcePlace src] = none
  service : s.notices.inService = []
  hold : s.notices.hold = none
  autonomous : s.warning.autonomous = false
  quiet : s.supervisor.quiet = .normal

/-- R169: the frame of RESTART. -/
def restartFrame (abandoned : Bool) (s : State) : OutFrame :=
  { kind := 0xC1, tag := 0, payload := .num 1 0 :: restartContent abandoned s }

/-- R169: from `s` to `t` a reset has ended. -/
structure ResetEnded (abandoned : Bool) (s t : State) : Prop where
  time : t.time = s.time
  settings : t.field.settings = s.field.settings
  heads : t.field.heads = s.field.heads
  captured : t.field.captured = s.field.captured
  lastSent : t.field.lastSent = s.field.lastSent
  management : s.field.management = none → t.field.management = none
  channels : t.channels = s.channels
  stage : t.stage = s.stage
  warning : t.warning = s.warning
  cable : t.cable = s.cable
  gauging : t.gauging = s.gauging
  noticeSettings : t.notices.settings = s.notices.settings
  hold : t.notices.hold = s.notices.hold
  link : t.link = { s.link with unready := false, notice := some (restartFrame abandoned s), line := some .notice }
  supervisor : t.supervisor = s.supervisor

/-- R152: RESTART comes before a WARNING. -/
theorem bestSource_restart {s : State} (autonomous : s.warning.autonomous = false) (service : s.notices.inService = [])
    (full : s.notices.slots[sourcePlace .restart] ≠ none)
    (others : ∀ src, src ≠ .warning → src ≠ .restart → s.notices.slots[sourcePlace src] = none) :
    bestSource s = some .restart := by
  have level : (sourceSetting s .restart).level = 5 := rfl
  have warning : (sourceSetting s .warning).level = 5 := rfl
  refine bestSource_eq_some ?_ fun k eligible => ?_
  · rw [eligible_iff, level, service]
    exact ⟨full, autonomous, by decide, nofun, rfl, .inr rfl, .inr rfl⟩
  · rw [eligible_iff] at eligible
    by_cases isWarning : k = .warning
    · subst isWarning
      exact .inr ⟨rfl, by decide⟩
    · by_cases isRestart : k = .restart
      · subst isRestart
        exact .inr ⟨rfl, Nat.le_refl _⟩
      · exact absurd (others k isWarning isRestart) eligible.1

theorem endReset_ended (abandoned : Bool) {s : State} (ready : RestartReady s) :
    ResetEnded abandoned s (endReset abandoned s) := by
  obtain ⟨notice, waiting, line, reply, slots, service, hold, autonomous, quiet⟩ := ready
  obtain ⟨u, u_eq⟩ : ∃ u : State, u = (s.setLink { s.link with unready := false }).setNotices
    { s.notices with
      slots := s.notices.slots.set (sourcePlace .restart) (some { content := restartContent abandoned s, merged := 0 }) } :=
    ⟨_, rfl⟩
  have filled : raise .restart (restartContent abandoned s) (s.setLink { s.link with unready := false }) = dispatch u := by
    rw [raise_of_awake _ _ _ (by exact quiet ▸ nofun), fillSlot, u_eq]
    have empty : slotOf (s.setLink { s.link with unready := false }) .restart = none := slots _ (by decide)
    rw [empty]
    rfl
  have slot : u.notices.slots[sourcePlace .restart] = some { content := restartContent abandoned s, merged := 0 } := by
    simp [u_eq]
  have best : bestSource u = some .restart := by
    refine bestSource_restart (by rw [u_eq]; exact autonomous) (by rw [u_eq]; exact service) (by rw [slot]; exact nofun)
      fun src notWarning notRestart => ?_
    have apart : (sourcePlace .restart).val ≠ (sourcePlace src).val :=
      fun same => notRestart (sourcePlace_injective (Fin.ext same)).symm
    simpa [u_eq, apart] using slots src notWarning
  have told := dispatch_of_some ((linkReady_iff u).2 (by rw [u_eq]; exact ⟨notice, waiting, rfl⟩)) best slot
    (by rw [u_eq]; exact line) (by rw [u_eq]; exact reply)
  have ended : endReset abandoned s = arbitrate (dispatch u) := congrArg arbitrate filled
  obtain ⟨settings, captured, heads, lastSent⟩ := arbitrate_tables (dispatch u)
  rw [ended]
  constructor
  case settings => rw [settings, told, u_eq]; rfl
  case heads => rw [heads, told, u_eq]; rfl
  case captured => rw [captured, told, u_eq]; rfl
  case lastSent => rw [lastSent, told, u_eq]; rfl
  case management => exact fun none_ => arbitrate_unmanaged (by rw [told, u_eq]; exact none_)
  case link =>
    rw [arbitrate_link, told, u_eq]
    rfl
  all_goals simp [u_eq]

end Sys2Proof.Machine

namespace Sys2Proof.Machine

/-! ## A cold reset (R104, R168) -/

theorem reset_cold {cause : ResetCause} (cold : isCold cause = true) (s : State) :
    reset cause s = endReset s.saveRuns (startBlocks cause s) := by
  unfold reset resetLevel
  rw [if_pos cold]

theorem startBlocks_ready (cause : ResetCause) (s : State) : RestartReady (startBlocks cause s) where
  notice := rfl
  waiting := rfl
  line := rfl
  reply := rfl
  slots _ _ := Vector.getElem_replicate _
  service := rfl
  hold := rfl
  autonomous := rfl
  quiet := rfl

/-! ## The level that a warm reset computes (R105, R91) -/

/-- A part that a warm reset is starting: no run, no stage and no notice; and every enabled rule is BLIND, its
timer paused, so that an absent input moves none. -/
structure Starting (s : State) : Prop where
  ready : RestartReady s
  unready : s.link.unready = true
  unwarned : s.notices.slots[sourcePlace .warning] = none
  rateInput : s.warning.rateInput = none
  run : s.run.state ≠ .active
  stage : s.stage.stage = none
  waiting : s.stage.waiting = []
  blind : handRules .rate s.now none s.warning.rules = s.warning.rules

theorem pauseTimer_pauseTimer (now later : Nat) (t : RuleTimer) : pauseTimer later (pauseTimer now t) = pauseTimer now t := by
  cases t <;> rfl

/-- R84, R105: a rule as a warm reset leaves it does not move on an absent input. -/
theorem handRule_warmRule (now later : Nat) (r : Rule) {d : RuleDef} (enable : d.enable = true) :
    handRule later none (warmRule now r d) = warmRule now r d := by
  unfold warmRule
  split
  · simp only [handRule, pauseTimer_pauseTimer]
  · simp only [handRule, startedRule, enable, pauseTimer]

theorem warmRule_definition (now : Nat) (r : Rule) (d : RuleDef) : (warmRule now r d).definition = d := by
  unfold warmRule
  split
  case isTrue same => exact same.1
  case isFalse => rfl

theorem startBlocks_rule {cause : ResetCause} (warm : isCold cause = false) (s : State) (i : Fin 8) :
    (startBlocks cause s).warning.rules[i] = warmRule s.now s.warning.rules[i] (loadedSettings s).rules[i] := by
  simp [startBlocks, startWarning, startRules, startTime, warm, State.now]

theorem startBlocks_now {cause : ResetCause} (warm : isCold cause = false) (s : State) : (startBlocks cause s).now = s.now := by
  simp [State.now, startBlocks, startTime, warm]

theorem startBlocks_starting {cause : ResetCause} (warm : isCold cause = false) (s : State) :
    Starting (startBlocks cause s) where
  ready := startBlocks_ready cause s
  unready := rfl
  unwarned := Vector.getElem_replicate _
  rateInput := rfl
  run := nofun
  stage := rfl
  waiting := rfl
  blind := by
    refine Vector.ext fun i at_ => ?_
    have rule := startBlocks_rule warm s ⟨i, at_⟩
    refine (LevelOnly.handRules_get .rate (startBlocks cause s).now none (startBlocks cause s).warning.rules ⟨i, at_⟩).trans ?_
    split
    case isTrue watched =>
      rw [watches_iff, rule, warmRule_definition] at watched
      exact ((congrArg _ rule).trans (handRule_warmRule _ _ _ watched.1)).trans rule.symm
    case isFalse => rfl

/-- The level told, on a part that is starting: WARNING waits in its slot (R91, R150). -/
def startTold (cause : LevelCause) (new : Nat) (u : State) : State :=
  ((u.setField (levelledField cause new u)).setWarning (levelledWarning cause new u)).setNotices
    { u.notices with
      slots := u.notices.slots.set (sourcePlace .warning) (some (raisedSlot .warning none
        (warningContent u.warning.level new cause
          ((u.setField (levelledField cause new u)).setWarning (levelledWarning cause new u))))) }

section
variable {cause : LevelCause} {new : Nat} {u : State}

theorem levelTold_starting (h : Starting u) : levelTold cause new u = startTold cause new u := by
  obtain ⟨x, x_eq⟩ : ∃ x, x = (u.setField (levelledField cause new u)).setWarning (levelledWarning cause new u) := ⟨_, rfl⟩
  have awake : x.supervisor.quiet ≠ .quiet := by
    rw [x_eq]
    exact h.ready.quiet ▸ nofun
  have unready : ∀ n, linkReady (x.setNotices n) = false := by
    rw [x_eq]
    simp [linkReady, h.unready]
  have empty : slotOf x .warning = none := by
    rw [x_eq]
    exact h.unwarned
  rw [levelTold_eq, ← x_eq, raise_of_awake _ _ _ awake, fillSlot, dispatch_of_unready (unready _), empty, startTold, ← x_eq]
  rw [x_eq]
  rfl

/-- R73, R77: the event record has no rate, and so moves no rule and no level. -/
theorem append_starting (h : Starting u) (computed : new = computedLevel u.warning) :
    append .event (startTold cause new u) = joinRing .event (startTold cause new u) := by
  obtain ⟨j, j_eq⟩ : ∃ j, j = joinRing .event (startTold cause new u) := ⟨_, rfl⟩
  have warning : j.warning = levelledWarning cause new u := by rw [j_eq]; rfl
  have rate : j.stage.rate = none := by
    rw [j_eq]
    show (u.stage.stage.bind _) = none
    rw [h.stage]
    rfl
  have rules : handRules .rate j.now none j.warning.rules = j.warning.rules := by
    rw [j_eq]
    exact h.blind
  have same : blindDiffers j.warning.rules j.warning.rules = false := by
    rw [← Bool.not_eq_true, blindDiffers_iff]
    exact fun ⟨i, differs⟩ => differs rfl
  have input : ({ j.warning with rateInput := none } : WarningUnit) = j.warning := by
    have unfed : j.warning.rateInput = none := by rw [warning]; exact h.rateInput
    rw [← unfed]
  have stands : computedLevel j.warning = j.warning.level := by
    rw [warning]
    exact computed.symm
  have handed : handInput (queueAppend .event) .rate none j = j := by
    unfold handInput reportBlind
    dsimp only
    rw [rules, same, if_neg Bool.false_ne_true]
    show recompute _ _ _ (j.setWarning { j.warning with rateInput := none }) = j
    rw [input]
    exact recompute_stands stands
  rw [append, ← j_eq, rate]
  exact handed

/-- R73: the event record joins the ring, or waits where no later ms has come. -/
def startAppended (cause : LevelCause) (new : Nat) (u : State) : State :=
  if ringOpen u then joinRing .event (startTold cause new u)
  else (startTold cause new u).setStage { u.stage with waiting := [.event] }

theorem askEvent_starting (h : Starting u) (computed : new = computedLevel u.warning) :
    askEvent (startTold cause new u) = startAppended cause new u := by
  have empty : (startTold cause new u).stage.waiting = [] := h.waiting
  unfold startAppended
  split
  case isTrue opened =>
    exact (requestAppend_open .event empty (by exact opened)).trans (append_starting h computed)
  case isFalse shut =>
    have waits : (startTold cause new u).AppendWaits := (appendWaits_iff _).2 fun ⟨_, opened⟩ => shut opened
    refine (requestAppend_waits .event waits).trans ?_
    rw [empty]
    rfl

/-- What the event record leaves of a part that is starting. -/
theorem startAppended_stands (cause : LevelCause) (new : Nat) (u : State) :
    (startAppended cause new u).gauging = u.gauging ∧ (startAppended cause new u).supervisor = u.supervisor
      ∧ (startAppended cause new u).link = u.link ∧ (startAppended cause new u).warning = levelledWarning cause new u
      ∧ (startAppended cause new u).notices = (startTold cause new u).notices := by
  unfold startAppended
  split <;> exact ⟨rfl, rfl, rfl, rfl, rfl⟩

/-- R91: a warm reset's own level change, down to its WARN request. -/
theorem changeLevel_starting (h : Starting u) (computed : new = computedLevel u.warning) :
    changeLevel askEvent cause new u = requestWarn (startAppended cause new u) := by
  obtain ⟨gauging, supervisor, -, -, -⟩ := startAppended_stands cause new u
  have idle : (requestWarn (startAppended cause new u)).run.state ≠ .active := by
    rw [State.run, requestWarn_gauging, gauging]
    exact h.run
  have awake : (requestWarn (startAppended cause new u)).supervisor.quiet ≠ .quiet := by
    rw [requestWarn_supervisor, supervisor, h.ready.quiet]
    exact nofun
  rw [changeLevel_eq, levelTold_starting h, askEvent_starting h computed, levelSettled, judgeWithdraw_stands (.inl idle)]
  exact wake_of_awake _ _ awake

/-- R105, R91: from `u` to `v` a warm reset has changed the level. -/
structure StartLevelled (cause : LevelCause) (new : Nat) (u v : State) : Prop where
  ready : RestartReady v
  link : v.link = u.link
  warning : v.warning = levelledWarning cause new u
  opened : ringOpen u = true → v.stage = (joinRing .event (startTold cause new u)).stage
  shut : ringOpen u = false → v.stage = { u.stage with waiting := [.event] }

theorem changeLevel_levelled (h : Starting u) (computed : new = computedLevel u.warning) :
    StartLevelled cause new u (changeLevel askEvent cause new u) := by
  rw [changeLevel_starting h computed]
  obtain ⟨-, supervisor, link, warning, notices⟩ := startAppended_stands cause new u
  obtain ⟨notice, waiting, line, reply, slots, service, hold, autonomous, quiet⟩ := h.ready
  constructor
  case ready =>
    constructor
    case slots =>
      intro src other
      rw [requestWarn_notices, notices]
      have apart : (sourcePlace .warning).val ≠ (sourcePlace src).val := fun same => other (sourcePlace_injective (Fin.ext same)).symm
      simpa [startTold, apart] using slots src other
    case service => rw [requestWarn_notices, notices]; exact service
    case hold => rw [requestWarn_notices, notices]; exact hold
    case autonomous => rw [requestWarn_warning, warning]; exact autonomous
    case quiet => rw [requestWarn_supervisor, supervisor]; exact quiet
    all_goals rwa [requestWarn_link, link]
  case link => rw [requestWarn_link, link]
  case warning => rw [requestWarn_warning, warning]
  case opened =>
    intro opened
    rw [requestWarn_stage, startAppended, if_pos opened]
  case shut =>
    intro shut
    rw [requestWarn_stage, startAppended, if_neg (by rw [shut]; exact nofun)]
    rfl

end

end Sys2Proof.Machine

namespace Sys2Proof.Machine

/-! ## O4: what every reset loads and announces (R166, R168 to R170) -/

/-- R105: a warm reset computes the level. -/
theorem reset_warm {cause : ResetCause} (warm : isCold cause = false) (s : State) : reset cause s
    = endReset s.saveRuns (recompute askEvent s.warning.rules none (startBlocks cause s)) := by
  unfold reset resetLevel
  rw [if_neg (by rw [warm]; exact nofun)]

/-- R105: the level computed on a part that is starting. -/
theorem recompute_ready {u : State} (h : Starting u) (before : Vector Rule 8) :
    RestartReady (recompute askEvent before none u) ∧ (recompute askEvent before none u).link = u.link := by
  by_cases stands : computedLevel u.warning = u.warning.level
  · rw [recompute_stands stands]
    exact ⟨h.ready, rfl⟩
  · rw [recompute_changes stands]
    have levelled := changeLevel_levelled (cause := none.getD (changeCause before u.warning (computedLevel u.warning))) h rfl
    exact ⟨levelled.ready, levelled.link⟩

/-- R168, R169: every reset is the blocks' starts, perhaps a level change, and then RESTART. -/
theorem reset_ends (cause : ResetCause) (s : State) : ∃ v, LevelOnly (startBlocks cause s) v
    ∧ v.link = (startBlocks cause s).link ∧ RestartReady v ∧ ResetEnded s.saveRuns v (reset cause s) := by
  cases cold : isCold cause with
  | true =>
    have ready := startBlocks_ready cause s
    rw [reset_cold cold]
    exact ⟨_, .refl _, rfl, ready, endReset_ended _ ready⟩
  | false =>
    obtain ⟨ready, link⟩ := recompute_ready (startBlocks_starting cold s) s.warning.rules
    rw [reset_warm cold]
    exact ⟨_, .recompute askEvent LevelOnly.askEvent _ _ _, link, ready, endReset_ended _ ready⟩

theorem startBlocks_definition (cause : ResetCause) (s : State) (i : Fin 8) :
    (startBlocks cause s).warning.rules[i].definition = (loadedSettings s).rules[i] := by
  cases cold : isCold cause with
  | true => simp [startBlocks, startWarning, startRules, cold, startedRule]
  | false => rw [startBlocks_rule cold, warmRule_definition]

/-- R166, R170: the settings that every reset loads. -/
theorem reset_loads (cause : ResetCause) (s : State) {x : Stored} (x_eq : x = loadedSettings s) {t : State}
    (t_eq : t = reset cause s) :
    t.field.settings = x.field ∧ (∀ i : Fin 8, t.field.heads[i].config = x.heads[i])
      ∧ (∀ i : Fin 4, t.channels[i].settings = x.channels[i]) ∧ t.stage.settings = x.stage
      ∧ (∀ i : Fin 8, t.warning.rules[i].definition = x.rules[i]) ∧ t.warning.settings = x.warning
      ∧ t.warning.monitorSettings = x.monitor
      ∧ t.time.correction = (if isCold cause = true then x.correction else s.time.correction)
      ∧ t.cable.settings = x.carriage ∧ t.gauging.rating = x.rating ∧ t.gauging.plan = x.plan
      ∧ t.notices.settings = x.notices ∧ t.supervisor.wake = x.wake
      ∧ t.link.rateHeld = x.rate ∧ t.link.rateInForce = x.rate := by
  obtain ⟨v, only, link, -, ended⟩ := reset_ends cause s
  have supervisor := only.supervisor nofun
  rw [← t_eq] at ended
  subst x_eq
  refine ⟨?_, fun i => ?_, fun i => ?_, ?_, fun i => ?_, ?_, ?_, ?_, ?_, ?_, ?_, ?_, ?_, ?_, ?_⟩
  · rw [ended.settings, only.field]; rfl
  · rw [ended.heads, only.field]
    exact congrArg HeadEntry.config (mapTable_get _ _ i)
  · rw [ended.channels, only.channels]
    exact congrArg Channel.settings (mapTable_get _ _ i)
  · rw [ended.stage, only.stage]; rfl
  · rw [ended.warning, only.definitions, startBlocks_definition]
  · rw [ended.warning, only.warningSettings]; rfl
  · rw [ended.warning, only.monitorSettings]; rfl
  · rw [ended.time, only.time]
    cases cold : isCold cause with
    | true => simp [startBlocks, startTime, cold]
    | false => simp [startBlocks, startTime, cold]
  · rw [ended.cable, only.settings]; rfl
  · rw [ended.gauging, only.rating]; rfl
  · rw [ended.gauging, only.plan]; rfl
  · rw [ended.noticeSettings, only.noticeSettings]; rfl
  · rw [ended.supervisor, supervisor]; rfl
  · rw [ended.link, link]; rfl
  · rw [ended.link, link]; rfl

/-- R168, R169, R170: the store is kept, and RESTART is on its way. -/
theorem reset_tells (cause : ResetCause) (s : State) {t : State} (t_eq : t = reset cause s) :
    t.supervisor.store = s.supervisor.store ∧ t.supervisor.storeValid = s.supervisor.storeValid
      ∧ t.supervisor.storeFound = s.supervisor.storeValid ∧ t.link.line = some .notice
      ∧ t.link.notice = some
          { kind := 0xC1, tag := 0
            payload := [.num 1 0, .code (resetKindCode cause), .code (resetCode cause),
                .bits 1 (causeMask t.supervisor.causes), .flag (!s.supervisor.storeValid),
                .flag s.supervisor.saving.isSome, .num 6 t.now] ++ optTime t.time.stationTime
              ++ [.num 4 t.stage.nextSequence] } := by
  obtain ⟨v, only, link, -, ended⟩ := reset_ends cause s
  have supervisor : t.supervisor = (startBlocks cause s).supervisor := by
    rw [t_eq, ended.supervisor, only.supervisor nofun]
  have now : t.now = (startBlocks cause s).supervisor.lastReset := by
    rw [t_eq, State.now, ended.time, only.time]
    rfl
  rw [← t_eq] at ended
  refine ⟨by rw [supervisor]; rfl, by rw [supervisor]; rfl, by rw [supervisor]; rfl, by rw [ended.link], ?_⟩
  rw [ended.link, ended.time, ended.stage, now]
  show some (restartFrame s.saveRuns v) = _
  rw [restartFrame, restartContent, ← ended.supervisor, supervisor]
  rfl

/-- R170: the store's settings, or the factory defaults. -/
theorem loadedSettings_eq (s : State) : loadedSettings s = if s.supervisor.storeValid = true then s.supervisor.store else
    { field := { ownAddress := 16, acceptBroadcast := true, groupSet := 0, inverseGroups := false
                 passAllGroups := false, postGroup := 128, capture := false, backoffBits := 6
                 singleAttempt := false }
      heads := Vector.replicate 8 { enable := false, address := 1, kind := .stage, channel := some 1, normal := 60
                                    quiet := 300 }
      channels := Vector.ofFn fun i =>
        { enable := false, gain := 1000000, offset := 0, sense := .direct, minimum := -999999, maximum := 999999
          stepLimit := 0, window := 5, staleTime := 300, rank := i.val + 1 }
      stage := { method := .middle, agreement := 0, required := 2, normalInterval := 60, quietInterval := 300
                 rateWindow := 900 }
      rules := Vector.replicate 8 { enable := false, kind := .stage, level := 1, setThreshold := 999999
                                    clearThreshold := 999999, confirmTime := 0, clearDelay := 0 }
      warning := { sirenLevel := 2, sirenRun := 120, repeatInterval := 900, withdrawLevel := 2 }
      monitor := { enable := true, exponent := 3 }, correction := 0
      carriage := { traverseScale := none, reelScale := none, span := none, tolerance := 50, stallTime := 5
                    weightOffset := 150, maxDepth := none, settleTime := 10 }
      rating := none, plan := { entries := [], defaultExposure := 60, changeLimit := 50 }
      notices := { master := true
                   sources := #v[5, 5, 5, 3, 3, 4, 2, 2, 2, 2, 1, 1, 1, 1, 1].map fun n =>
                     { enable := true, level := n } }
      wake := { levelChange := true, stage := false, wakeStage := 999999, rate := false, wakeRate := 99999
                levelFive := true, postFault := true }
      rate := 38400 } := by
  have notices : defaultNotices
      = { master := true
          sources := #v[5, 5, 5, 3, 3, 4, 2, 2, 2, 2, 1, 1, 1, 1, 1].map fun n => { enable := true, level := n } } := by
    refine congrArg (NoticeSettings.mk true) (Vector.ext fun i at_ => ?_)
    rw [Vector.getElem_ofFn, Vector.getElem_map]
    rfl
  rw [← notices]
  rfl

/-- 1.7: the time base after a cold reset. -/
theorem startTime_cold (x : Stored) (t : TimeBase) : (startTime true x t).runTime = 0 ∧ (startTime true x t).stationTime = none
    ∧ (startTime true x t).source = .rc ∧ (startTime true x t).arm = true ∧ (startTime true x t).crystal = .starting
    ∧ (startTime true x t).stepPending = false ∧ (startTime true x t).recordMark = true :=
  ⟨rfl, rfl, rfl, rfl, rfl, rfl, rfl⟩

/-- R81: the stage unit after a cold reset. -/
theorem startStage_cold (now : Nat) (x : Stored) (u : StageUnit) : (startStage true now x u).ring = []
    ∧ (startStage true now x u).nextSequence = 0 ∧ (startStage true now x u).stage = none
    ∧ (startStage true now x u).warmRestart = false :=
  ⟨rfl, rfl, rfl, rfl⟩

/-- R104: the warning unit after a cold reset. -/
theorem startWarning_cold (now : Nat) (x : Stored) (spell : Option Spell) (w : WarningUnit) :
    (startWarning true now x spell w).level = 0 ∧ (startWarning true now x spell w).floor = 0
      ∧ (startWarning true now x spell w).spell = none ∧ (startWarning true now x spell w).siren = .off
      ∧ (startWarning true now x spell w).autonomous = false ∧ (startWarning true now x spell w).lastChange = none
      ∧ ∀ i : Fin 8, (startWarning true now x spell w).rules[i].state = .idle
        ∧ (startWarning true now x spell w).rules[i].timer = .none
        ∧ (startWarning true now x spell w).rules[i].blind = (startWarning true now x spell w).rules[i].definition.enable := by
  refine ⟨rfl, rfl, rfl, rfl, rfl, rfl, fun i => ?_⟩
  have rule : (startWarning true now x spell w).rules[i] = startedRule x.rules[i] := by
    simp [startWarning, startRules]
  rw [rule]
  exact ⟨rfl, rfl, rfl⟩

/-- R1, R64, R81, R104, R123, R147, R168: what a cold reset leaves. -/
theorem reset_cold_leaves {cause : ResetCause} (cold : isCold cause = true) (s : State) {t : State}
    (t_eq : t = reset cause s) :
    (∃ x : Stored, t.time = startTime true x s.time ∧ t.stage = startStage true t.time.runTime x s.stage
        ∧ t.warning = startWarning true t.time.runTime x (warmSpell s) s.warning ∧ t.cable = startCable x s.cable
        ∧ t.gauging = startGauging x)
      ∧ t.field.lastSent = none ∧ t.field.captured = [] ∧ t.field.management = none
      ∧ (∃ now x, t.supervisor = startSupervisor cause now x s.supervisor)
      ∧ t.notices.hold = none ∧ t.link.inHand = none ∧ t.link.reply = none := by
  have ended : ResetEnded s.saveRuns (startBlocks cause s) t := by
    rw [t_eq, reset_cold cold]
    exact endReset_ended _ (startBlocks_ready cause s)
  have time : t.time = startTime true (loadedSettings s) s.time := by
    rw [ended.time, ← cold]
    rfl
  refine ⟨⟨_, time, ?_, ?_, ended.cable, ended.gauging⟩, ended.lastSent, ended.captured, ended.management rfl,
    ⟨_, _, ended.supervisor⟩, ended.hold, by rw [ended.link]; rfl, by rw [ended.link]; rfl⟩
  · rw [ended.stage, time, ← cold]
    rfl
  · rw [ended.warning, time, ← cold]
    rfl

/-- Settles O4: the blocks' starts, and what the end of the reset leaves of them. -/
theorem coldReset : Obligations.ColdReset := by
  unfold Obligations.ColdReset
  refine ⟨fun s c colds => ?_, fun s c cold cause x is x_eq => ?_⟩
  · obtain ⟨k, next, cold, causes⟩ : ∃ k, exec c s = .next (reset k s) ∧ isCold k = true
        ∧ markCause k s.supervisor.causes = (if c = .powerOn then { noCauses with powerOn := true }
          else { s.supervisor.causes with brownout := true }) := by
      rcases colds with rfl | rfl
      · exact ⟨.powerOn, rfl, rfl, rfl⟩
      · exact ⟨.brownout, rfl, rfl, rfl⟩
    obtain ⟨⟨x, time, stage, warning, cable, gauging⟩, lastSent, captured, management, ⟨now, y, supervisor⟩, hold, inHand, reply⟩ :=
      reset_cold_leaves cold s rfl
    obtain ⟨runTime, station, source, arm, crystal, step, mark⟩ := startTime_cold x s.time
    rw [← time] at runTime station source arm crystal step mark
    obtain ⟨ring, sequence, none_, warm⟩ := startStage_cold (reset k s).time.runTime x s.stage
    rw [← stage] at ring sequence none_ warm
    obtain ⟨level, floor, spell, siren, autonomous, last, rules⟩ :=
      startWarning_cold (reset k s).time.runTime x (warmSpell s) s.warning
    rw [← warning] at level floor spell siren autonomous last rules
    exact ⟨_, next, runTime, station, source, arm, crystal, step, mark, ring, sequence, none_, warm, level, floor, spell, siren,
      autonomous, last, rules, by rw [cable]; rfl, by rw [cable]; rfl, by rw [cable]; rfl, by rw [cable]; rfl, by rw [gauging]; rfl,
      lastSent, captured, management, by rw [supervisor]; rfl, by rw [supervisor]; rfl, by rw [supervisor]; rfl, hold, inHand, reply,
      by rw [supervisor]; rfl, by rw [supervisor]; exact causes⟩
  · rw [← loadedSettings_eq] at x_eq
    obtain ⟨k, next, colder, code⟩ : ∃ k, exec c s = .next (reset k s) ∧ isCold k = cold ∧ resetCode k = cause := by
      rcases is with ⟨rfl, rfl, rfl⟩ | ⟨rfl, rfl, rfl⟩ | ⟨rfl, rfl, rfl⟩ | ⟨rfl, due, rfl, rfl⟩
      · exact ⟨.powerOn, rfl, rfl, rfl⟩
      · exact ⟨.brownout, rfl, rfl, rfl⟩
      · exact ⟨.resetIn, rfl, rfl, rfl⟩
      · exact ⟨.restartRequest, congrArg Host.Outcome.next (if_pos due), rfl, rfl⟩
    refine ⟨_, next, ?_⟩
    obtain ⟨field, heads, channels, stage, rules, warning, monitor, correction, carriage, rating, plan, notices, wake, held,
      inForce⟩ := reset_loads k s x_eq rfl
    obtain ⟨store, valid, found, line, notice⟩ := reset_tells k s rfl
    rw [resetKindCode, colder, code] at notice
    rw [colder] at correction
    exact ⟨field, heads, channels, stage, rules, warning, monitor, correction, carriage, rating, plan, notices, wake, held, inForce,
      store, valid, found, line, notice⟩

end Sys2Proof.Machine

namespace Sys2Proof.Machine

/-! ## O5: what a warm reset keeps, and the level it leaves (R105, R168) -/

theorem warmRule_kept {now : Nat} {r : Rule} {d : RuleDef} (same : r.definition = d) (enable : d.enable = true) :
    warmRule now r d = { r with blind := true, timer := pauseTimer now r.timer, judged := false, lastChange := none } :=
  if_pos ⟨same, enable⟩

theorem warmRule_over {now : Nat} {r : Rule} {d : RuleDef} (over_ : r.definition ≠ d ∨ d.enable = false) :
    warmRule now r d = startedRule d := by
  refine if_neg fun ⟨same, enable⟩ => ?_
  rcases over_ with differs | disabled
  · exact differs same
  · exact absurd (disabled.symm.trans enable) nofun

/-- R105: a rule that holds a level after a warm reset held the same before it. -/
theorem holds_of_warmRule {now : Nat} {r : Rule} {d : RuleDef} (holds : ruleHolds (warmRule now r d) = true) :
    ruleHolds r = true ∧ r.definition = d := by
  by_cases kept : r.definition = d ∧ d.enable = true
  · rw [warmRule_kept kept.1 kept.2] at holds
    exact ⟨holds, kept.1⟩
  · rw [warmRule, if_neg kept] at holds
    exact absurd holds nofun

/-- R105: the state of a rule changes at a warm reset only to IDLE. -/
theorem warmRule_state (now : Nat) (r : Rule) (d : RuleDef) :
    (warmRule now r d).state = r.state ∨ (warmRule now r d).state = .idle := by
  unfold warmRule
  split
  · exact .inl rfl
  · exact .inr rfl

section
variable {k : ResetCause} {s : State}

theorem startBlocks_rulesLevel (warm : isCold k = false) :
    rulesLevel (startBlocks k s).warning.rules ≤ rulesLevel s.warning.rules := by
  refine (rulesLevel_le_iff _ _).2 fun i holds => ?_
  rw [startBlocks_rule warm] at holds ⊢
  obtain ⟨held, same⟩ := holds_of_warmRule holds
  rw [warmRule_definition, ← same]
  exact level_le_rulesLevel held

theorem startBlocks_floor (warm : isCold k = false) : (startBlocks k s).warning.floor = s.warning.floor := by
  simp [startBlocks, startWarning, warm]

theorem startBlocks_warningLevel (warm : isCold k = false) : (startBlocks k s).warning.level = s.warning.level := by
  simp [startBlocks, startWarning, warm]

/-- R105: a warm reset raises no level. -/
theorem startBlocks_computed (warm : isCold k = false) (held : s.LevelHeld) :
    computedLevel (startBlocks k s).warning ≤ s.warning.level := by
  have below := startBlocks_rulesLevel (s := s) warm
  have level : s.warning.level = max s.warning.floor (rulesLevel s.warning.rules) := held
  rw [computedLevel, startBlocks_floor warm, level]
  omega

/-- R91: the level that a warm reset lowers was held by a rule that starts over, and such a one is its cause. -/
theorem startBlocks_cause (warm : isCold k = false) (held : s.LevelHeld)
    (lower : computedLevel (startBlocks k s).warning < s.warning.level) : ∃ i : Fin 8,
    changeCause s.warning.rules (startBlocks k s).warning (computedLevel (startBlocks k s).warning) = .rule i
      ∧ s.warning.rules[i].definition.level = s.warning.level
      ∧ (s.warning.rules[i].state = .active ∨ s.warning.rules[i].state = .clearing)
      ∧ (startBlocks k s).warning.rules[i].state = .idle := by
  have level : s.warning.level = max s.warning.floor (rulesLevel s.warning.rules) := held
  have computed : computedLevel (startBlocks k s).warning
      = max s.warning.floor (rulesLevel (startBlocks k s).warning.rules) := by rw [computedLevel, startBlocks_floor warm]
  obtain ⟨u, u_eq⟩ : ∃ u, u = startBlocks k s := ⟨_, rfl⟩
  have rule : ∀ i : Fin 8, u.warning.rules[i] = warmRule s.now s.warning.rules[i] (loadedSettings s).rules[i] :=
    fun i => by rw [u_eq]; exact startBlocks_rule warm s i
  have stood : u.warning.level = s.warning.level := by rw [u_eq]; exact startBlocks_warningLevel warm
  rw [← u_eq] at lower computed ⊢
  obtain ⟨i, holds, top⟩ := rulesLevel_attained (rules := s.warning.rules) (by omega)
  have moved : s.warning.rules[i].state ≠ u.warning.rules[i].state := by
    intro same
    have holder : ruleHolds u.warning.rules[i] = true := by
      rw [ruleHolds, ← same]
      exact holds
    have reach := level_le_rulesLevel holder
    rw [rule i] at holder
    rw [rule i, warmRule_definition, ← (holds_of_warmRule holder).2] at reach
    omega
  have candidate : ((places 8).filter fun i => s.warning.rules[i].state != u.warning.rules[i].state).find?
      (fun i => ruleHolds s.warning.rules[i] && s.warning.rules[i].definition.level == u.warning.level) ≠ none := by
    rw [Ne, List.find?_eq_none]
    intro none_
    refine none_ i (List.mem_filter.2 ⟨mem_places i, bne_iff_ne.2 moved⟩) ?_
    rw [holds, stood, Bool.true_and, beq_iff_eq]
    omega
  obtain ⟨j, found⟩ := Option.ne_none_iff_exists'.1 candidate
  have mem := List.mem_of_find?_eq_some found
  have fits := List.find?_some found
  rw [List.mem_filter, bne_iff_ne] at mem
  rw [Bool.and_eq_true, beq_iff_eq, stood, ruleHolds, Bool.or_eq_true, beq_iff_eq, beq_iff_eq] at fits
  refine ⟨j, ?_, fits.2, fits.1, ?_⟩
  · unfold changeCause
    dsimp only
    rw [if_neg (by omega), found]
  · rw [rule j] at mem ⊢
    exact (warmRule_state _ _ _).resolve_left fun same => mem.2 same.symm

/-- R105: the level stands, or the warm reset has lowered it. -/
theorem reset_warm_level (warm : isCold k = false) (held : s.LevelHeld) :
    (computedLevel (startBlocks k s).warning = s.warning.level ∧ ResetEnded s.saveRuns (startBlocks k s) (reset k s))
      ∨ (computedLevel (startBlocks k s).warning < s.warning.level ∧ ∃ v, ResetEnded s.saveRuns v (reset k s)
        ∧ StartLevelled (changeCause s.warning.rules (startBlocks k s).warning (computedLevel (startBlocks k s).warning))
            (computedLevel (startBlocks k s).warning) (startBlocks k s) v) := by
  have starting := startBlocks_starting warm s
  have level := startBlocks_warningLevel (s := s) warm
  have below := startBlocks_computed warm held
  rw [reset_warm warm]
  by_cases stands : computedLevel (startBlocks k s).warning = s.warning.level
  · refine .inl ⟨stands, ?_⟩
    rw [recompute_stands (stands.trans level.symm)]
    exact endReset_ended _ starting.ready
  · have changes : computedLevel (startBlocks k s).warning ≠ (startBlocks k s).warning.level := by rw [level]; exact stands
    have levelled := changeLevel_levelled (cause := changeCause s.warning.rules (startBlocks k s).warning
      (computedLevel (startBlocks k s).warning)) starting rfl
    refine .inr ⟨Nat.lt_of_le_of_ne below stands, _, ?_, levelled⟩
    rw [recompute_changes changes]
    exact endReset_ended _ levelled.ready

/-- R105: either way the rules are those of the blocks' start, and the siren is OFF. -/
theorem reset_warm_rules (warm : isCold k = false) (held : s.LevelHeld) : (reset k s).warning.rules = (startBlocks k s).warning.rules
    ∧ (reset k s).warning.floor = s.warning.floor ∧ (reset k s).warning.siren = .off
    ∧ (reset k s).warning.level = computedLevel (startBlocks k s).warning := by
  have level := startBlocks_warningLevel (s := s) warm
  have floor := startBlocks_floor (s := s) warm
  rcases reset_warm_level warm held with ⟨stands, ended⟩ | ⟨lower, v, ended, levelled⟩
  · rw [ended.warning]
    exact ⟨rfl, floor, rfl, level.trans stands.symm⟩
  · rw [ended.warning, levelled.warning]
    refine ⟨rfl, floor, ?_, rfl⟩
    show (if _ then _ else if _ then _ else _) = _
    rw [if_neg (c := _ < computedLevel _) (by omega)]
    exact ite_self _

theorem startBlocks_stage (warm : isCold k = false) : (startBlocks k s).stage.ring = s.stage.ring
    ∧ (startBlocks k s).stage.nextSequence = s.stage.nextSequence ∧ (startBlocks k s).stage.warmRestart = true
    ∧ (startBlocks k s).stage.stage = none ∧ (startBlocks k s).stage.quality = .none ∧ (startBlocks k s).stage.waiting = [] := by
  simp [startBlocks, startStage, warm]

/-- R81, R105: where the level stands, so do the ring, its numbers and the last change of level. -/
theorem reset_warm_stands (warm : isCold k = false) (held : s.LevelHeld)
    (stands : (reset k s).warning.level = s.warning.level) : (reset k s).stage = (startBlocks k s).stage
      ∧ (reset k s).time = (startBlocks k s).time ∧ (reset k s).warning.lastChange = s.warning.lastChange := by
  obtain ⟨-, -, -, level⟩ := reset_warm_rules warm held
  rcases reset_warm_level warm held with ⟨-, ended⟩ | ⟨lower, -⟩
  · refine ⟨ended.stage, ended.time, ?_⟩
    rw [ended.warning]
    simp [startBlocks, startWarning, warm]
  · omega

/-- R73, R81: the event record of a level change that a warm reset makes. -/
theorem startTold_record {cause : LevelCause} {new : Nat} {u : State} (stage : u.stage.stage = none)
    (quality : u.stage.quality = .none) (run : u.run.state ≠ .active) (autonomous : u.warning.autonomous = false)
    (warm : u.stage.warmRestart = true) {r : StageRecord} (r_eq : r = builtRecord .event (startTold cause new u)) :
    r.sequence = u.stage.nextSequence ∧ r.runTime = u.now ∧ r.stage = none ∧ r.quality = .none ∧ r.rate = none ∧ r.level = new
      ∧ r.flags.event = true ∧ r.flags.warmRestart = true ∧ r.flags.runActive = false ∧ r.flags.autonomous = false := by
  rw [r_eq]
  refine ⟨rfl, rfl, stage, quality, ?_, rfl, rfl, warm, ?_, autonomous⟩
  · show u.stage.stage.bind _ = none
    rw [stage]
    rfl
  · exact beq_eq_false_iff_ne.2 run

/-- R105, R91, R73: where a rule that started over held the level, the change is recorded. -/
theorem reset_warm_lowers (warm : isCold k = false) (held : s.LevelHeld) {t : State} (t_eq : t = reset k s)
    (lower : t.warning.level < s.warning.level) :
    (∃ i : Fin 8, t.warning.lastChange = some
        { oldLevel := s.warning.level, newLevel := t.warning.level, cause := .rule i, runTime := s.now }
      ∧ s.warning.rules[i].definition.level = s.warning.level
      ∧ (s.warning.rules[i].state = .active ∨ s.warning.rules[i].state = .clearing)
      ∧ t.warning.rules[i].state = .idle)
    ∧ (t.warning.beaconA = true ↔ 1 ≤ t.warning.level) ∧ (t.warning.beaconB = true ↔ 2 ≤ t.warning.level)
    ∧ ((∀ r, s.stage.ring.getLast? = some r → r.runTime < s.now) →
        ∃ r, t.stage.ring = s.heldRecords ++ [r]
          ∧ r.sequence = s.stage.nextSequence ∧ r.runTime = s.now ∧ r.stage = none ∧ r.quality = .none
          ∧ r.rate = none ∧ r.level = t.warning.level ∧ r.flags.event = true ∧ r.flags.warmRestart = true
          ∧ r.flags.runActive = false ∧ r.flags.autonomous = false ∧ t.stage.warmRestart = false)
    ∧ ((∃ r, s.stage.ring.getLast? = some r ∧ s.now ≤ r.runTime) →
        t.stage.ring = s.stage.ring ∧ t.stage.waiting = [.event] ∧ t.stage.warmRestart = true) := by
  obtain ⟨rules, -, -, level⟩ := reset_warm_rules warm held
  obtain ⟨ring, sequence, restart, stage, quality, waiting⟩ := startBlocks_stage (s := s) warm
  have now := startBlocks_now warm s
  have stood := startBlocks_warningLevel (s := s) warm
  have opens : ringOpen (startBlocks k s) = true ↔ ∀ r, s.stage.ring.getLast? = some r → r.runTime < s.now := by
    rw [ringOpen_iff, ring, now]
  rw [← t_eq] at rules level
  rcases reset_warm_level warm held with ⟨stands, -⟩ | ⟨-, v, ended, levelled⟩
  · omega
  rw [← t_eq] at ended
  obtain ⟨i, cause, top, holds, idle⟩ := startBlocks_cause warm held (by omega)
  have last : t.warning.lastChange = some
      { oldLevel := (startBlocks k s).warning.level, newLevel := t.warning.level, cause := .rule i
        runTime := (startBlocks k s).now } := by
    rw [level, ← cause, ended.warning, levelled.warning]
    rfl
  have beacons : t.warning.beaconA = decide (1 ≤ t.warning.level) ∧ t.warning.beaconB = decide (2 ≤ t.warning.level) := by
    rw [level, ended.warning, levelled.warning]
    exact ⟨rfl, rfl⟩
  refine ⟨⟨i, by rw [last, stood, now], top, holds, by rw [rules]; exact idle⟩, by rw [beacons.1, decide_eq_true_iff],
    by rw [beacons.2, decide_eq_true_iff], fun later => ?_, fun ⟨r, newest, notLater⟩ => ?_⟩
  · have joined := levelled.opened (opens.2 later)
    obtain ⟨number, time, absent, none_, rate, level', event, warm', idle', off⟩ := startTold_record
      (cause := changeCause s.warning.rules (startBlocks k s).warning (computedLevel (startBlocks k s).warning))
      (new := computedLevel (startBlocks k s).warning) stage quality nofun rfl restart rfl
    refine ⟨_, ?_, number.trans sequence, time.trans now, absent, none_, rate, level'.trans level.symm, event, warm', idle', off, ?_⟩
    · rw [ended.stage, joined, ← ringRoom_ring, ← ring]
      rfl
    · rw [ended.stage, joined]
      rfl
  · have shut : ringOpen (startBlocks k s) = false := by
      rw [← Bool.not_eq_true, opens]
      intro later
      have := later r newest
      omega
    rw [ended.stage, levelled.shut shut]
    exact ⟨ring, rfl, restart⟩

/-- R105: each rule after a warm reset. -/
theorem reset_warm_rule (warm : isCold k = false) (held : s.LevelHeld) {t : State} (t_eq : t = reset k s) (i : Fin 8) {d : RuleDef}
    (d_eq : d = (loadedSettings s).rules[i]) : t.warning.rules[i].definition = d ∧ t.warning.rules[i].blind = d.enable
      ∧ (s.warning.rules[i].definition = d → d.enable = true →
          t.warning.rules[i].state = s.warning.rules[i].state
            ∧ t.warning.rules[i].lastValue = s.warning.rules[i].lastValue
            ∧ t.warning.rules[i].timer = pauseTimer s.now s.warning.rules[i].timer)
      ∧ (s.warning.rules[i].definition ≠ d ∨ d.enable = false →
          t.warning.rules[i].state = .idle ∧ t.warning.rules[i].timer = .none
            ∧ t.warning.rules[i].lastValue = none) := by
  have rule : t.warning.rules[i] = warmRule s.now s.warning.rules[i] d := by
    rw [t_eq, (reset_warm_rules warm held).1, startBlocks_rule warm, d_eq]
  rw [rule]
  refine ⟨warmRule_definition _ _ _, ?_, fun same enable => ?_, fun over_ => ?_⟩
  · by_cases kept : s.warning.rules[i].definition = d ∧ d.enable = true
    · rw [warmRule_kept kept.1 kept.2, kept.2]
    · rw [warmRule, if_neg kept]
      rfl
  · rw [warmRule_kept same enable]
    exact ⟨rfl, rfl, rfl⟩
  · rw [warmRule_over over_]
    exact ⟨rfl, rfl, rfl⟩

end

/-- Settles O5: the blocks' starts, and the level that the reset computes on them. -/
theorem warmReset : Obligations.WarmReset := by
  unfold Obligations.WarmReset
  have reached : ∀ (s : State) (c : Instr), c = .resetIn ∨ (c = .restartRequest ∧ s.link.restart = .due) →
      ∃ k, exec c s = .next (reset k s) ∧ isCold k = false
        ∧ markCause k s.supervisor.causes = (if c = .resetIn then { s.supervisor.causes with resetIn := true }
          else { s.supervisor.causes with restartRequest := true }) := by
    rintro s c (rfl | ⟨rfl, due⟩)
    · exact ⟨.resetIn, rfl, rfl, rfl⟩
    · exact ⟨.restartRequest, congrArg Host.Outcome.next (if_pos due), rfl, rfl⟩
  refine ⟨fun s c resets held floor => ?_, fun s c resets held => ?_⟩
  · obtain ⟨k, next, warm, causes⟩ := reached s c resets
    have below := startBlocks_computed warm held
    have above : s.warning.floor ≤ computedLevel (startBlocks k s).warning := by
      rw [← startBlocks_floor (s := s) warm]
      exact Nat.le_max_left _ _
    have started := (reset_warm_level warm held).resolve_right fun lowered => by
      obtain ⟨lower, -⟩ := lowered
      omega
    obtain ⟨stands, ended⟩ := started
    obtain ⟨-, floor', siren, level⟩ := reset_warm_rules warm held
    obtain ⟨stage, time, last⟩ := reset_warm_stands warm held (level.trans stands)
    obtain ⟨ring, sequence, restart, stage', quality, waiting⟩ := startBlocks_stage (s := s) warm
    have timed : (startBlocks k s).time = { s.time with activeTrim := Config.factoryTrim, exposureSpan := none } := by
      simp [startBlocks, startTime, warm]
    refine ⟨_, next, time.trans timed, ?_⟩
    rw [stage]
    exact ⟨ring, sequence, restart, stage', quality, waiting, level.trans stands, floor', last, siren, by rw [ended.warning]; rfl,
      by rw [ended.cable]; rfl, by rw [ended.cable]; rfl, by rw [ended.gauging]; rfl, by rw [ended.supervisor]; rfl,
      by rw [ended.supervisor]; rfl, by rw [ended.link]; rfl, by rw [ended.link]; rfl, by rw [ended.supervisor]; exact causes⟩
  · obtain ⟨k, next, warm, -⟩ := reached s c resets
    obtain ⟨-, floor, siren, level⟩ := reset_warm_rules warm held
    obtain ⟨ring, -, restart, -, -, waiting⟩ := startBlocks_stage (s := s) warm
    refine ⟨_, next, kept_levelHeld.reset held k, by rw [level]; exact startBlocks_computed warm held, floor, siren,
      fun i d d_eq => ?_, fun stands => ?_, reset_warm_lowers warm held rfl⟩
    · obtain ⟨definition, blind, kept, over_⟩ := reset_warm_rule warm held rfl i (d := d) (by rw [d_eq]; rfl)
      refine ⟨definition, blind, fun same enable => ?_, over_⟩
      obtain ⟨state, value, timer⟩ := kept same enable
      refine ⟨state, value, timer.trans ?_⟩
      cases s.warning.rules[i].timer <;> rfl
    · obtain ⟨stage, -, last⟩ := reset_warm_stands warm held stands
      rw [stage]
      exact ⟨ring, waiting, last, restart⟩

end Sys2Proof.Machine

namespace Sys2Proof.Machine

/-! ## O8: whole numbers in octets, and back (R164) -/

theorem octetsNat_concat (bs : List Byte) (b : Byte) : octetsNat (bs ++ [b]) = 256 * octetsNat bs + b.toNat := by
  simp [octetsNat, List.foldl_append]

/-- R164: so many octets spell a whole number but for its multiples of 256 ^ n. -/
theorem octetsNat_number (n : Nat) (v : Int) : (octetsNat (numberOctets n v) : Int) = v % 256 ^ n := by
  induction n generalizing v with
  | zero => simp [numberOctets, octetsNat]
  | succ n ih =>
    have octet : ((BitVec.ofInt 8 v).toNat : Int) = v % 256 := by
      rw [BitVec.toNat_ofInt]
      omega
    have power : (0 : Int) < 256 ^ n := by positivity
    have low := Int.emod_nonneg (v / 256) power.ne'
    have high := Int.emod_lt_of_pos (v / 256) power
    have split : v / 256 % 256 ^ n + 256 ^ n * (v / 256 / 256 ^ n) = v / 256 := Int.emod_add_mul_ediv ..
    rw [numberOctets, octetsNat_concat, Nat.cast_add, Nat.cast_mul, ih, octet]
    refine ((Int.ediv_emod_unique (q := v / 256 / 256 ^ n) (by positivity)).2 ⟨?_, ?_, ?_⟩).2.symm
    · linear_combination 256 * split + Int.emod_add_mul_ediv v 256
    · omega
    · rw [pow_succ]
      omega

theorem natFits_iff (n k : Nat) : natFits n k = true ↔ k < 256 ^ n := decide_eq_true_iff

theorem intFits_iff (n : Nat) (v : Int) : intFits n v = true ↔ -(256 ^ n : Int) ≤ 2 * v ∧ 2 * v < 256 ^ n := decide_eq_true_iff

theorem octetsNat_numberNat {n k : Nat} (fits : natFits n k = true) : octetsNat (numberOctets n k) = k := by
  have spelt := octetsNat_number n k
  rw [natFits_iff] at fits
  rw [Int.emod_eq_of_lt (by omega) (by exact_mod_cast fits)] at spelt
  exact_mod_cast spelt

theorem octetsInt_number {n : Nat} {v : Int} (fits : intFits n v = true) : octetsInt (numberOctets n v) = v := by
  have spelt := octetsNat_number n v
  rw [intFits_iff] at fits
  obtain ⟨least, most⟩ := fits
  unfold octetsInt
  rw [numberOctets_length]
  rcases Int.lt_or_le v 0 with negative | positive
  · have wrapped : v % 256 ^ n = v + 256 ^ n := by
      rw [← Int.add_emod_right, Int.emod_eq_of_lt (by omega) (by omega)]
    rw [wrapped] at spelt
    rw [if_neg (by zify; omega), spelt]
    omega
  · rw [Int.emod_eq_of_lt positive (by omega)] at spelt
    rw [if_pos (by zify; omega), spelt]

end Sys2Proof.Machine

namespace Sys2Proof.Machine

/-! ## O8: each reader on the octets of its fields (R164) -/

/-- A whole number is read back. -/
@[simp] theorem readNat_number {n k : Nat} (fits : natFits n k = true) (rest : List Byte) :
    readNat n (numberOctets n k ++ rest) = some (k, rest) := by
  rw [readNat, if_pos (by simp), List.take_left' (numberOctets_length ..), List.drop_left' (numberOctets_length ..),
    octetsNat_numberNat fits]

@[simp] theorem readNat_number_all {n k : Nat} (fits : natFits n k = true) : readNat n (numberOctets n k) = some (k, []) := by
  have read := readNat_number fits []
  rwa [List.append_nil] at read

@[simp] theorem readInt_number {n : Nat} {v : Int} (fits : intFits n v = true) (rest : List Byte) :
    readInt n (numberOctets n v ++ rest) = some (v, rest) := by
  rw [readInt, if_pos (by simp), List.take_left' (numberOctets_length ..), List.drop_left' (numberOctets_length ..),
    octetsInt_number fits]

@[simp] theorem readInt_number_all {n : Nat} {v : Int} (fits : intFits n v = true) :
    readInt n (numberOctets n v) = some (v, []) := by
  have read := readInt_number fits []
  rwa [List.append_nil] at read

/-- The number of an enumeration and a count take one octet, as a whole number does. -/
@[simp] theorem fieldOctets_code (n : Nat) : fieldOctets (.code n) = numberOctets 1 n := rfl

@[simp] theorem fieldOctets_count (n : Nat) : fieldOctets (.count n) = numberOctets 1 n := rfl

@[simp] theorem fieldOctets_num (n : Nat) (v : Int) : fieldOctets (.num n v) = numberOctets n v := rfl

@[simp] theorem fieldOctets_bits (n m : Nat) : fieldOctets (.bits n m) = numberOctets n m := rfl

/-- An optional operand is read back, absent or present. -/
theorem readOpt_fields {α : Type} {r : Reader α} {f : α → List Field} (x : Option α) (rest : List Byte)
    (reads : ∀ a, x = some a → r (payloadOctets (f a) ++ rest) = some (a, rest)) :
    readOpt r (payloadOctets (optFields x f) ++ rest) = some (x, rest) := by
  cases x with
  | none => rfl
  | some a =>
    show (r (payloadOctets (f a) ++ rest)).map _ = _
    rw [reads a rfl]
    rfl

theorem optField_eq {α : Type} (x : Option α) (f : α → Field) : optField x f = optFields x fun a => [f a] := by
  cases x <;> rfl

@[simp] theorem readOpt_nat {n : Nat} {x : Option Nat} (fits : optFits n x = true) (rest : List Byte) :
    readOpt (readNat n) (payloadOctets (optOperand n x) ++ rest) = some (x, rest) := by
  rw [optOperand, optField_eq]
  refine readOpt_fields x rest fun a is => ?_
  subst is
  have fits : natFits n a = true := fits
  simp [fits]

@[simp] theorem readOpt_nat_all {n : Nat} {x : Option Nat} (fits : optFits n x = true) :
    readOpt (readNat n) (payloadOctets (optOperand n x)) = some (x, []) := by
  have read := readOpt_nat fits []
  rwa [List.append_nil] at read

/-- A list of items is read back, one after the other. -/
theorem readItems_fields {α : Type} {r : Reader α} {f : α → List Field} (xs : List α)
    (reads : ∀ a ∈ xs, ∀ rest, r (payloadOctets (f a) ++ rest) = some (a, rest)) :
    readItems r xs.length (payloadOctets (xs.map f).flatten) = some (xs, []) := by
  induction xs with
  | nil => rfl
  | cons x xs ih =>
    have more := ih fun a mem => reads a (List.mem_cons_of_mem x mem)
    have here := reads x List.mem_cons_self
    rw [List.map_cons, List.flatten_cons, payloadOctets_append, List.length_cons]
    simp only [readItems, here, more]
    rfl

/-! ### The requests with several operands -/

theorem readFieldSet_fields {a : FieldSetArgs} (fits : a.fits = true) :
    readFieldSet (payloadOctets (requestFields (.fieldSet a))) = some (.fieldSet a, []) := by
  simp [FieldSetArgs.fits, octetsFit] at fits
  simp [readFieldSet, requestFields, fits]

theorem readHeadSet_fields {a : HeadSetArgs} (fits : a.fits = true) :
    readHeadSet (payloadOctets (requestFields (.headSet a))) = some (.headSet a, []) := by
  simp [HeadSetArgs.fits, octetsFit, pairsFit] at fits
  simp [readHeadSet, requestFields, fits]

theorem readChannelSet_fields {a : ChannelSetArgs} (fits : a.fits = true) :
    readChannelSet (payloadOctets (requestFields (.channelSet a))) = some (.channelSet a, []) := by
  simp [ChannelSetArgs.fits, octetsFit, pairsFit] at fits
  simp [readChannelSet, requestFields, fits]

theorem readStageSet_fields {a : StageSetArgs} (fits : a.fits = true) :
    readStageSet (payloadOctets (requestFields (.stageSet a))) = some (.stageSet a, []) := by
  simp [StageSetArgs.fits, octetsFit, pairsFit] at fits
  simp [readStageSet, requestFields, fits]

theorem readRuleSet_fields {a : RuleSetArgs} (fits : a.fits = true) :
    readRuleSet (payloadOctets (requestFields (.ruleSet a))) = some (.ruleSet a, []) := by
  simp [RuleSetArgs.fits, octetsFit, pairsFit] at fits
  simp [readRuleSet, requestFields, fits]

theorem readWarningSet_fields {a : WarningSetArgs} (fits : a.fits = true) :
    readWarningSet (payloadOctets (requestFields (.warningSet a))) = some (.warningSet a, []) := by
  simp [WarningSetArgs.fits, octetsFit, pairsFit] at fits
  simp [readWarningSet, requestFields, fits]

theorem readCarriageSet_fields {a : CarriageSetArgs} (fits : a.fits = true) :
    readCarriageSet (payloadOctets (requestFields (.carriageSet a))) = some (.carriageSet a, []) := by
  simp [CarriageSetArgs.fits, octetsFit, pairsFit] at fits
  simp [readCarriageSet, requestFields, fits]

theorem readPlanPut_fields {a : PlanPutArgs} (fits : a.fits = true) :
    readPlanPut (payloadOctets (requestFields (.planPut a))) = some (.planPut a, []) := by
  simp [PlanPutArgs.fits, octetsFit] at fits
  simp [readPlanPut, requestFields, fits]

theorem readWakeSet_fields {a : WakeSetArgs} (fits : a.fits = true) :
    readWakeSet (payloadOctets (requestFields (.wakeSet a))) = some (.wakeSet a, []) := by
  simp [WakeSetArgs.fits, octetsFit] at fits
  simp [readWakeSet, requestFields, fits]

theorem readHeadParam_fields {a : HeadParamArgs} (fits : a.fits = true) :
    readHeadParam (payloadOctets (requestFields (.headParam a))) = some (.headParam a, []) := by
  simp [HeadParamArgs.fits, octetsFit, Option.all_eq_true] at fits
  obtain ⟨⟨entry, operation, parameter⟩, value⟩ := fits
  have read : readOpt (readInt 4) (payloadOctets (optField a.value fun v => .num 4 v)) = some (a.value, []) := by
    have read := readOpt_fields (r := readInt 4) (f := fun v => [.num 4 v]) a.value [] fun v is => by
      simp [value v is]
    rwa [List.append_nil, ← optField_eq] at read
  simp [readHeadParam, requestFields, entry, operation, parameter, read]

theorem readSegment_fields {g : Segment} (fits : g.fits = true) (rest : List Byte) :
    readSegment (payloadOctets [.num 3 g.lower, .num 2 g.intercept, .num 3 g.pitch] ++ rest) = some (g, rest) := by
  simp [Segment.fits] at fits
  simp [readSegment, fits]

theorem readMeterSet_fields {a : MeterSetArgs} (fits : a.fits = true) :
    readMeterSet (payloadOctets (requestFields (.meterSet a))) = some (.meterSet a, []) := by
  simp [MeterSetArgs.fits, octetsFit] at fits
  obtain ⟨⟨⟨ratio, start⟩, few⟩, segments⟩ := fits
  have count : natFits 1 a.segments.length = true := by
    rw [natFits_iff]
    omega
  have read := readItems_fields a.segments fun g mem => readSegment_fields (segments g mem)
  simp [readMeterSet, requestFields, listFields, ratio, start, count, read]

theorem readNoticeItem_fields {x : NoticeItem} (fits : x.fits = true) :
    readNoticeItem (payloadOctets [.num 1 x.source, .num 1 x.enable, .num 1 x.level] ++ []) = some (x, []) := by
  simp [NoticeItem.fits, octetsFit] at fits
  simp [readNoticeItem, fits]

theorem readNoticeSet_fields {master : Nat} {item : Option NoticeItem}
    (fits : (Request.noticeSet master item).wellFormed = true) :
    readNoticeSet (payloadOctets (requestFields (.noticeSet master item))) = some (.noticeSet master item, []) := by
  simp [Request.wellFormed, Option.all_eq_true] at fits
  obtain ⟨master, items⟩ := fits
  have read := readOpt_fields (r := readNoticeItem) item [] fun x is => readNoticeItem_fields (items x is)
  rw [List.append_nil] at read
  simp [readNoticeSet, requestFields, master, read]

end Sys2Proof.Machine

namespace Sys2Proof.Machine

/-! ## O8: the frame of a request is read back (R159, R161, R167) -/

theorem readOne_number {n k : Nat} (fits : natFits n k = true) (f : Nat → Request) :
    readOne (readNat n) f (payloadOctets [.num n k]) = some (f k, []) := by
  simp [readOne, fits]

theorem readOne_signed {n : Nat} {v : Int} (fits : intFits n v = true) (f : Int → Request) :
    readOne (readInt n) f (payloadOctets [.num n v]) = some (f v, []) := by
  simp [readOne, fits]

/-- R161, R164: the payload of a request holds exactly its fields. -/
theorem frameContent_request {q : Request} (fits : q.wellFormed = true) :
    frameContent (requestKind q) (payloadOctets (requestFields q)) = .ok q := by
  obtain ⟨r, names, reads⟩ : ∃ r, requestReader (requestKind q).toNat = some r
      ∧ r (payloadOctets (requestFields q)) = some (q, []) := by
    cases q with
    | linkSet | timeSet | timeSource | headRead | channelRead | ruleRead | warningFloor | planRead | resultRead | hold =>
      exact ⟨_, rfl, readOne_number fits _⟩
    | trimSet => exact ⟨_, rfl, readOne_signed fits _⟩
    | fieldSet => exact ⟨_, rfl, readFieldSet_fields fits⟩
    | headSet => exact ⟨_, rfl, readHeadSet_fields fits⟩
    | headParam => exact ⟨_, rfl, readHeadParam_fields fits⟩
    | channelSet => exact ⟨_, rfl, readChannelSet_fields fits⟩
    | stageSet => exact ⟨_, rfl, readStageSet_fields fits⟩
    | recordRead =>
      simp [Request.wellFormed] at fits
      exact ⟨_, rfl, by simp [readRecordRead, requestFields, fits]⟩
    | ruleSet => exact ⟨_, rfl, readRuleSet_fields fits⟩
    | warningSet => exact ⟨_, rfl, readWarningSet_fields fits⟩
    | monitorSet =>
      simp [Request.wellFormed, octetsFit] at fits
      exact ⟨_, rfl, by simp [readMonitorSet, requestFields, fits]⟩
    | carriageSet => exact ⟨_, rfl, readCarriageSet_fields fits⟩
    | meterSet => exact ⟨_, rfl, readMeterSet_fields fits⟩
    | planClear =>
      simp [Request.wellFormed] at fits
      exact ⟨_, rfl, by simp [readPlanClear, requestFields, fits]⟩
    | planPut => exact ⟨_, rfl, readPlanPut_fields fits⟩
    | wakeSet => exact ⟨_, rfl, readWakeSet_fields fits⟩
    | noticeSet => exact ⟨_, rfl, readNoticeSet_fields fits⟩
    | identify | timeRead | captureRead | stageRead | warningRead | warningAck | carriageHome | carriageRead | runStart | runSkip
    | runAbort | runRead | quiet | causeRead | causeClear | noticeDone | save | restart => exact ⟨_, rfl, rfl⟩
  unfold frameContent
  rw [names]
  dsimp only
  rw [reads]

theorem optOperand_length (n : Nat) (x : Option Nat) : (payloadOctets (optOperand n x)).length ≤ n + 1 := by
  cases x <;> simp [optOperand, optField, fieldOctets]

/-- R164: the segments of a rating are eight octets each. -/
theorem segments_length (xs : List Segment) : (payloadOctets (xs.map fun g : Segment =>
    [Field.num 3 g.lower, .num 2 g.intercept, .num 3 g.pitch]).flatten).length = 8 * xs.length := by
  induction xs with
  | nil => rfl
  | cons x xs ih =>
    rw [List.map_cons, List.flatten_cons, payloadOctets_append, List.length_append, ih]
    simp
    omega

/-- R159: no request is longer than LEN may say. -/
theorem requestFields_length {q : Request} (fits : q.wellFormed = true) : (payloadOctets (requestFields q)).length ≤ 200 := by
  cases q with
  | meterSet a =>
    have fits : a.fits = true := fits
    simp [MeterSetArgs.fits] at fits
    obtain ⟨⟨-, few⟩, -⟩ := fits
    have segments := segments_length a.segments
    simp [requestFields, listFields, segments]
    omega
  | headSet a =>
    have channel := optOperand_length 1 a.channel
    simp [requestFields]
    omega
  | planPut a =>
    have depth := optOperand_length 2 a.depth
    have coefficient := optOperand_length 2 a.coefficient
    have exposure := optOperand_length 1 a.exposure
    simp [requestFields]
    omega
  | headParam a => cases value : a.value <;> simp [requestFields, optField, value, fieldOctets]
  | noticeSet master item => cases item <;> simp [requestFields, optFields, fieldOctets]
  | _ => simp [requestFields]

theorem crcOctets_length (octets : List Byte) : (crcOctets octets).length = 2 := rfl

/-- R159, R167: the frame that these octets spell. -/
theorem hostFrameOf_body (kind tag : Byte) {payload : List Byte} (short : payload.length ≤ 200) :
    hostFrameOf (hostBody kind tag payload) = some { kind := kind, tag := tag, content := frameContent kind payload } := by
  have len : (BitVec.ofNat 8 payload.length).toNat = payload.length := by
    rw [BitVec.toNat_ofNat, Nat.mod_eq_of_lt (by omega)]
  unfold hostBody hostFrameOf
  simp only [List.cons_append]
  rw [len, List.take_left' rfl, List.drop_left' rfl, if_pos ⟨short, by rw [List.length_append, crcOctets_length], rfl⟩]

theorem exec_requestCommand (tag : Byte) (q : Request) (s : State) :
    exec (requestCommand tag q) s = .next (requestArrives tag q s) := by
  cases q <;> rfl

/-- Settles O8: the payload is read back field by field, and the frame around it by its LEN. -/
theorem requestFrameRoundTrip : Obligations.RequestFrameRoundTrip := by
  unfold Obligations.RequestFrameRoundTrip
  intro tag q fits
  have spells : hostFrameOf (requestOctets tag q) = some (requestFrame tag q) := by
    rw [requestOctets, hostFrameOf_body _ _ (requestFields_length fits), frameContent_request fits]
    rfl
  refine ⟨spells, fun s => ?_⟩
  rw [exec_requestCommand]
  exact congrArg Host.Outcome.next (hostOctetsArrive_frame s spells)

end Sys2Proof.Machine
